-- ==== Sys2Proof/Word.lean ====
section
/-! DEFINITION. The words of the station: bytes, sixteen-bit numbers and slot numbers. -/

namespace Sys2Proof

/-- One byte, on the lane or on the card port. -/
abbrev Byte := BitVec 8

/-- A two-byte number (a tag, an alarm code, a check field). -/
abbrev Word16 := BitVec 16

/-- A four-byte number (cabinet seconds, an air offset as given). -/
abbrev Word32 := BitVec 32

/-- A slot of the cabinet, 0..15 (00_scope.md section 4.4). -/
abbrev Slot := Fin 16

/-- The sixteen slots, lowest first. -/
def allSlots : List Slot := [0, 1, 2, 3, 4, 5, 6, 7, 8, 9, 10, 11, 12, 13, 14, 15]

end Sys2Proof
end

