-- ==== Sys2Proof/Syntax.lean ====
section
/-! DEFINITION. The commands of the station: one constructor per row of spec/opcode_table.json. -/

namespace Sys2Proof

/-- The lane over one local period, as far as R19 and R21 look at it. -/
inductive LaneLevel where
  /-- Recessive at the start of the period. -/
  | recessive
  /-- Dominant at the start and recessive somewhere within. -/
  | broken
  /-- Dominant throughout. -/
  | dominant
  deriving DecidableEq, Repr

/-- The four pins that carry strobe pulses (R122). -/
inductive StrobePin where
  | subframe | frame | pps | resync
  deriving DecidableEq, Repr

/-- The two queues of card frames (R66). -/
inductive CardQueue where
  | express | bulk
  deriving DecidableEq, Repr

/-- How a receiver loses its place (R2, R13). -/
inductive LossCause where
  /-- An idle byte time inside the frame. -/
  | idleInFrame
  /-- A code violation in the key or later. -/
  | codeViolation
  /-- A dominant level in the gap. -/
  | dominantInGap
  /-- A received length above 256. -/
  | lengthAbove256
  /-- On an open lane, a dominant symbol that is no start mark. -/
  | strayDominant
  deriving DecidableEq, Repr

/-- What a receiver has read of a frame after its key, at the end of the check field or at the abort
symbol (R7, R12). The length field is the length of `payload`. -/
structure RxFrame where
  kind    : Byte
  dest    : Byte
  seq     : Byte
  payload : List Byte
  check   : Word16
  aborted : Bool
  deriving DecidableEq, Repr

/-- The fields of CONFIGURE as given (R190). -/
structure ConfigArgs where
  cardType     : Byte
  eligible     : Bool
  external     : Bool
  relayCapable : Bool
  airOffset    : Word32
  pitch        : Byte
  holdLimit    : Word16
  t0           : Word16
  t1           : Word16
  t2           : Word16
  t3           : Word16
  expressShare : Word16
  cardTimeout  : Byte
  txRoom       : Byte
  reapLevel    : Byte
  deriving DecidableEq, Repr

/-- The commands: the operations and events of spec/opcode_table.json, in the table's order. Operands
are what the outside brings with the event: levels read from pins and from the lane, and the
arguments of a request as its bytes give them. -/
inductive Instr where
  | powerReset (straps : Slot)
  | pinReset
  | restartReset
  | resetHoldEnd
  | seatLost
  | seatPresent
  | latchOpens
  | latchCloses
  /-- `air`: AIR_ACTIVE as read if a step is requested (R127). -/
  | extPpsEdge (air : Bool)
  /-- `level`: the lane over the period. -/
  | localPeriod (level : LaneLevel)
  | subframeStrobe
  | frameStrobe
  | ppsStrobe
  | strobePulseEnd (pin : StrobePin)
  | laneOpening
  | startMark
  /-- `lane`: the key byte as this station reads it from the lane. -/
  | keyComplete (lane : Byte)
  | readbackMismatch
  /-- `air`: AIR_ACTIVE as read if a step is requested (R127). -/
  | frameHandover (frame : RxFrame) (air : Bool)
  | frameAbandoned (cause : LossCause)
  /-- The three mark positions as the transmitter reads them. -/
  | attemptResult (flaw : Bool) (taken : Bool) (refused : Bool)
  | stuckBegins
  | stuckEnds
  | stuckClearExpiry
  | listenComplete
  | leavePlaced
  | drain40ms
  | drain50ms
  | silentTimeout (slot : Slot)
  | absentTimeout (slot : Slot)
  | leftExpiry (slot : Slot)
  | flawTimeAged (slot : Slot)
  | barEnds (slot : Slot)
  | silenceTimerExpiry
  | backoffEnds (queue : CardQueue)
  | candidateDeadline (slot : Slot)
  | claimExpiry
  | beaconIntervalExpiry
  | extLossExpiry
  | announcementStale
  | holdoverExpiry
  | unlockedExpiry
  | refreshExpiry
  | staggerExpiry
  | placementRetryExpiry
  | watchdogExpiry
  | transactionDiscarded
  | unknownRequest (code : Byte) (args : List Byte)
  | configure (args : ConfigArgs)
  | send (tag : Word16) (cls : Byte) (tier : Byte) (dest : Byte) (payload : List Byte)
  | take (selector : Byte)
  | reap
  | viewStation
  | viewRoster (slot : Byte)
  | viewQueues
  | viewReference
  | viewAlarms
  | readHold
  | readNext
  | readPrev
  | readAdvance
  /-- `k`: a signed byte. -/
  | readPeek (k : Byte)
  | seekFirst
  | seekLast
  /-- `subject`: none, or a slot number as given. -/
  | raise (code : Word16) (severity : Byte) (subject : Option Byte)
  | clear (code : Word16) (subject : Option Byte)
  | time
  | externalTime (second : Word32)
  | release
  | setPeriodic (index : Byte) (skip : Byte) (phase : Byte) (dest : Byte) (tier : Byte) (payload : List Byte)
  | resetTraffic
  | resetTiming
  | resetView
  | restart
  | pwrGoodFalls
  deriving DecidableEq, Repr

end Sys2Proof
end

