-- ==== Sys2Proof/Decode.lean ====
section
/-! DEFINITION. What a word of the opcode table spells, and the request bytes of the card port: which command
they spell, and the bytes of each request (R206). -/

namespace Sys2Proof

/-- No row of spec/opcode_table.json gives bits, so no word spells a command. -/
def decodeTableWord (nbits w : Nat) : Option Instr :=
  match nbits, w with
  | _, _ => none

/-! ### Request bytes (R206): multi-byte numbers most significant byte first -/

/-- Two bytes as a number. -/
def word16Of (b1 b0 : Byte) : Word16 := b1 ++ b0

/-- Four bytes as a number. -/
def word32Of (b3 b2 b1 b0 : Byte) : Word32 := b3 ++ b2 ++ b1 ++ b0

/-- The bytes of a two-byte number. -/
def bytes16 (w : Word16) : List Byte := [w.extractLsb' 8 8, w.extractLsb' 0 8]

/-- The bytes of a four-byte number. -/
def bytes32 (w : Word32) : List Byte :=
  [w.extractLsb' 24 8, w.extractLsb' 16 8, w.extractLsb' 8 8, w.extractLsb' 0 8]

/-- R206: the 22 argument bytes of CONFIGURE. DESIGN CHOICE (log 31): bits of the options byte without a
meaning are ignored. -/
def configureOf : List Byte → Option Instr
  | [card, opt, a3, a2, a1, a0, pitch, h1, h0, p1, p0, q1, q0, r1, r0, s1, s0, e1, e0, timeout, room, reap] =>
    some
      (.configure
        { cardType := card, eligible := opt.getLsbD 0, external := opt.getLsbD 1
          relayCapable := opt.getLsbD 2, airOffset := word32Of a3 a2 a1 a0, pitch := pitch
          holdLimit := word16Of h1 h0, t0 := word16Of p1 p0, t1 := word16Of q1 q0
          t2 := word16Of r1 r0, t3 := word16Of s1 s0, expressShare := word16Of e1 e0
          cardTimeout := timeout, txRoom := room, reapLevel := reap })
  | _ => none

/-- R206: SEND, with a payload of at most 256 bytes. -/
def sendOf : List Byte → Option Instr
  | t1 :: t0 :: cls :: tier :: dest :: payload =>
    if payload.length ≤ 256 then some (.send (word16Of t1 t0) cls tier dest payload) else none
  | _ => none

/-- R206: SET PERIODIC, with a payload of at most 256 bytes. -/
def setPeriodicOf : List Byte → Option Instr
  | index :: skip :: phase :: dest :: tier :: payload =>
    if payload.length ≤ 256 then some (.setPeriodic index skip phase dest tier payload) else none
  | _ => none

/-- R194, R206: VIEW's selectors; ROSTER alone has a slot. -/
def viewOf : List Byte → Option Instr
  | [selector] =>
    match selector.toNat with
    | 0 => some .viewStation
    | 2 => some .viewQueues
    | 3 => some .viewReference
    | 4 => some .viewAlarms
    | _ => none
  | [selector, slot] => if selector.toNat = 1 then some (.viewRoster slot) else none
  | _ => none

/-- R195, R206: READ's modes; PEEK alone has an offset. -/
def readOf : List Byte → Option Instr
  | [mode] =>
    match mode.toNat with
    | 0 => some .readHold
    | 1 => some .readNext
    | 2 => some .readPrev
    | 3 => some .readAdvance
    | _ => none
  | [mode, k] => if mode.toNat = 4 then some (.readPeek k) else none
  | _ => none

/-- R195, R206: SEEK. -/
def seekOf : List Byte → Option Instr
  | [place] =>
    match place.toNat with
    | 0 => some .seekFirst
    | 1 => some .seekLast
    | _ => none
  | _ => none

/-- R205: bits 7–6 of the byte of severity and subject. -/
def packedSeverity (b : Byte) : Byte := b >>> 6

/-- R205: bit 4 set, no subject; otherwise bits 3–0. DESIGN CHOICE (log 31): bit 5 is ignored, and so are bits 3–0 with
bit 4 set. -/
def packedSubject (b : Byte) : Option Byte := if b.getLsbD 4 then none else some (b &&& 0x0F)

/-- R205: the byte of severity and subject. -/
def packSubject (severity : Byte) (subject : Option Byte) : Byte :=
  severity <<< 6 ||| subject.getD 0x10

/-- R206: RAISE. -/
def raiseOf : List Byte → Option Instr
  | [c1, c0, b] => some (.raise (word16Of c1 c0) (packedSeverity b) (packedSubject b))
  | _ => none

/-- R206: CLEAR. DESIGN CHOICE (log 31): severity bits that are not 0 are ignored. -/
def clearOf : List Byte → Option Instr
  | [c1, c0, b] => some (.clear (word16Of c1 c0) (packedSubject b))
  | _ => none

/-- R206: EXTERNAL TIME. -/
def externalTimeOf : List Byte → Option Instr
  | [b3, b2, b1, b0] => some (.externalTime (word32Of b3 b2 b1 b0))
  | _ => none

/-- R206: TAKE. -/
def takeOf : List Byte → Option Instr
  | [selector] => some (.take selector)
  | _ => none

/-- R206: a request without arguments. -/
def bareOf (i : Instr) : List Byte → Option Instr
  | [] => some i
  | _ :: _ => none

/-- R206: the request that a code and its argument bytes spell; absent for a code that is not in the code
table, an argument length that does not fit it, and a VIEW selector, READ mode or SEEK value outside the
table (R194, R195). -/
def spelledRequest (code : Byte) (args : List Byte) : Option Instr :=
  match code.toNat with
  | 0x01 => configureOf args
  | 0x02 => sendOf args
  | 0x03 => takeOf args
  | 0x04 => bareOf .reap args
  | 0x05 => viewOf args
  | 0x06 => readOf args
  | 0x07 => seekOf args
  | 0x08 => raiseOf args
  | 0x09 => clearOf args
  | 0x0A => bareOf .time args
  | 0x0B => externalTimeOf args
  | 0x0C => bareOf .release args
  | 0x0D => setPeriodicOf args
  | 0x0E => bareOf .resetTraffic args
  | 0x0F => bareOf .resetTiming args
  | 0x10 => bareOf .resetView args
  | 0x11 => bareOf .restart args
  | _ => none

/-- R188, R206: the bytes spell a known request. -/
def requestKnown (code : Byte) (args : List Byte) : Bool := (spelledRequest code args).isSome

/-- R188, R206: the command of a request phase. Bytes that spell no request are UNKNOWN_REQUEST, refused
BAD_ARGUMENT. -/
def decodeRequest (code : Byte) (args : List Byte) : Instr :=
  (spelledRequest code args).getD (.unknownRequest code args)

/-- R206: the options byte of CONFIGURE. -/
def optionsByte (c : ConfigArgs) : Byte :=
  (if c.eligible then 1 else 0) ||| (if c.external then 2 else 0) ||| (if c.relayCapable then 4 else 0)

/-- R206: the arguments of CONFIGURE. -/
def configureArgs (c : ConfigArgs) : List Byte :=
  [c.cardType, optionsByte c] ++ bytes32 c.airOffset ++ [c.pitch] ++ bytes16 c.holdLimit ++
    bytes16 c.t0 ++ bytes16 c.t1 ++ bytes16 c.t2 ++ bytes16 c.t3 ++ bytes16 c.expressShare ++
    [c.cardTimeout, c.txRoom, c.reapLevel]

/-- R205, R206: a severity and a subject that the one byte of RAISE and CLEAR can carry. -/
def packs (severity : Byte) (subject : Option Byte) : Bool :=
  decide (severity.toNat < 4) && subject.all fun b => decide (b.toNat < 16)

/-- R206: the code and argument bytes of a request; absent for a command that is no request, and for operands
that no bytes carry. -/
def requestBytes : Instr → Option (Byte × List Byte)
  | .configure c => some (0x01, configureArgs c)
  | .send tag cls tier dest payload =>
    if payload.length ≤ 256 then some (0x02, bytes16 tag ++ [cls, tier, dest] ++ payload) else none
  | .take selector => some (0x03, [selector])
  | .reap => some (0x04, [])
  | .viewStation => some (0x05, [0])
  | .viewRoster slot => some (0x05, [1, slot])
  | .viewQueues => some (0x05, [2])
  | .viewReference => some (0x05, [3])
  | .viewAlarms => some (0x05, [4])
  | .readHold => some (0x06, [0])
  | .readNext => some (0x06, [1])
  | .readPrev => some (0x06, [2])
  | .readAdvance => some (0x06, [3])
  | .readPeek k => some (0x06, [4, k])
  | .seekFirst => some (0x07, [0])
  | .seekLast => some (0x07, [1])
  | .raise code severity subject =>
    if packs severity subject then some (0x08, bytes16 code ++ [packSubject severity subject]) else none
  | .clear code subject =>
    if packs 0 subject then some (0x09, bytes16 code ++ [packSubject 0 subject]) else none
  | .time => some (0x0A, [])
  | .externalTime second => some (0x0B, bytes32 second)
  | .release => some (0x0C, [])
  | .setPeriodic index skip phase dest tier payload =>
    if payload.length ≤ 256 then some (0x0D, [index, skip, phase, dest, tier] ++ payload) else none
  | .resetTraffic => some (0x0E, [])
  | .resetTiming => some (0x0F, [])
  | .resetView => some (0x10, [])
  | .restart => some (0x11, [])
  | .unknownRequest code args => if requestKnown code args then none else some (code, args)
  | .powerReset _ | .pinReset | .restartReset | .resetHoldEnd | .seatLost | .seatPresent | .latchOpens
  | .latchCloses | .extPpsEdge _ | .localPeriod _ | .subframeStrobe | .frameStrobe | .ppsStrobe
  | .strobePulseEnd _ | .laneOpening | .startMark | .keyComplete _ | .readbackMismatch
  | .frameHandover _ _ | .frameAbandoned _ | .attemptResult _ _ _ | .stuckBegins | .stuckEnds
  | .stuckClearExpiry | .listenComplete | .leavePlaced | .drain40ms | .drain50ms | .silentTimeout _
  | .absentTimeout _ | .leftExpiry _ | .flawTimeAged _ | .barEnds _ | .silenceTimerExpiry
  | .backoffEnds _ | .candidateDeadline _ | .claimExpiry | .beaconIntervalExpiry | .extLossExpiry
  | .announcementStale | .holdoverExpiry | .unlockedExpiry | .refreshExpiry | .staggerExpiry
  | .placementRetryExpiry | .watchdogExpiry | .transactionDiscarded | .pwrGoodFalls => none

/-! ### The bytes of a transaction (R188) -/

/-- R188: the bytes that the card sends in the request phase: code, argument length, arguments. -/
def requestPhase (code : Byte) (args : List Byte) : List Byte :=
  [code, BitVec.ofNat 8 (args.length / 256), BitVec.ofNat 8 args.length] ++ args

/-- R188: the byte that the station returns in byte `k` of a transaction with `request` bytes in its request
phase, `waits` wait bytes and this reply: 0xFF while the request comes in, 0x00 while the reply is not ready,
the reply from its start byte on, and 0xFF behind its last byte. -/
def returnedByte (request waits : Nat) (reply : List Byte) (k : Nat) : Byte :=
  if k < request then 0xFF
  else if k < request + waits then 0x00
  else reply.getD (k - (request + waits)) 0xFF

end Sys2Proof
end

