-- ==== Sys2Proof/Config.lean ====
section
/-! DEFINITION. The part's fixed numbers, in the units the model counts in, and the free values. -/

namespace Sys2Proof.Config

/-! ### Durations in local periods of 10 ns (00_scope.md section 4.2) -/

/-- `n` milliseconds. -/
def ms (n : Nat) : Nat := n * 100000

/-- `n` seconds. -/
def seconds (n : Nat) : Nat := n * 100000000

/-- R19: a dominant run of 20 µs is stuck. -/
def stuckRun : Nat := 2000
/-- R20: LANE_STUCK clears 100 ms after the last stuck period. -/
def stuckClear : Nat := ms 100
/-- R1, R15: the end field, one byte time of two local periods (log 7). -/
def endField : Nat := 2
/-- R30: the listen count that completes LISTEN. -/
def listen : Nat := ms 300
/-- R36: the drain mark at which the LEAVE is placed. -/
def drainMark : Nat := ms 40
/-- R37: the end of the drain. -/
def drainEnd : Nat := ms 50
/-- R48: unheard time of PRESENT to SILENT. -/
def silentAfter : Nat := ms 300
/-- R48: unheard time of SILENT to ABSENT. -/
def absentAfter : Nat := ms 1000
/-- R52: time in LEFT. -/
def leftFor : Nat := seconds 60
/-- R59: the silence timer. -/
def silence : Nat := ms 100
/-- R61: the sliding second of the flaw times. -/
def flawSpan : Nat := seconds 1
/-- R62: the length of a bar. -/
def bar : Nat := seconds 10
/-- R74: the REFUSED back-off, 100 µs. -/
def backoff : Nat := 10000
/-- R136: candidate freshness. -/
def fresh : Nat := ms 250
/-- R144: one step of the claim delay. -/
def claimStep : Nat := ms 8
/-- R145: the beacon interval, 62.5 ms. -/
def beaconInterval : Nat := 6250000
/-- R156: the external loss timer. -/
def extLoss : Nat := seconds 3
/-- R130: the validity of an external announcement, 1.1 s. -/
def announceValid : Nat := ms 1100
/-- R163: the unlocked timer. -/
def unlocked : Nat := seconds 10
/-- R174: the first refresh after entering ACTIVE. -/
def refreshFirst : Nat := ms 60
/-- R174: the refresh interval. -/
def refresh : Nat := ms 2000
/-- R174: the refresh after an unheard ALARM frame. -/
def refreshSoon : Nat := ms 100
/-- R174: one step of the stagger. -/
def staggerStep : Nat := ms 4
/-- R173: the placement retry timer. -/
def placementRetry : Nat := ms 4
/-- R201: the unit of card_timeout. -/
def watchdogUnit : Nat := ms 100
/-- R122: the length of a strobe pulse. -/
def pulse : Nat := 100

/-! ### Cabinet time (R117, R118, R120) -/

/-- Fraction units in one nanosecond. -/
def fracUnit : Nat := 4294967296
/-- Nanoseconds in one second. -/
def nsPerSec : Nat := 1000000000
/-- Values of the seconds field. -/
def secRange : Nat := 4294967296
/-- The range of T. -/
def timeRange : Nat := 4294967296000000000
/-- The nominal increment of one local period, 10 ns in fraction units. -/
def nominalIncrement : Int := 42949672960
/-- Spacing of subframe boundaries in ns. -/
def subframeNs : Nat := 1000000
/-- Spacing of frame boundaries in ns. -/
def frameNs : Nat := 10000000
/-- The limit of I and A in ppb (R160). -/
def rateLimit : Int := 100000

/-! ### Capacities -/

/-- R78: SEND frames held plus records not reaped. -/
def reservation : Nat := 48
/-- R176: entries of the cabinet view. -/
def viewSize : Nat := 128
/-- R181: the view size at which ALARM_VIEW_FULL clears. -/
def viewLow : Nat := 96
/-- R169: card entries of the own list. -/
def cardAlarms : Nat := 22
/-- R91: the shortest window that is measured, in byte times. -/
def shortWindow : Nat := 12500
/-- R89: the upper bound of the spent counters. -/
def spentCap : Nat := 65790

/-! ### Free values (no body: nothing in Lean can say what they are) -/

/-- FREE VALUE, log 9. The order of two effects inside one command where a rule says that either may
be taken first (R153; R53 and the worked sequence after R185). Drawn with the counter `freeIdx`. -/
opaque freeOrder : Nat → Bool

/-- FREE VALUE, log 10. Whether a duration that is not a whole number of seconds is reported rounded
up (R165 states the field in seconds and no rounding). -/
opaque roundsUp : Bool

end Sys2Proof.Config
end

