-- ==== Sys2Proof/Machine/State.lean ====
section
/-! DEFINITION. The state of the station as plain data, block by block, and its value after reset. -/

namespace Sys2Proof.Machine

/-! ### Names shared by the blocks -/

/-- A reading of cabinet time: seconds and nanoseconds (R119). -/
structure Stamp where
  sec : Nat
  ns  : Nat
  deriving DecidableEq, Repr

/-- R26: the nine seat states, in the order the chapter names them. -/
inductive SeatState where
  | config | waitSeat | listen | joining | active | leaving | gone | unseated | clashed
  deriving DecidableEq, Repr

/-- R25. -/
inductive ResetCause where
  | power | pin | restart
  deriving DecidableEq, Repr

/-- R35. -/
inductive LeaveReason where
  | latch | release
  deriving DecidableEq, Repr

/-- R2: the line states. -/
inductive LineState where
  | listening | opened | key | body | endField | gap | unframed | stuck
  deriving DecidableEq, Repr

/-- R4: the frame classes, each with its queue (R66). -/
inductive FrameClass where
  | timing | control | express | bulk
  deriving DecidableEq, Repr

/-- R7: the frame kinds. -/
inductive FrameKind where
  | beacon | rollcall | join | leave | alarm | data
  deriving DecidableEq, Repr

/-- R9: the kind groups. -/
inductive KindGroup where
  | beacon | data | membership
  deriving DecidableEq, Repr

/-- R7: a destination. -/
inductive Dest where
  | slot (p : Slot)
  | all
  deriving DecidableEq, Repr

/-- R169: severities, highest first. -/
inductive Severity where
  | critical | major | minor | warning
  deriving DecidableEq, Repr

/-! ### Lane interface (The Cabinet Lane) -/

/-- R8: the phase of the attempt in progress. -/
inductive Phase where
  | contending | sending | awaitMarks
  deriving DecidableEq, Repr

/-- R8: the attempt in progress. `queue`: the frame is the head of that queue, marked on the lane (R66). `sent`: the
bytes from the key to the check field, fixed when the key is won, and cut behind the byte of a readback mismatch
(R17). `bodyLeft`: local periods until the end field begins (R11). `windowEnded`: a window has started since the start
mark (R95). -/
structure Attempt where
  queue         : FrameClass
  key           : Byte
  group         : KindGroup
  seq           : Option Byte
  start         : Option Stamp
  phase         : Phase
  readbackFault : Bool
  sent          : List Byte
  bodyLeft      : Nat
  windowEnded   : Bool
  deriving DecidableEq, Repr

/-- R15: end marks driven by this station. -/
structure Marks where
  flaw    : Bool
  taken   : Bool
  refused : Bool
  deriving DecidableEq, Repr

/-- No mark. -/
def Marks.none : Marks := ⟨false, false, false⟩

/-- R12: the stamp of a start mark with its void marker. -/
structure RxStamp where
  stamp : Stamp
  void  : Bool
  deriving DecidableEq, Repr

/-- The lane interface. `endLeft`: local periods of the end field still to come (R2, R15; log 7). `delimiter`: the
end delimiter of an own frame is driven (R15, R18). -/
structure Lane where
  line          : LineState
  attempt       : Option Attempt
  seqBeacon     : Byte
  seqData       : Byte
  seqMembership : Byte
  busyBt        : Nat
  windowPeriods : Nat
  domRun        : Nat
  stuckClear    : Option Nat
  rxKey         : Option Byte
  rxStamp       : Option RxStamp
  marks         : Marks
  delimiter     : Bool
  endLeft       : Nat
  deriving DecidableEq, Repr

/-! ### Seat controller (Seat States and Joining) -/

/-- The seat controller. `drain`: the local time at which the drain timer started. -/
structure Seat where
  state         : SeatState
  slot          : Slot
  cause         : ResetCause
  generation    : Byte
  reachedActive : Bool
  listenCount   : Nat
  drain         : Option Nat
  handover      : Bool
  leavePlaced   : Bool
  leaveReason   : Option LeaveReason
  mismatch      : Nat
  deriving DecidableEq, Repr

/-! ### Roster (The Roster) -/

/-- R46: a record's presence; SELF at the latched slot. -/
inductive PeerState where
  | absent | present | silent | left | self
  deriving DecidableEq, Repr

/-- R46: from the last JOIN taken. -/
structure LastJoin where
  cause : ResetCause
  first : Bool
  deriving DecidableEq, Repr

/-- R46, R57: the beacon record. -/
structure BeaconRec where
  seq     : Byte
  sp      : Stamp
  void    : Bool
  cls     : Nat
  arrival : Nat
  deriving DecidableEq, Repr

/-- R169: an alarm entry without its source. -/
structure AlarmEntry where
  code    : Word16
  sev     : Severity
  subject : Option Slot
  raised  : Nat
  deriving DecidableEq, Repr

/-- R46, R56: a peer's own alarm list as last received. -/
structure AlarmSet where
  listSeq : Option Byte
  entries : List AlarmEntry
  stale   : Bool
  deriving DecidableEq, Repr

/-- R49: the emptied alarm set. -/
def AlarmSet.empty : AlarmSet := ⟨none, [], false⟩

/-- R46: the peer record. -/
structure Peer where
  state       : PeerState
  since       : Nat
  lastHeard   : Option Nat
  generation  : Option Byte
  cardType    : Option Byte
  cls         : Option Nat
  cardOk      : Option Bool
  lastJoin    : Option LastJoin
  lastSeq     : Option Byte
  beacon      : Option BeaconRec
  alarms      : AlarmSet
  flaws       : List Nat
  barredUntil : Option Nat
  deriving DecidableEq, Repr

/-- The roster: sixteen records, the silence timer, and the card type CONFIGURE gave (R190). -/
structure Roster where
  peers    : Vector Peer 16
  silence  : Option Nat
  cardType : Byte
  deriving DecidableEq, Repr

/-! ### Transmit scheduler (Transmit Queues and Completions; Lane Share and Congestion) -/

/-- R76: the outcomes of a frame. -/
inductive FrameOutcome where
  | delivered | refused | unheard | shed | flushed | destGone
  deriving DecidableEq, Repr

/-- R67: a queue entry. `withdrawn`: its owner withdrew it while it was on the lane, so that it is
removed at its result whatever that is (R68). -/
structure Entry where
  kind      : FrameKind
  dest      : Dest
  tier      : Nat
  payload   : List Byte
  tag       : Option Word16
  periodic  : Option (Fin 4)
  seq       : Option Byte
  patience  : Nat
  attempts  : Nat
  faults    : Nat
  refusals  : Nat
  backoff   : Option Nat
  onLane    : Bool
  pending   : Option FrameOutcome
  withdrawn : Bool
  lastStart : Option Stamp
  deriving DecidableEq, Repr

/-- R16, R6, R18: what the lane interface hands back for an attempt. -/
inductive AttemptEnd where
  | lost | flaw | unheard | refused | delivered | cut
  deriving DecidableEq, Repr

/-- R72: what becomes of an entry at a result. -/
inductive Fate where
  | stays (e : Entry)
  | leaves (e : Entry) (o : FrameOutcome)
  deriving DecidableEq, Repr

/-- R76: a completion record. -/
structure Completion where
  tag       : Word16
  outcome   : FrameOutcome
  attempts  : Nat
  lastStart : Option Stamp
  deriving DecidableEq, Repr

/-- R83: a periodic entry. `written`: SET PERIODIC has written it since it was last cleared (R82). -/
structure PeriodicEntry where
  skip    : Nat
  phase   : Nat
  dest    : Dest
  tier    : Nat
  payload : List Byte
  missed  : Bool
  written : Bool
  deriving DecidableEq, Repr

/-- The transmit scheduler's queues. -/
structure Sched where
  timing      : List Entry
  control     : List Entry
  express     : List Entry
  bulk        : List Entry
  completions : List Completion
  periodic    : Vector PeriodicEntry 4
  offer       : Option FrameClass
  deriving DecidableEq, Repr

/-- R89: the share state. -/
structure Share where
  level        : Nat
  lastBusy     : Option Nat
  tierLimit    : Nat
  budget       : Nat
  spentBulk    : Nat
  spentExpress : Nat
  t0           : Nat
  t1           : Nat
  t2           : Nat
  t3           : Nat
  expressShare : Nat
  deriving DecidableEq, Repr

/-! ### Receive filter (Receive Path) -/

/-- R109: the arrival record. -/
structure Arrival where
  source    : Slot
  broadcast : Bool
  queue     : CardQueue
  tier      : Nat
  seq       : Byte
  length    : Nat
  stamp     : Stamp
  stepped   : Bool
  deriving DecidableEq, Repr

/-- An entry of a receive queue. -/
structure RxEntry where
  arrival : Arrival
  payload : List Byte
  deriving DecidableEq, Repr

/-- The receive filter. -/
structure Rx where
  express : List RxEntry
  bulk    : List RxEntry
  overrun : Bool
  deriving DecidableEq, Repr

/-- R105, R107: the dispositions of a frame handed over. -/
inductive Disposition where
  | flawed | nonData | elsewhere | barred | fromLeft | notTaking | misclassed | duplicate
  | overflow | accepted
  deriving DecidableEq, Repr

/-! ### What a received frame says (R204, R205) -/

/-- The contents of a good frame. -/
inductive Content where
  | beacon (cls : Nat) (previous : Option Stamp) (stepped : Bool)
  | rollcall (cardType : Byte) (cls : Nat) (cardOk : Bool) (generation : Byte) (listSeq : Byte)
  | join (generation : Byte) (cardType : Byte) (cls : Nat) (cardOk : Bool) (cause : ResetCause) (first : Bool)
  | leave (generation : Byte) (handover : Bool) (reason : LeaveReason)
  | alarm (listSeq : Byte) (entries : List AlarmEntry)
  | data (tier : Nat)
  deriving DecidableEq, Repr

/-! ### Time base (Cabinet Time and Strobes) -/

/-- A boundary crossed whose strobe is still to be emitted, with its RESYNC mark (R121). -/
structure Owed where
  boundary : Stamp
  count    : Nat
  resync   : Bool
  deriving DecidableEq, Repr

/-- R122: a pulse on a strobe pin: asserted from local time `first` up to `last`, not included. -/
structure Pulse where
  first : Nat
  last  : Nat
  deriving DecidableEq, Repr

/-- The time base. `passOver`: the count that a re-aligned frame grid passes over (R124). -/
structure TimeBase where
  sec         : Nat
  ns          : Nat
  frac        : Nat
  a           : Int
  offset      : Nat
  lastFrame   : Option Stamp
  lastPps     : Option Stamp
  resyncSub   : Bool
  resyncFrame : Bool
  resyncPps   : Bool
  lastCount   : Option Nat
  stepCount   : Nat
  lastStep    : Option Int
  external    : Bool
  passOver    : Option Nat
  owedSub     : List Owed
  owedFrame   : List Owed
  owedPps     : List Owed
  pulseSub    : Option Pulse
  pulseFrame  : Option Pulse
  pulsePps    : Option Pulse
  pulseResync : Option Pulse
  deriving DecidableEq, Repr

/-! ### Reference selector (Reference Choice and Beacons) -/

/-- R141: a source of time. -/
inductive Source where
  | none
  | bus (p : Slot)
  | external
  deriving DecidableEq, Repr

/-- R136: a candidate. -/
structure Candidate where
  slot     : Slot
  cls      : Nat
  deadline : Nat
  deriving DecidableEq, Repr

/-- R139: the lock record; `external` is its origin. -/
structure LockRecord where
  external : Bool
  cls      : Nat
  deriving DecidableEq, Repr

/-- R144. -/
inductive Beaconing where
  | off | claiming | on
  deriving DecidableEq, Repr

/-- R149: the last handover. -/
structure Handover where
  slot : Slot
  time : Nat
  deriving DecidableEq, Repr

/-- The reference selector. -/
structure Selector where
  eligible        : Bool
  extPresent      : Bool
  cands           : List Candidate
  source          : Source
  lockedSource    : Option Source
  lockRecord      : Option LockRecord
  standing        : Nat
  announced       : Nat
  beaconing       : Beaconing
  claim           : Option Nat
  interval        : Option Nat
  previous        : Option Stamp
  current         : Option Stamp
  steppedPrevious : Bool
  steppedCurrent  : Bool
  lastHandover    : Option Handover
  deriving DecidableEq, Repr

/-! ### Discipline servo (The Discipline Servo) -/

/-- R152. -/
inductive ServoState where
  | free | acquire | locked | holdover
  deriving DecidableEq, Repr

/-- R158, R160: what was done with a sample. -/
inductive SampleOutcome where
  | slewed | stepped | deferred
  deriving DecidableEq, Repr

/-- The latest sample. -/
structure Sample where
  d       : Int
  e       : Option Int
  outcome : SampleOutcome
  deriving DecidableEq, Repr

/-- A timer that stays expired until something stops it (R163, R201). -/
inductive Timer where
  | stopped
  | running (deadline : Nat)
  | expired
  deriving DecidableEq, Repr

/-- R130: the held announcement. -/
structure Announcement where
  second  : Nat
  arrival : Nat
  deriving DecidableEq, Repr

/-- The discipline servo. -/
structure Servo where
  state        : ServoState
  source       : Source
  i            : Int
  a            : Int
  lastSample   : Option Sample
  inCount      : Nat
  outCount     : Nat
  holdTimer    : Option Nat
  expired      : Bool
  unlocked     : Timer
  announcement : Option Announcement
  extPresent   : Bool
  extLoss      : Option Nat
  pitch        : Nat
  holdLimit    : Nat
  deriving DecidableEq, Repr

/-! ### Alarm unit (Alarms and the Cabinet View) -/

/-- R169: the identity of an entry. -/
structure Ident where
  source  : Slot
  code    : Word16
  subject : Option Slot
  deriving DecidableEq, Repr

/-- R176: an entry of the cabinet view. -/
structure ViewEntry where
  source  : Slot
  code    : Word16
  sev     : Severity
  subject : Option Slot
  raised  : Nat
  stale   : Bool
  deriving DecidableEq, Repr

/-- R179: a synthetic marker with its raise time. -/
inductive Marker where
  | none
  | missing (raised : Nat)
  | removed (raised : Nat)
  deriving DecidableEq, Repr

/-- The alarm unit; a cursor of `none` is END. -/
structure AlarmUnit where
  own          : List AlarmEntry
  ownSeq       : Byte
  view         : List ViewEntry
  markers      : Vector Marker 16
  cursor       : Option Ident
  viewChanged  : Bool
  relayCapable : Bool
  refresh      : Option Nat
  stagger      : Option Nat
  retry        : Option Nat
  deriving DecidableEq, Repr

/-! ### Card port (The Card Port) -/

/-- R189: results, in the order of their codes (R206). -/
inductive Result where
  | ok | notNow | full | empty | destGone | noSuch | badArgument
  deriving DecidableEq, Repr

/-- R199: the ATTN causes. -/
structure Causes where
  viewChanged : Bool
  seat        : Bool
  timing      : Bool
  missed      : Bool
  completions : Bool
  deriving DecidableEq, Repr

/-- R190: every field of CONFIGURE as held. -/
structure ConfigHeld where
  cardType     : Byte
  eligible     : Bool
  external     : Bool
  relayCapable : Bool
  airOffset    : Nat
  pitch        : Nat
  holdLimit    : Nat
  t0           : Nat
  t1           : Nat
  t2           : Nat
  t3           : Nat
  expressShare : Nat
  cardTimeout  : Nat
  txRoom       : Nat
  reapLevel    : Nat
  deriving DecidableEq, Repr

/-- R194: the STATION report. -/
structure StationReport where
  state       : SeatState
  slot        : Slot
  generation  : Byte
  cause       : ResetCause
  leaveReason : Option LeaveReason
  cardOk      : Bool
  watchdog    : Timer
  cardTimeout : Nat
  txRoom      : Nat
  reapLevel   : Nat
  causes      : Causes
  deriving DecidableEq, Repr

/-- R194: the ROSTER report: a peer record, or SELF. -/
inductive RosterReport where
  | peer (r : Peer)
  | self (generation : Byte) (cardType : Byte) (cls : Nat)
  deriving DecidableEq, Repr

/-- R194, R103: the QUEUES report. -/
structure QueuesReport where
  timing      : Nat
  control     : Nat
  express     : Nat
  bulk        : Nat
  reservation : Nat
  completions : Nat
  expressIn   : Nat
  bulkIn      : Nat
  overrun     : Bool
  periodic    : List PeriodicEntry
  share       : Share
  deriving DecidableEq, Repr

/-- R194: the REFERENCE report. -/
structure ReferenceReport where
  eligible     : Bool
  extPresent   : Bool
  source       : Source
  standing     : Nat
  announced    : Nat
  beaconing    : Beaconing
  cands        : List Candidate
  lockRecord   : Option LockRecord
  lastHandover : Option Handover
  deriving DecidableEq, Repr

/-- R194: the ALARMS report. -/
structure AlarmsReport where
  view         : Nat
  own          : Nat
  card         : Nat
  ownSeq       : Byte
  critRelay    : Bool
  majRelay     : Bool
  relayCapable : Bool
  atEnd        : Bool
  deriving DecidableEq, Repr

/-- R131: the time report. -/
structure TimeReport where
  sec          : Nat
  ns           : Nat
  frac         : Nat
  a            : Int
  offset       : Nat
  lastCount    : Option Nat
  radioFrame   : Option Nat
  lastFrame    : Option Stamp
  lastPps      : Option Nat
  stepCount    : Nat
  lastStep     : Option Int
  external     : Bool
  deriving DecidableEq, Repr

/-- R165: holdover as reported: seconds remaining, or expired. -/
inductive HoldoverReport where
  | remaining (seconds : Nat)
  | expired
  deriving DecidableEq, Repr

/-- R165: the servo report. -/
structure ServoReport where
  state        : ServoState
  source       : Source
  i            : Int
  a            : Int
  lastSample   : Option Sample
  inCount      : Nat
  outCount     : Nat
  holdover     : Option HoldoverReport
  unlocked     : Option Nat
  extPresent   : Bool
  announcement : Option Nat
  pitch        : Nat
  holdLimit    : Nat
  deriving DecidableEq, Repr

/-- The reply body of each request. -/
inductive Body where
  | empty
  | configured (held : ConfigHeld)
  | reservation (n : Nat)
  | taken (arrival : Arrival) (payload : List Byte)
  | reaped (records : List Completion)
  | periodic (entry : PeriodicEntry)
  | station (r : StationReport)
  | roster (r : RosterReport)
  | queues (r : QueuesReport)
  | reference (r : ReferenceReport)
  | alarms (r : AlarmsReport)
  | viewRecord (r : Option ViewEntry)
  | listSeq (n : Byte)
  | time (t : TimeReport) (v : ServoReport)
  deriving DecidableEq, Repr

/-- R188: a reply as fixed at the end of the request phase; `wire`: its bytes from the start byte on. -/
structure Reply where
  result : Result
  causes : Causes
  body   : Body
  wire   : List Byte
  deriving DecidableEq, Repr

/-- The card port. `request` and `reply` are the request in progress. `restartPending`: a RESTART has
taken effect and its transaction has not ended (R198). -/
structure Port where
  request        : Option Instr
  reply          : Option Reply
  restartPending : Bool
  seatCause      : Bool
  timingCause    : Bool
  missedCause    : Bool
  timeout        : Nat
  watchdog       : Timer
  cardOk         : Bool
  txRoom         : Nat
  reapLevel      : Nat
  deriving DecidableEq, Repr

/-! ### Pins -/

/-- Input levels. -/
structure Pins where
  pwrGood       : Bool
  resetAsserted : Bool
  seatPresent   : Bool
  latchClosed   : Bool
  airActive     : Bool
  deriving DecidableEq, Repr

/-- Output levels: asserted, or driven for the relays. -/
structure Outputs where
  safe        : Bool
  attn        : Bool
  rxReady     : Bool
  txRoom      : Bool
  subframeStb : Bool
  frameStb    : Bool
  ppsOut      : Bool
  resync      : Bool
  critRelay   : Bool
  majRelay    : Bool
  deriving DecidableEq, Repr

/-- Every output released. -/
def Outputs.released : Outputs :=
  ⟨false, false, false, false, false, false, false, false, false, false⟩

/-! ### The station and the machine -/

/-- Everything the spec gives the part. `hold`: held in reset (R25). `localTime`: local periods since
the end of the latest reset hold. `freeIdx`: the model's own counter of free values drawn (log 9). -/
structure Station where
  pins      : Pins
  hold      : Bool
  localTime : Nat
  lane      : Lane
  seat      : Seat
  roster    : Roster
  sched     : Sched
  share     : Share
  rx        : Rx
  time      : TimeBase
  sel       : Selector
  servo     : Servo
  alarm     : AlarmUnit
  port      : Port
  outs      : Outputs
  freeIdx   : Nat
  deriving DecidableEq, Repr

/-- The machine: the station and the commands that wait for it, first in first out. -/
structure State extends Station where
  pending : List Instr
  deriving DecidableEq, Repr

/-- No step of this part ends in a fault: every rule of the spec lets the machine go on, and a request
that cannot be served is refused in its reply (R189). Nobody raises one; having none is safe. -/
inductive Fault where
  deriving DecidableEq, Repr

/-- Why the model gives a command no meaning. -/
inductive Refusal where
  /-- Raised by `exec`'s arm for a command that has no meaning yet; no arm is left so. Safe. -/
  | notModelled (mnemonic : String)
  deriving DecidableEq, Repr

/-! ### Values after reset -/

/-- R23. -/
def Lane.reset : Lane :=
  { line := .listening, attempt := none, seqBeacon := 0, seqData := 0, seqMembership := 0,
    busyBt := 0, windowPeriods := 0, domRun := 0, stuckClear := none, rxKey := none,
    rxStamp := none, marks := Marks.none, delimiter := false, endLeft := 0 }

/-- R45: the slot and the cause are what the reset left. -/
def Seat.reset (slot : Slot) (cause : ResetCause) : Seat :=
  { state := .config, slot := slot, cause := cause, generation := 0, reachedActive := false,
    listenCount := 0, drain := none, handover := false, leavePlaced := false, leaveReason := none,
    mismatch := 0 }

/-- R65: a peer record. -/
def Peer.reset : Peer :=
  { state := .absent, since := 0, lastHeard := none, generation := none, cardType := none,
    cls := none, cardOk := none, lastJoin := none, lastSeq := none, beacon := none,
    alarms := AlarmSet.empty, flaws := [], barredUntil := none }

/-- R65: SELF at the latched slot. -/
def Roster.reset (slot : Slot) : Roster :=
  { peers := (Vector.replicate 16 Peer.reset).set slot { Peer.reset with state := .self },
    silence := none, cardType := 0 }

/-- R88: a stopped periodic entry. -/
def PeriodicEntry.cleared : PeriodicEntry :=
  { skip := 255, phase := 0, dest := .all, tier := 0, payload := [], missed := false, written := false }

/-- R88. -/
def Sched.reset : Sched :=
  { timing := [], control := [], express := [], bulk := [], completions := [],
    periodic := Vector.replicate 4 PeriodicEntry.cleared, offer := none }

/-- R102. -/
def Share.reset : Share :=
  { level := 0, lastBusy := none, tierLimit := 3, budget := 0, spentBulk := 0, spentExpress := 0,
    t0 := 0, t1 := 0, t2 := 0, t3 := 0, expressShare := 0 }

/-- R116. -/
def Rx.reset : Rx := { express := [], bulk := [], overrun := false }

/-- R133. -/
def TimeBase.reset : TimeBase :=
  { sec := 0, ns := 0, frac := 0, a := 0, offset := 0, lastFrame := none, lastPps := none,
    resyncSub := false, resyncFrame := false, resyncPps := false, lastCount := none, stepCount := 0,
    lastStep := none, external := false, passOver := none, owedSub := [], owedFrame := [],
    owedPps := [], pulseSub := none, pulseFrame := none, pulsePps := none, pulseResync := none }

/-- R151. -/
def Selector.reset : Selector :=
  { eligible := false, extPresent := false, cands := [], source := .none, lockedSource := none,
    lockRecord := none, standing := 15, announced := 15, beaconing := .off, claim := none,
    interval := none, previous := none, current := none, steppedPrevious := false,
    steppedCurrent := false, lastHandover := none }

/-- R168. -/
def Servo.reset : Servo :=
  { state := .free, source := .none, i := 0, a := 0, lastSample := none, inCount := 0, outCount := 0,
    holdTimer := none, expired := false, unlocked := .stopped, announcement := none,
    extPresent := false, extLoss := none, pitch := 0, holdLimit := 0 }

/-- R187. -/
def AlarmUnit.reset : AlarmUnit :=
  { own := [], ownSeq := 0, view := [], markers := Vector.replicate 16 .none, cursor := none,
    viewChanged := false, relayCapable := false, refresh := none, stagger := none, retry := none }

/-- R202. -/
def Port.reset : Port :=
  { request := none, reply := none, restartPending := false, seatCause := false,
    timingCause := false, missedCause := false, timeout := 0, watchdog := .stopped, cardOk := true,
    txRoom := 1, reapLevel := 1 }

/-- Input levels in `State.reset`: power good, RESET_N deasserted, and (DESIGN CHOICE, log 2) no card
seated, latch open, radio off air. -/
def Pins.reset : Pins :=
  { pwrGood := true, resetAsserted := false, seatPresent := false, latchClosed := false,
    airActive := false }

/-- The station at the end of a reset hold: every block at its reset value (R25), with the input pins
as they are, the slot and cause as the reset left them, and the model's counter of free values kept.
Local time starts again at 0, after a RESTART too, which has no hold (DESIGN CHOICE, log 38). -/
def Station.afterReset (pins : Pins) (slot : Slot) (cause : ResetCause) (freeIdx : Nat) : Station :=
  { pins := pins, hold := false, localTime := 0, lane := Lane.reset, seat := Seat.reset slot cause,
    roster := Roster.reset slot, sched := Sched.reset, share := Share.reset, rx := Rx.reset,
    time := TimeBase.reset, sel := Selector.reset, servo := Servo.reset, alarm := AlarmUnit.reset,
    port := Port.reset, outs := Outputs.released, freeIdx := freeIdx }

/-- The machine right after reset: the end of the hold of a POWER reset that latched slot 0
(DESIGN CHOICE, log 2), with no command waiting. -/
def State.reset : State :=
  { Station.afterReset Pins.reset 0 .power 0 with pending := [] }

end Sys2Proof.Machine
end

