-- ==== Sys2Proof/Machine/Ops.lean ====
section
/-! DEFINITION. The named operations that every block uses: local timers, readings of cabinet time,
the peer table, the queues, and the free order of two effects. -/

namespace Sys2Proof.Machine

/-- A local timer has run out: its deadline is at or before the present local time (00_scope.md
section 4.2; log 4). A stopped timer never runs out. -/
def due (deadline : Option Nat) (now : Nat) : Bool :=
  match deadline with
  | some d => decide (d ≤ now)
  | none => false

/-- R119: a reading of cabinet time. -/
def Station.stamp (s : Station) : Stamp := ⟨s.time.sec, s.time.ns⟩

/-- R117: T, the total nanoseconds. -/
def TimeBase.total (t : TimeBase) : Nat := t.sec * Config.nsPerSec + t.ns

/-- The total nanoseconds of a reading. -/
def Stamp.total (t : Stamp) : Nat := t.sec * Config.nsPerSec + t.ns

/-- The reading of a total, taken modulo the range of T (R117). -/
def Stamp.ofTotal (t : Nat) : Stamp :=
  ⟨t % Config.timeRange / Config.nsPerSec, t % Config.timeRange % Config.nsPerSec⟩

/-! ### The peer table -/

/-- The record of slot `p` (R46). -/
def Station.peer (s : Station) (p : Slot) : Peer := s.roster.peers.get p

/-- The roster with the record of `p` replaced. -/
def Station.setPeer (s : Station) (p : Slot) (r : Peer) : Station :=
  { s with roster := { s.roster with peers := s.roster.peers.set p r } }

/-- A slot is barred while its barred-until field is present (R46). -/
def Peer.barred (r : Peer) : Bool := r.barredUntil.isSome

/-- ABSENT or LEFT: the states in which nothing is sent to a slot (R78, R79, R85). -/
def Peer.isGone (r : Peer) : Bool := r.state = .absent || r.state = .left

/-- The destination is a slot that is ABSENT or LEFT. A broadcast makes no roster check (R191). -/
def Station.destGone (s : Station) (d : Dest) : Bool :=
  match d with
  | .slot p => (s.peer p).isGone
  | .all => false

/-- R63: the lowest barred slot. -/
def Station.lowestBarred (s : Station) : Option Slot := allSlots.find? fun p => (s.peer p).barred

/-! ### The queues -/

/-- R4: the class part of a key. -/
def FrameClass.number : FrameClass → Nat
  | .timing => 0
  | .control => 1
  | .express => 2
  | .bulk => 3

/-- R66: the capacity of a queue. -/
def FrameClass.capacity : FrameClass → Nat
  | .timing => 1
  | .control => 8
  | .express => 16
  | .bulk => 32

/-- R66: the queue of the card's class. -/
def cardClass : CardQueue → FrameClass
  | .express => .express
  | .bulk => .bulk

/-- The capacity of a receive queue (R109). -/
def rxCapacity (q : CardQueue) : Nat := (cardClass q).capacity

/-- The entries of a queue, head first (R66). -/
def Sched.queue (c : Sched) : FrameClass → List Entry
  | .timing => c.timing
  | .control => c.control
  | .express => c.express
  | .bulk => c.bulk

/-- The queues with one of them replaced. -/
def Sched.setQueue (c : Sched) (q : FrameClass) (l : List Entry) : Sched :=
  match q with
  | .timing => { c with timing := l }
  | .control => { c with control := l }
  | .express => { c with express := l }
  | .bulk => { c with bulk := l }

/-- The station with one queue replaced. -/
def Station.setQueue (s : Station) (q : FrameClass) (l : List Entry) : Station :=
  { s with sched := s.sched.setQueue q l }

/-- A receive queue (R109). -/
def Rx.queue (r : Rx) : CardQueue → List RxEntry
  | .express => r.express
  | .bulk => r.bulk

/-- The receive filter with one queue replaced. -/
def Rx.setQueue (r : Rx) (q : CardQueue) (l : List RxEntry) : Rx :=
  match q with
  | .express => { r with express := l }
  | .bulk => { r with bulk := l }

/-! ### Causes that more than one block sets -/

/-- R199: the TIMING cause. -/
def Station.setTimingCause (s : Station) : Station :=
  { s with port := { s.port with timingCause := true } }

/-! ### Orders that the spec leaves open inside one command (log 9) -/

/-- Two effects whose order is open, in the order the next free value gives. -/
def eitherOrder (f g : Station → Station) (s : Station) : Station :=
  let drawn := { s with freeIdx := s.freeIdx + 1 }
  if Config.freeOrder s.freeIdx then g (f drawn) else f (g drawn)

/-! ### Commands -/

/-- A command's answer: always a next state, the queue of commands untouched. -/
def State.run (s : State) (f : Station → Station) : Host.Outcome State Fault Refusal :=
  .next { s with toStation := f s.toStation }

end Sys2Proof.Machine
end

