-- ==== Sys2Proof/Machine/Operands.lean ====
section
/-! DEFINITION. Operand forms: numbers as bytes, the key and its contention, the frame check, the
fields of a received frame, and the arguments of requests. -/

namespace Sys2Proof.Machine

/-! ### Numbers as bytes (11_the_card_port.md section 11.9) -/

/-- `k` bytes of `n`, most significant byte first. -/
def bytesOf : Nat → Nat → List Byte
  | 0, _ => []
  | k + 1, n => BitVec.ofNat 8 (n / 256 ^ k) :: bytesOf k n

/-- The number that bytes spell, most significant byte first. -/
def numberOf (l : List Byte) : Nat := l.foldl (fun n b => n * 256 + b.toNat) 0

/-- `k` bytes of a signed number in two's complement (R206). -/
def signedBytesOf (k : Nat) (n : Int) : List Byte := bytesOf k (n % (256 ^ k : Nat)).toNat

/-- A flag as a byte, 1 when set (R206; log 23). -/
def flagByte (b : Bool) : Byte := if b then 1 else 0

/-! ### The key (R4, R6, R204) -/

/-- R4: 64 × class + 16 × patience + slot. -/
def keyByte (q : FrameClass) (patience : Nat) (slot : Slot) : Byte :=
  BitVec.ofNat 8 (64 * q.number + 16 * patience + slot.val)

/-- R204: bits 7–6 of the key. -/
def keyClass (k : Byte) : FrameClass :=
  match k.toNat / 64 with
  | 0 => .timing
  | 1 => .control
  | 2 => .express
  | _ => .bulk

/-- R204: bits 3–0 of the key. -/
def keySlot (k : Byte) : Slot := Fin.ofNat 16 k.toNat

/-- The bits of a byte in the order they are sent, most significant first (R1). -/
def bitsOf (b : Byte) : List Bool :=
  [b.getLsbD 7, b.getLsbD 6, b.getLsbD 5, b.getLsbD 4, b.getLsbD 3, b.getLsbD 2, b.getLsbD 1,
   b.getLsbD 0]

/-- R6: contention bit by bit, own bits against the bits read from the lane. A 1 is recessive
(R203). Absent: every bit read as driven, the key is won. -/
def contendBits : List Bool → List Bool → Option AttemptEnd
  | own :: owns, lane :: lanes =>
    if own = lane then contendBits owns lanes else if own then some .lost else some .flaw
  | _, _ => none

/-- R6: contention of a key against the key read from the lane. -/
def contend (own lane : Byte) : Option AttemptEnd := contendBits (bitsOf own) (bitsOf lane)

/-! ### The frame check (R10) -/

/-- `n` shifts of the check register. -/
def crcShift : Nat → Word16 → Word16
  | 0, c => c
  | n + 1, c => crcShift n (if c.msb then (c <<< 1) ^^^ 0x1021#16 else c <<< 1)

/-- One byte, most significant bit first. -/
def crcByte (c : Word16) (b : Byte) : Word16 := crcShift 8 (c ^^^ (b.setWidth 16 <<< 8))

/-- R10: polynomial x^16 + x^12 + x^5 + 1, register all ones, no final inversion. -/
def crc (l : List Byte) : Word16 := l.foldl crcByte 0xFFFF#16

/-! ### Frame fields (R7, R204, R205) -/

/-- R204: the kind nibble. -/
def FrameKind.number : FrameKind → Nat
  | .beacon => 1
  | .rollcall => 2
  | .join => 3
  | .leave => 4
  | .alarm => 5
  | .data => 6

/-- R9: the group of a kind. -/
def FrameKind.group : FrameKind → KindGroup
  | .beacon => .beacon
  | .data => .data
  | .rollcall | .join | .leave | .alarm => .membership

/-- R204: the dest byte. -/
def Dest.number : Dest → Nat
  | .slot p => p.val
  | .all => 16

/-- R204: 0..15 is a slot, 16 is ALL, a value above 16 is none. -/
def destOf (b : Byte) : Option Dest :=
  if b.toNat < 16 then some (.slot (Fin.ofNat 16 b.toNat))
  else if b.toNat = 16 then some .all else none

/-- R205: severities from 0. -/
def Severity.number : Severity → Nat
  | .critical => 0
  | .major => 1
  | .minor => 2
  | .warning => 3

/-- R205: the two severity bits. -/
def severityOf (n : Nat) : Severity :=
  match n with
  | 0 => .critical
  | 1 => .major
  | 2 => .minor
  | _ => .warning

/-- R205: reset causes from 0. -/
def ResetCause.number : ResetCause → Nat
  | .power => 0
  | .pin => 1
  | .restart => 2

/-- R205: the reset cause bits; 3 is no cause. -/
def causeOf (n : Nat) : Option ResetCause :=
  match n with
  | 0 => some .power
  | 1 => some .pin
  | 2 => some .restart
  | _ => none

/-- R205: bits 7–6 severity, bit 4 set when the subject is none, bits 3–0 subject. -/
def severityByte (sev : Severity) (subject : Option Slot) : Byte :=
  BitVec.ofNat 8 (64 * sev.number + match subject with
    | some p => p.val
    | none => 16)

/-- R205: the subject of an entry's byte 2. DESIGN CHOICE (log 43): bit 5 is ignored, and so are bits 3–0 with bit 4
set. -/
def subjectOf (b : Byte) : Option Slot :=
  if b.getLsbD 4 then none else some (Fin.ofNat 16 b.toNat)

/-- R205: an ALARM entry, 7 bytes. -/
def alarmEntryBytes (e : AlarmEntry) : List Byte :=
  bytesOf 2 e.code.toNat ++ [severityByte e.sev e.subject] ++ bytesOf 4 e.raised

/-- R205: the entries of an ALARM payload, `n` of them. -/
def alarmEntriesOf : Nat → List Byte → List AlarmEntry
  | 0, _ => []
  | n + 1, l =>
    let b := l.getD 2 0
    { code := BitVec.ofNat 16 (numberOf (l.take 2)), sev := severityOf (b.toNat / 64),
      subject := subjectOf b, raised := numberOf ((l.drop 3).take 4) } :: alarmEntriesOf n (l.drop 7)

/-- R205: a class byte lies in 1..15. -/
def classValid (n : Nat) : Bool := decide (1 ≤ n) && decide (n ≤ 15)

/-- R205: a BEACON. Bit 0 of the flags is stepped, bit 1 previous start present (R204). DESIGN CHOICE (log 43): the
eight bytes of the previous start are ignored where it is absent, and its nanoseconds are taken as they are spelled. -/
def beaconOf (flags : Byte) (p : List Byte) : Option Content :=
  let cls := (p.getD 0 0).toNat
  if p.length = 9 && classValid cls then
    some (.beacon cls
      (if flags.getLsbD 1 then some ⟨numberOf ((p.drop 1).take 4), numberOf ((p.drop 5).take 4)⟩
       else none)
      (flags.getLsbD 0))
  else none

/-- R205: a ROLLCALL. DESIGN CHOICE (log 43): bits 7–1 of its third byte are ignored. -/
def rollcallOf (p : List Byte) : Option Content :=
  let cls := (p.getD 1 0).toNat
  if p.length = 5 && classValid cls then
    some (.rollcall (p.getD 0 0) cls ((p.getD 2 0).getLsbD 0) (p.getD 3 0) (p.getD 4 0))
  else none

/-- R205: a JOIN. Bit 0 of the flags is first join (R204). DESIGN CHOICE (log 43): bits 7–3 of its fourth byte are
ignored. -/
def joinOf (flags : Byte) (p : List Byte) : Option Content :=
  let cls := (p.getD 2 0).toNat
  let last := p.getD 3 0
  if p.length = 4 && classValid cls then
    (causeOf (last.toNat / 2 % 4)).map fun cause =>
      .join (p.getD 0 0) (p.getD 1 0) cls (last.getLsbD 0) cause (flags.getLsbD 0)
  else none

/-- R205: a LEAVE. Bit 0 of the flags is handover, bit 1 the reason (R204). -/
def leaveOf (flags : Byte) (p : List Byte) : Option Content :=
  if p.length = 1 then
    some (.leave (p.getD 0 0) (flags.getLsbD 0) (if flags.getLsbD 1 then .release else .latch))
  else none

/-- R205: an ALARM. -/
def alarmOf (p : List Byte) : Option Content :=
  let n := (p.getD 1 0).toNat
  if decide (2 ≤ p.length) && decide (n ≤ 32) && p.length = 2 + 7 * n then
    some (.alarm (p.getD 0 0) (alarmEntriesOf n (p.drop 2)))
  else none

/-- R10, R204, R205: what a frame with a matching check says; absent where kind, dest, length or a
field makes it a frame with a bad check. -/
def contentOf (f : RxFrame) : Option Content :=
  if 16 < f.dest.toNat then none
  else
    match f.kind.toNat / 16 with
    | 1 => beaconOf f.kind f.payload
    | 2 => rollcallOf f.payload
    | 3 => joinOf f.kind f.payload
    | 4 => leaveOf f.kind f.payload
    | 5 => alarmOf f.payload
    | 6 => some (.data (f.kind.toNat % 4))
    | _ => none

/-- R204: the bytes that the check covers. -/
def coveredBytes (key kind dest seq : Byte) (payload : List Byte) : List Byte :=
  [key, kind, dest, seq] ++ bytesOf 2 payload.length ++ payload

/-- R10, R12: the check result of a frame heard, with its contents when it is GOOD. -/
def goodContent (key : Byte) (f : RxFrame) : Option Content :=
  if f.aborted then none
  else if crc (coveredBytes key f.kind f.dest f.seq f.payload) = f.check then contentOf f
  else none

/-! ### Request arguments (R189 to R197) -/

/-- R191: class 2 is EXPRESS, 3 is BULK. -/
def sendClassOf (b : Byte) : Option CardQueue :=
  match b.toNat with
  | 2 => some .express
  | 3 => some .bulk
  | _ => none

/-- R191, R193: dest at most 16 and not the latched slot. -/
def cardDestOf (own : Slot) (b : Byte) : Option Dest :=
  match destOf b with
  | some d => if d = .slot own then none else some d
  | none => none

/-- R191: the arguments of SEND. -/
def sendArgs (own : Slot) (cls tier dest : Byte) (payload : List Byte) : Option (CardQueue × Dest) :=
  match sendClassOf cls, cardDestOf own dest with
  | some q, some d =>
    if decide (tier.toNat ≤ 3) && decide (payload.length ≤ 256) then some (q, d) else none
  | _, _ => none

/-- R193: the arguments of SET PERIODIC. -/
def periodicArgs (own : Slot) (index dest tier : Byte) (payload : List Byte) : Option (Fin 4 × Dest) :=
  match cardDestOf own dest with
  | some d =>
    if decide (index.toNat ≤ 3) && decide (tier.toNat ≤ 3) && decide (payload.length ≤ 256) then
      some (Fin.ofNat 4 index.toNat, d)
    else none
  | none => none

/-- R197: one of the four severities. -/
def severityArg (b : Byte) : Option Severity :=
  if b.toNat < 4 then some (severityOf b.toNat) else none

/-- R197: a subject 0..15, or none. -/
def subjectArg (subject : Option Byte) : Option (Option Slot) :=
  match subject with
  | none => some none
  | some b => if b.toNat < 16 then some (some (Fin.ofNat 16 b.toNat)) else none

/-- R197: a code of the card's. -/
def cardCode (code : Word16) : Bool := decide (0x1000 ≤ code.toNat)

/-- R197: the arguments of RAISE. -/
def raiseArgs (code : Word16) (severity : Byte) (subject : Option Byte) :
    Option (Severity × Option Slot) :=
  if cardCode code then
    match severityArg severity, subjectArg subject with
    | some sev, some sub => some (sev, sub)
    | _, _ => none
  else none

/-- R197: the arguments of CLEAR. -/
def clearArgs (code : Word16) (subject : Option Byte) : Option (Option Slot) :=
  if cardCode code then subjectArg subject else none

/-- R195: a PEEK offset in −8..+8. -/
def peekArg (k : Byte) : Option Int :=
  if decide (-8 ≤ k.toInt) && decide (k.toInt ≤ 8) then some k.toInt else none

/-- A value clamped to `lo..hi` (R190). -/
def clampNat (lo hi n : Nat) : Nat := min hi (max lo n)

/-- clamp(x, ±m) (00_scope.md section 4.1). -/
def clampInt (m x : Int) : Int := min m (max (-m) x)

/-- R190: the fields of CONFIGURE as held; the tier targets by running maximum (R90). -/
def heldConfig (c : ConfigArgs) : ConfigHeld :=
  let t1 := max c.t0.toNat c.t1.toNat
  let t2 := max t1 c.t2.toNat
  { cardType := c.cardType, eligible := c.eligible, external := c.external,
    relayCapable := c.relayCapable, airOffset := c.airOffset.toNat % Config.frameNs,
    pitch := c.pitch.toNat, holdLimit := c.holdLimit.toNat, t0 := c.t0.toNat, t1 := t1, t2 := t2,
    t3 := max t2 c.t3.toNat, expressShare := c.expressShare.toNat,
    cardTimeout := min 100 c.cardTimeout.toNat, txRoom := clampNat 1 48 c.txRoom.toNat,
    reapLevel := clampNat 1 48 c.reapLevel.toNat }

/-- R83: a periodic entry's new content; a phase above N is reduced modulo N + 1. -/
def PeriodicEntry.rewrite (old : PeriodicEntry) (skip phase : Nat) (dest : Dest) (tier : Nat)
    (payload : List Byte) : PeriodicEntry :=
  { skip := skip, phase := phase % (skip + 1), dest := dest, tier := tier, payload := payload,
    missed := old.missed, written := true }

end Sys2Proof.Machine
end

