-- ==== Sys2Proof/Machine/Flags.lean ====
section
/-! DEFINITION. What follows from the state at once: the two gates, the counts of the queues, the
ATTN causes and the output pins. -/

namespace Sys2Proof.Machine

/-! ### Seat state (R26, R36) -/

/-- R26: the class may contend in the seat state. -/
def transmitPermits (state : SeatState) (q : FrameClass) : Bool :=
  match state with
  | .active | .leaving => true
  | .joining => q = .control
  | .config | .waitSeat | .listen | .gone | .unseated | .clashed => false

/-- R26: end marks may be driven. -/
def markGate (state : SeatState) : Bool :=
  match state with
  | .joining | .active | .leaving => true
  | .config | .waitSeat | .listen | .gone | .unseated | .clashed => false

/-- R26: the states whose entry closes the transmit gate. -/
def closesGate (state : SeatState) : Bool :=
  match state with
  | .gone | .unseated | .clashed => true
  | .config | .waitSeat | .listen | .joining | .active | .leaving => false

/-- R43: the states in which readback reports are counted. -/
def countsReadback (state : SeatState) : Bool :=
  match state with
  | .waitSeat | .listen | .joining | .active | .leaving => true
  | .config | .gone | .unseated | .clashed => false

/-- R36: the LEAVE of the present LEAVING period has been placed. -/
def Seat.leaveIsPlaced (s : Seat) : Bool := s.state = .leaving && s.leavePlaced

/-- R173, R174: ACTIVE, or LEAVING with the LEAVE not yet placed. -/
def Seat.maySendAlarms (s : Seat) : Bool := s.state = .active || (s.state = .leaving && !s.leavePlaced)

/-! ### Counts -/

/-- R78: SEND frames carry a tag. -/
def sendFrames (l : List Entry) : Nat := l.countP fun e => e.tag.isSome

/-- R78: the reservation count. -/
def Sched.reserved (c : Sched) : Nat := sendFrames c.express + sendFrames c.bulk + c.completions.length

/-- R21: window_bt. -/
def Lane.windowBt (l : Lane) : Nat := (l.windowPeriods + 1) / 2

/-- R169: the entries of the own list that came from the card. -/
def AlarmUnit.cardEntries (a : AlarmUnit) : Nat := a.own.countP fun e => cardCode e.code

/-! ### Causes and pins -/

/-- R199: the COMPLETIONS cause, held and not latched. -/
def Station.completionsCause (s : Station) : Bool :=
  decide (s.port.reapLevel ≤ s.sched.completions.length)

/-- R199: the causes as they stand. -/
def Station.causes (s : Station) : Causes :=
  { viewChanged := s.alarm.viewChanged, seat := s.port.seatCause, timing := s.port.timingCause,
    missed := s.port.missedCause, completions := s.completionsCause }

/-- R199: any cause stands. -/
def Causes.any (c : Causes) : Bool := c.viewChanged || c.seat || c.timing || c.missed || c.completions

/-- R200: TX_ROOM. -/
def Station.txRoomHolds (s : Station) : Bool :=
  s.seat.state = .active
    && decide (s.sched.reserved ≤ Config.reservation - s.port.txRoom)
    && decide (s.sched.express.length < FrameClass.express.capacity)
    && decide (s.sched.bulk.length < FrameClass.bulk.capacity)

/-- R182: the relays may be driven. -/
def Station.relaysEnabled (s : Station) : Bool :=
  s.alarm.relayCapable && (s.seat.state = .active || s.seat.state = .leaving)

/-- R182: the view holds an entry of this severity. -/
def viewHolds (view : List ViewEntry) (sev : Severity) : Bool := view.any fun e => e.sev = sev

/-- R122: a pulse has begun. STROBE_PULSE_END removes it. -/
def pulseOn (p : Option Pulse) (now : Nat) : Bool :=
  match p with
  | some p => decide (p.first ≤ now)
  | none => false

/-- The output pins as the state has them (R39, R122, R182, R199, R200). -/
def Station.outputs (s : Station) : Outputs :=
  { safe := s.seat.state = .gone
    attn := s.causes.any
    rxReady := !s.rx.express.isEmpty || !s.rx.bulk.isEmpty
    txRoom := s.txRoomHolds
    subframeStb := pulseOn s.time.pulseSub s.localTime
    frameStb := pulseOn s.time.pulseFrame s.localTime
    ppsOut := pulseOn s.time.pulsePps s.localTime
    resync := pulseOn s.time.pulseResync s.localTime
    critRelay := s.relaysEnabled && viewHolds s.alarm.view .critical
    majRelay := s.relaysEnabled && (viewHolds s.alarm.view .critical || viewHolds s.alarm.view .major) }

/-- R25: a station held in reset drives no output. -/
def Station.outputsNow (s : Station) : Outputs := if s.hold then Outputs.released else s.outputs

/-- The output pins judged afresh. -/
def Station.drive (s : Station) : Station := { s with outs := s.outputsNow }

end Sys2Proof.Machine
end

