-- ==== Sys2Proof/Machine/TimeBase.lean ====
section
/-! DEFINITION. Cabinet time: its advance, the boundaries crossed, the strobes and their pulses, and
the step (07_cabinet_time_and_strobes.md). -/

namespace Sys2Proof.Machine

/-- R118: the increment of one local period, in fraction units. -/
def increment (a : Int) : Int :=
  Config.nominalIncrement + (a * Config.nominalIncrement).tdiv (Config.nsPerSec : Int)

/-- R117, R118: one local period, carried through the fields in one act. -/
def TimeBase.advance (t : TimeBase) : TimeBase :=
  let f := t.frac + (increment t.a).toNat
  let n := t.ns + f / Config.fracUnit
  { t with
    frac := f % Config.fracUnit
    ns := n % Config.nsPerSec
    sec := (t.sec + n / Config.nsPerSec) % Config.secRange }

/-! ### Boundaries (R120, R121, R123) -/

/-- How far `t` lies past the boundary of its grid at or before it. -/
def pastBoundary (t offset spacing : Nat) : Nat :=
  (t + Config.timeRange - offset) % Config.timeRange % spacing

/-- R121: the boundary after `t0` and at or before `t1`, if one lies there. -/
def crossed (t0 t1 offset spacing : Nat) : Option Nat :=
  let past := pastBoundary t0 offset spacing
  let advance := (t1 + Config.timeRange - t0) % Config.timeRange
  if spacing ≤ past + advance then some ((t0 + (spacing - past)) % Config.timeRange) else none

/-- R123: frames in one full round of cabinet time. -/
def frameRound : Nat := Config.timeRange / Config.frameNs

/-- R123: the frame count of a boundary. -/
def frameCount (boundary offset : Nat) : Nat :=
  (boundary + Config.timeRange - offset) % Config.timeRange / Config.frameNs

/-- R121: a subframe boundary crossed, with the RESYNC mark it takes (log 5). -/
def TimeBase.oweSub (t : TimeBase) (boundary : Option Nat) : TimeBase :=
  match boundary with
  | some b =>
    { t with
      owedSub := t.owedSub ++ [⟨Stamp.ofTotal b, 0, t.resyncSub⟩]
      resyncSub := false }
  | none => t

/-- R121, R124: a frame boundary crossed. After a re-alignment the boundary whose count does not
exceed the last frame count by one is passed over. -/
def TimeBase.oweFrame (t : TimeBase) (boundary : Option Nat) : TimeBase :=
  match boundary with
  | some b =>
    let count := frameCount b t.offset
    let emitted := match t.passOver with
      | some last => decide (count = (last + 1) % frameRound)
      | none => true
    if emitted then
      { t with
        owedFrame := t.owedFrame ++ [⟨Stamp.ofTotal b, count, t.resyncFrame⟩]
        resyncFrame := false
        passOver := none }
    else t
  | none => t

/-- R121: a whole second crossed. -/
def TimeBase.owePps (t : TimeBase) (boundary : Option Nat) : TimeBase :=
  match boundary with
  | some b =>
    { t with
      owedPps := t.owedPps ++ [⟨Stamp.ofTotal b, 0, t.resyncPps⟩]
      resyncPps := false }
  | none => t

/-- R118, R121: a local period's advance, and the boundaries it crosses. -/
def TimeBase.period (t : TimeBase) : TimeBase :=
  let t' := t.advance
  ((t'.oweSub (crossed t.total t'.total t.offset Config.subframeNs)).oweFrame
    (crossed t.total t'.total t.offset Config.frameNs)).owePps
    (crossed t.total t'.total 0 Config.nsPerSec)

/-! ### Pulses (R122) -/

/-- R122: a pulse of 100 local periods from now; a pin still asserted, whose pulse has not ended, is first
deasserted for one local period. -/
def startPulse (old : Option Pulse) (now : Nat) : Pulse :=
  match old with
  | some _ => ⟨now + 1, now + 1 + Config.pulse⟩
  | none => ⟨now, now + Config.pulse⟩

/-- R122: RESYNC with a strobe, over the same 100 periods as the strobe's own pulse. Still asserted from an
earlier strobe, it too is first deasserted for one local period; strobes at one boundary share one pulse. DESIGN
CHOICE (log 4): of two marked strobes of one boundary, the pin of one still asserted and that of the other not, the
pulses begin one period apart, and RESYNC has the periods of the strobe whose command comes first. -/
def resyncPulse (old : Option Pulse) (strobe : Pulse) (now : Nat) (mark : Bool) : Option Pulse :=
  if mark then
    match old with
    | some p => if now ≤ p.first then some p else some (startPulse old now)
    | none => some strobe
  else old

/-- R122: a pulse whose 100 periods are over is removed. -/
def endPulse (old : Option Pulse) (now : Nat) : Option Pulse :=
  match old with
  | some p => if p.last ≤ now then none else some p
  | none => none

/-! ### The strobes emitted (R121) -/

/-- R121: the subframe strobe of the oldest subframe boundary that is still owed one. -/
def TimeBase.emitSub (t : TimeBase) (now : Nat) : TimeBase :=
  match t.owedSub with
  | o :: rest =>
    { t with
      owedSub := rest
      pulseSub := some (startPulse t.pulseSub now)
      pulseResync := resyncPulse t.pulseResync (startPulse t.pulseSub now) now o.resync }
  | [] => t

/-- R121, R123: the frame strobe of the oldest frame boundary that is still owed one. -/
def TimeBase.emitFrame (t : TimeBase) (now : Nat) : TimeBase :=
  match t.owedFrame with
  | o :: rest =>
    { t with
      owedFrame := rest
      lastFrame := some o.boundary
      lastCount := some o.count
      pulseFrame := some (startPulse t.pulseFrame now)
      pulseResync := resyncPulse t.pulseResync (startPulse t.pulseFrame now) now o.resync }
  | [] => t

/-- R121: the PPS strobe of the oldest whole second that is still owed one. -/
def TimeBase.emitPps (t : TimeBase) (now : Nat) : TimeBase :=
  match t.owedPps with
  | o :: rest =>
    { t with
      owedPps := rest
      lastPps := some o.boundary
      pulsePps := some (startPulse t.pulsePps now)
      pulseResync := resyncPulse t.pulseResync (startPulse t.pulsePps now) now o.resync }
  | [] => t

/-- R122: the end of the pulse on one pin. -/
def TimeBase.endPulseOn (t : TimeBase) (pin : StrobePin) (now : Nat) : TimeBase :=
  match pin with
  | .subframe => { t with pulseSub := endPulse t.pulseSub now }
  | .frame => { t with pulseFrame := endPulse t.pulseFrame now }
  | .pps => { t with pulsePps := endPulse t.pulsePps now }
  | .resync => { t with pulseResync := endPulse t.pulseResync now }

/-! ### Re-alignment (R124) -/

/-- R123: the count of the latest frame strobe, one still owed included. -/
def TimeBase.latestCount (t : TimeBase) : Option Nat :=
  match t.owedFrame.getLast? with
  | some o => some o.count
  | none => t.lastCount

/-- R124: CONFIGURE's air offset. The same offset changes nothing. -/
def TimeBase.realign (t : TimeBase) (offset : Nat) : TimeBase :=
  if offset = t.offset then t
  else
    { t with
      offset := offset
      passOver := if t.resyncFrame then none else t.latestCount
      resyncSub := true
      resyncFrame := true }

/-! ### Steps (R125) -/

/-- R125: T + D modulo the range of T, the fraction kept; the flags and the step record. -/
def TimeBase.step (t : TimeBase) (d : Int) : TimeBase :=
  let total := ((t.total : Int) + d) % (Config.timeRange : Int)
  let new := Stamp.ofTotal total.toNat
  { t with
    sec := new.sec
    ns := new.ns
    resyncSub := true
    resyncFrame := true
    resyncPps := true
    stepCount := (t.stepCount + 1) % 65536
    lastStep := some d
    passOver := none }

/-- R58: the stamp of a beacon record marked void. -/
def Peer.voidStamp (r : Peer) : Peer :=
  { r with beacon := r.beacon.map fun b => { b with void := true } }

/-- R58, R64: Sp marked void in every beacon record. -/
def Station.voidStamps (s : Station) : Station :=
  allSlots.foldl (fun s p => s.setPeer p (s.peer p).voidStamp) s

/-- R12: a stamp taken and not yet handed over is marked void. -/
def Lane.voidStamp (l : Lane) : Lane :=
  { l with rxStamp := l.rxStamp.map fun r => { r with void := true } }

/-- R148: a step taken. -/
def Selector.markStepped (c : Selector) : Selector :=
  { c with steppedPrevious := true, steppedCurrent := true }

/-- R125: a step taken, with its announcement to the lane interface (R12), the roster (R58) and the
selector (R148), and the TIMING cause (R199). -/
def Station.stepTime (s : Station) (d : Int) : Station :=
  let s := s.voidStamps
  ({ s with time := s.time.step d, lane := s.lane.voidStamp, sel := s.sel.markStepped }).setTimingCause

end Sys2Proof.Machine
end

