-- ==== Sys2Proof/Machine/Scheduler.lean ====
section
/-! DEFINITION. The transmit scheduler: placements, the offer and BULK selection, what becomes of a
frame at a result, completions, flushes, periodic releases and the budget window
(04_transmit_queues_and_completions.md, 05_lane_share_and_congestion.md). -/

namespace Sys2Proof.Machine

/-! ### Placement (R67, R68) -/

/-- R67: an entry as placed. -/
def Entry.placed (kind : FrameKind) (dest : Dest) (tier : Nat) (payload : List Byte)
    (tag : Option Word16) (periodic : Option (Fin 4)) : Entry :=
  { kind := kind, dest := dest, tier := tier, payload := payload, tag := tag, periodic := periodic,
    seq := none, patience := 3, attempts := 0, faults := 0, refusals := 0, backoff := none,
    onLane := false, pending := none, withdrawn := false, lastStart := none }

/-- R66: an internal frame as placed; it is a broadcast and carries no tag. -/
def Entry.internal (kind : FrameKind) (payload : List Byte) : Entry :=
  Entry.placed kind .all 0 payload none none

/-- R68: the queue has room. -/
def Sched.hasRoom (c : Sched) (q : FrameClass) : Bool := decide ((c.queue q).length < q.capacity)

/-- R68: a placement at the tail. -/
def Sched.append (c : Sched) (q : FrameClass) (e : Entry) : Sched := c.setQueue q (c.queue q ++ [e])

/-- R68: the CONTROL entries after one is discarded to make room for a frame at the head: the entry
nearest the tail that is not on the lane. -/
def controlWithRoom (l : List Entry) : List Entry :=
  if l.length < FrameClass.control.capacity then l
  else (l.reverse.eraseP fun e => !e.onLane).reverse

/-- R68: the entry that `controlWithRoom` discards. -/
def controlDiscarded (l : List Entry) : Option Entry :=
  if l.length < FrameClass.control.capacity then none else l.reverse.find? fun e => !e.onLane

/-- R68: ahead of every entry not on the lane, behind the one that is. -/
def insertAtHead (l : List Entry) (e : Entry) : List Entry :=
  match l with
  | h :: t => if h.onLane then h :: e :: t else e :: h :: t
  | [] => [e]

/-- R68: JOIN and LEAVE go to the head of CONTROL. -/
def Sched.placeAtHead (c : Sched) (e : Entry) : Sched :=
  { c with control := insertAtHead (controlWithRoom c.control) e }

/-- R68: a block withdraws its internal frames of one kind. One that is on the lane stays to its
result and is removed there. -/
def Sched.withdraw (c : Sched) (q : FrameClass) (kind : FrameKind) : Sched :=
  c.setQueue q
    (((c.queue q).filter fun e => !(e.kind = kind && !e.onLane)).map fun e =>
      if e.kind = kind then { e with withdrawn := true } else e)

/-! ### Completions and missed flags (R76, R85, R86) -/

/-- R199: the missed flag of a periodic entry, with the MISSED cause when it goes from clear to set. -/
def Station.setMissed (s : Station) (i : Fin 4) : Station :=
  let e := s.sched.periodic.get i
  if e.missed then s
  else
    { s with
      sched := { s.sched with periodic := s.sched.periodic.set i { e with missed := true } }
      port := { s.port with missedCause := true } }

/-- R76, R86: a card frame has left its queue. A SEND frame writes its completion record; a periodic
copy not delivered sets its entry's missed flag, unless the entry stays cleared since a RESET TRAFFIC
(R82). An internal frame writes nothing (R75). -/
def Station.retire (s : Station) (e : Entry) (o : FrameOutcome) : Station :=
  match e.tag with
  | some tag =>
    { s with
      sched :=
        { s.sched with
          completions := s.sched.completions ++
            [{ tag := tag, outcome := o, attempts := e.attempts, lastStart := e.lastStart }] } }
  | none =>
    match e.periodic with
    | some i =>
      if o = .delivered then s
      else if (s.sched.periodic.get i).written then s.setMissed i else s
    | none => s

/-! ### The offer (R69, R70, R97) -/

/-- R96, R97, R99: the share and budget tests of a head. -/
def Share.permits (h : Share) (q : FrameClass) (e : Entry) : Bool :=
  match q with
  | .timing | .control => true
  | .express => h.expressShare = 0 || decide (h.spentExpress < h.expressShare)
  | .bulk => decide (e.tier ≤ h.tierLimit) && decide (h.spentBulk < h.budget)

/-- R69: a card queue is held by the head's back-off and by a LEAVE already placed. -/
def Station.cardQueueHeld (s : Station) (q : FrameClass) (e : Entry) : Bool :=
  match q with
  | .timing | .control => false
  | .express | .bulk => e.backoff.isSome || s.seat.leaveIsPlaced

/-- R69: the head of the queue is eligible. -/
def Station.headEligible (s : Station) (q : FrameClass) : Bool :=
  match s.sched.queue q with
  | e :: _ =>
    transmitPermits s.seat.state q && !e.onLane && !s.cardQueueHeld q e && s.share.permits q e
  | [] => false

/-- R97: BULK selection removes this head with outcome SHED. -/
def Station.sheds (s : Station) (e : Entry) : Bool :=
  decide (s.share.tierLimit < e.tier) && !e.onLane && e.backoff.isNone

/-- R97: BULK selection judges heads in the seat states ACTIVE, and LEAVING before the LEAVE. -/
def Station.bulkSelection (s : Station) : Station :=
  if s.seat.maySendAlarms then
    (s.sched.bulk.takeWhile s.sheds).foldl (fun t e => t.retire e .shed)
      (s.setQueue .bulk (s.sched.bulk.dropWhile s.sheds))
  else s

/-- The station with its offer. -/
def Station.setOffer (s : Station) (q : Option FrameClass) : Station :=
  { s with sched := { s.sched with offer := q } }

/-- R70: the first eligible head in the order of the queues, BULK selection where none of the first
three has one. The offer stands while the lane is OPEN and no attempt is in progress. -/
def Station.renewOffer (s : Station) : Station :=
  if s.hold || s.lane.line != .opened || s.lane.attempt.isSome then s.setOffer none
  else if s.headEligible .timing then s.setOffer (some .timing)
  else if s.headEligible .control then s.setOffer (some .control)
  else if s.headEligible .express then s.setOffer (some .express)
  else
    let s := s.bulkSelection
    s.setOffer (if s.headEligible .bulk then some .bulk else none)

/-! ### Results (R71 to R75, R80, R86) -/

/-- R72: a counted attempt; a won attempt's start stamp becomes the last start. -/
def Entry.counted (e : Entry) (start : Option Stamp) : Entry :=
  { e with attempts := e.attempts + 1, lastStart := start.or e.lastStart, onLane := false }

/-- R86: a periodic copy's attempts are at their limit of 4. -/
def Entry.copySpent (e : Entry) : Bool := e.periodic.isSome && decide (4 ≤ e.attempts)

/-- R73, R86: a counted attempt that ended FLAW or UNHEARD. -/
def Entry.afterFault (e : Entry) : Fate :=
  let e := { e with faults := e.faults + 1 }
  if decide (4 ≤ e.faults) || e.copySpent || e.withdrawn then .leaves e .unheard else .stays e

/-- R74, R86: a counted attempt that ended REFUSED. -/
def Entry.afterRefusal (e : Entry) (now : Nat) : Fate :=
  let e := { e with refusals := e.refusals + 1 }
  if decide (8 ≤ e.refusals) || e.copySpent || e.withdrawn then .leaves e .refused
  else .stays { e with backoff := some (now + Config.backoff) }

/-- R71: patience after a LOST report. -/
def Entry.lost (e : Entry) : Entry := { e with patience := e.patience - 1, onLane := false }

/-- R71 to R74, R80, R86: what becomes of the entry on the lane at a result. `start` is the attempt's
start stamp, absent when the key was not won; `contending` tells a CUT made while still CONTENDING,
which is not counted. -/
def Entry.fate (e : Entry) (r : AttemptEnd) (contending : Bool) (start : Option Stamp) (now : Nat) :
    Fate :=
  match r with
  | .lost =>
    match e.pending with
    | some o => .leaves e.lost o
    | none => if e.withdrawn then .leaves e.lost .flushed else .stays e.lost
  | .cut =>
    let e' := if contending then { e with onLane := false } else e.counted start
    .leaves e' (e.pending.getD .flushed)
  | .delivered => .leaves (e.counted start) .delivered
  | .flaw | .unheard =>
    match e.pending with
    | some o => .leaves { e.counted start with faults := e.faults + 1 } o
    | none => (e.counted start).afterFault
  | .refused =>
    match e.pending with
    | some o => .leaves { e.counted start with refusals := e.refusals + 1 } o
    | none => (e.counted start).afterRefusal now

/-- The head of a queue when it is on the lane. -/
def Sched.onLaneHead (c : Sched) (q : FrameClass) : Option Entry :=
  match c.queue q with
  | e :: _ => if e.onLane then some e else none
  | [] => none

/-- The queue's entries behind its head. -/
def Sched.behindHead (c : Sched) (q : FrameClass) : List Entry := (c.queue q).tail

/-- The head of a queue replaced. -/
def Station.setHead (s : Station) (q : FrameClass) (e : Entry) : Station :=
  s.setQueue q (e :: s.sched.behindHead q)

/-- R8: the attempt record is cleared when the result is handed over. -/
def Station.clearAttempt (s : Station) : Station :=
  { s with lane := { s.lane with attempt := none } }

/-- R72: what becomes of the frame of an attempt at its result; absent when its entry was emptied
from the queue meanwhile (R81). -/
def Station.resultFate (s : Station) (a : Attempt) (r : AttemptEnd) : Option Fate :=
  (s.sched.onLaneHead a.queue).map fun e =>
    e.fate r (a.phase = .contending) a.start s.localTime

/-- R72: the scheduler acts on a result. The frame that leaves its queue is retired. -/
def Station.applyFate (s : Station) (q : FrameClass) (f : Option Fate) : Station :=
  match f with
  | some (.stays e) => s.setHead q e
  | some (.leaves e o) => (s.setQueue q (s.sched.behindHead q)).retire e o
  | none => s

/-! ### Flushes (R79 to R82) -/

/-- R80: the first pending disposition stands. -/
def Entry.markPending (e : Entry) (o : FrameOutcome) : Entry := { e with pending := e.pending.or (some o) }

/-- R79 to R82: the entries that a flush hits leave their queue with the outcome, in queue order; one
on the lane is given the outcome as its pending disposition. -/
def Station.flush (s : Station) (q : FrameClass) (hit : Entry → Bool) (o : FrameOutcome) : Station :=
  let l := s.sched.queue q
  let kept := l.filter fun e => !(hit e && !e.onLane)
  (l.filter fun e => hit e && !e.onLane).foldl (fun t e => t.retire e o)
    (s.setQueue q (kept.map fun e => if hit e then e.markPending o else e))

/-- R79: the card frames to a slot that became ABSENT or LEFT. DESIGN CHOICE (log 39): the records of EXPRESS
are written before those of BULK; R79 orders them within a queue alone. -/
def Station.flushSlot (s : Station) (p : Slot) : Station :=
  let hit := fun e : Entry => e.dest = .slot p
  (s.flush .express hit .destGone).flush .bulk hit .destGone

/-- R81, R82: every card frame completes FLUSHED. RESET TRAFFIC takes EXPRESS first (R82); for R81, which gives
no order of the two queues, the model does the same (DESIGN CHOICE, log 39). -/
def Station.flushCards (s : Station) : Station :=
  (s.flush .express (fun _ => true) .flushed).flush .bulk (fun _ => true) .flushed

/-- R81: TIMING and CONTROL are emptied, and their owners are not told. -/
def Station.emptyInternal (s : Station) : Station := (s.setQueue .timing []).setQueue .control []

/-! ### The periodic table (R82 to R86) -/

/-- R82: every periodic entry cleared to its reset value. -/
def Station.clearPeriodic (s : Station) : Station :=
  { s with sched := { s.sched with periodic := Vector.replicate 4 PeriodicEntry.cleared } }

/-- R84: an entry is due at a frame count. -/
def PeriodicEntry.due (e : PeriodicEntry) (count : Nat) : Bool :=
  decide (e.skip < 255) && decide (count % (e.skip + 1) = e.phase)

/-- R85: a due entry's occurrence is skipped. -/
def Station.skipsRelease (s : Station) (e : PeriodicEntry) : Bool :=
  !s.sched.hasRoom .express || s.seat.state != .active || s.destGone e.dest

/-- R84, R85: one entry at a frame strobe. -/
def Station.releaseEntry (count : Nat) (s : Station) (i : Fin 4) : Station :=
  let e := s.sched.periodic.get i
  if e.due count then
    if s.skipsRelease e then s.setMissed i
    else
      { s with
        sched := s.sched.append .express (Entry.placed .data e.dest e.tier e.payload none (some i)) }
  else s

/-- R84: the periodic releases at a frame strobe, in index order. -/
def Station.releasePeriodic (s : Station) (count : Nat) : Station :=
  [(0 : Fin 4), 1, 2, 3].foldl (Station.releaseEntry count) s

/-- R194: the missed flags as VIEW QUEUES leaves them. -/
def Sched.clearMissed (c : Sched) : Sched :=
  [(0 : Fin 4), 1, 2, 3].foldl
    (fun c (i : Fin 4) => { c with periodic := c.periodic.set i { c.periodic.get i with missed := false } }) c

/-! ### The budget window (R91 to R95) -/

/-- R91: the congestion level of a busy figure. -/
def levelOf (busy256 : Nat) : Nat :=
  if busy256 ≤ 153 then 0 else if busy256 ≤ 191 then 1 else if busy256 ≤ 229 then 2 else 3

/-- R93: the tier target of a tier limit. -/
def Share.target (h : Share) (k : Nat) : Nat :=
  match k with
  | 0 => h.t0
  | 1 => h.t1
  | 2 => h.t2
  | _ => h.t3

/-- R91 step 1 and 2, R92: the measurement; a short window holds L and the last busy figure. -/
def Share.measure (h : Share) (busyBt windowBt : Nat) : Share :=
  if Config.shortWindow ≤ windowBt then
    let busy256 := busyBt * 256 / windowBt
    { h with lastBusy := some busy256, level := levelOf busy256 }
  else h

/-- R91 step 3 and 4, R93, R94: limit and budget from L, both counters cleared. -/
def Share.openWindow (h : Share) : Share :=
  { h with tierLimit := 3 - h.level, budget := h.target (3 - h.level), spentBulk := 0, spentExpress := 0 }

/-- R91: a window start. -/
def Share.windowStart (h : Share) (busyBt windowBt : Nat) : Share := (h.measure busyBt windowBt).openWindow

/-- R95: the charge of a won attempt. -/
def Share.charge (h : Share) (q : FrameClass) (length : Nat) : Share :=
  match q with
  | .timing | .control => h
  | .express => { h with spentExpress := min Config.spentCap (h.spentExpress + length) }
  | .bulk => { h with spentBulk := h.spentBulk + length }

end Sys2Proof.Machine
end

