-- ==== Sys2Proof/Machine/Formats.lean ====
section
/-! DEFINITION. The byte and cell layouts of 11_the_card_port.md section 11.9: line cells, the frames
this station sends, and the bytes of each reply. -/

namespace Sys2Proof.Machine

/-! ### Line cells (R203): `true` is recessive -/

/-- R203: a data byte. -/
def dataCells (b : Byte) : List Bool := [false] ++ bitsOf b ++ [true]

/-- R203: a key symbol, the start mark and the key's bits. -/
def keyCells (key : Byte) : List Bool := [false, true] ++ bitsOf key

/-- R203: the abort symbol. -/
def abortCells : List Bool := [true, false, true, false, true, false, true, false, true, false]

/-- R203: the idle symbol. -/
def idleCells : List Bool := List.replicate 10 true

/-- R203: the end field with the delimiter and the marks driven; both cells of a mark that is driven are
dominant. -/
def endFieldCells (delimiter : Bool) (m : Marks) : List Bool :=
  [!delimiter, true, !m.flaw, !m.flaw, !m.taken, !m.taken, !m.refused, !m.refused, true, true]

/-- R203: a mark is read as present when either of its cells is dominant. -/
def marksRead (cells : List Bool) : Marks :=
  let dominant := fun i => !(cells.getD i true)
  { flaw := dominant 2 || dominant 3, taken := dominant 4 || dominant 5,
    refused := dominant 6 || dominant 7 }

/-- R203: a byte time in the key position that is a code violation. -/
def keyViolation (cells : List Bool) : Bool := cells.take 2 != [false, true]

/-- R203: a later byte time inside a frame that is a code violation. -/
def dataViolation (cells : List Bool) : Bool := cells.head? != some false && cells != abortCells

/-- R1, R17, R203: the cells of a frame from the start mark to the end of the end field, with the abort symbol
before it where the frame is aborted. A transmitter drives no delimiter once its transmit gate has closed (R18). -/
def frameCells (sent : List Byte) (aborted delimiter : Bool) (m : Marks) : List Bool :=
  match sent with
  | key :: rest =>
    keyCells key ++ rest.flatMap dataCells ++ (if aborted then abortCells else []) ++
      endFieldCells delimiter m
  | [] => []

/-- The longest run of dominant cells, `run` of them just behind. -/
def longestDominant : Nat → List Bool → Nat
  | run, [] => run
  | run, true :: l => max run (longestDominant 0 l)
  | run, false :: l => longestDominant (run + 1) l

/-! ### Frames this station sends (R204, R205) -/

/-- R204: the kind byte. -/
def kindByte (kind : FrameKind) (flags : Nat) : Byte := BitVec.ofNat 8 (16 * kind.number + flags)

/-- R147, R205: a BEACON's payload. -/
def beaconPayload (cls : Nat) (previous : Option Stamp) : List Byte :=
  bytesOf 1 cls ++ match previous with
    | some t => bytesOf 4 t.sec ++ bytesOf 4 t.ns
    | none => bytesOf 8 0

/-- R60, R205: a ROLLCALL's payload. -/
def rollcallPayload (cardType : Byte) (cls : Nat) (cardOk : Bool) (generation listSeq : Byte) :
    List Byte :=
  [cardType] ++ bytesOf 1 cls ++ [flagByte cardOk, generation, listSeq]

/-- R32, R205: a JOIN's payload. -/
def joinPayload (generation cardType : Byte) (cls : Nat) (cardOk : Bool) (cause : ResetCause) :
    List Byte :=
  [generation, cardType] ++ bytesOf 1 cls ++
    [BitVec.ofNat 8 (2 * cause.number + if cardOk then 1 else 0)]

/-- R175, R205: an ALARM's payload. -/
def alarmPayload (listSeq : Byte) (own : List AlarmEntry) : List Byte :=
  [listSeq] ++ bytesOf 1 own.length ++ own.flatMap alarmEntryBytes

/-- R204: the flags of a kind byte with two flag bits. -/
def twoFlags (bit0 bit1 : Bool) : Nat := (if bit0 then 1 else 0) + (if bit1 then 2 else 0)

/-- R8, R60, R147: the flags of the frame whose key is won now. -/
def Station.flagsOf (s : Station) (e : Entry) : Nat :=
  match e.kind with
  | .beacon =>
    twoFlags (s.sel.previous.isSome && s.sel.steppedPrevious) s.sel.previous.isSome
  | .join => twoFlags (!s.seat.reachedActive) false
  | .leave => twoFlags s.seat.handover (s.seat.leaveReason = some .release)
  | .data => e.tier % 4
  | .rollcall | .alarm => 0

/-- R8: the payload of the frame whose key is won now, built by its owner where it is built then. -/
def Station.payloadOf (s : Station) (e : Entry) : List Byte :=
  match e.kind with
  | .beacon => beaconPayload s.sel.announced s.sel.previous
  | .rollcall =>
    rollcallPayload s.roster.cardType s.sel.announced s.port.cardOk s.seat.generation s.alarm.ownSeq
  | .join =>
    joinPayload s.seat.generation s.roster.cardType s.sel.announced s.port.cardOk s.seat.cause
  | .leave => [s.seat.generation]
  | .alarm | .data => e.payload

/-- R7, R204: the bytes of a frame from its key to its check field. -/
def frameBytes (key kind dest seq : Byte) (payload : List Byte) : List Byte :=
  let covered := coveredBytes key kind dest seq payload
  covered ++ bytesOf 2 (crc covered).toNat

/-! ### Fields of replies (R206; log 23) -/

/-- R206: an optional field, with a byte that tells its presence; absent, zeros of its full width. -/
def optionalBytes (width : Nat) (o : Option (List Byte)) : List Byte :=
  match o with
  | some l => 1 :: l
  | none => 0 :: List.replicate width 0

/-- R206: a list, with a byte that gives its count. -/
def listBytes (l : List (List Byte)) : List Byte := bytesOf 1 l.length ++ l.flatten

/-- R206: a field in local time. -/
def localBytes (t : Nat) : List Byte := bytesOf 8 t

/-- A reading of cabinet time. -/
def stampBytes (t : Stamp) : List Byte := bytesOf 4 t.sec ++ bytesOf 4 t.ns

/-- Seat states from 0, in the order the chapter names them. -/
def SeatState.number : SeatState → Nat
  | .config => 0
  | .waitSeat => 1
  | .listen => 2
  | .joining => 3
  | .active => 4
  | .leaving => 5
  | .gone => 6
  | .unseated => 7
  | .clashed => 8

/-- LEAVE reasons from 0. -/
def LeaveReason.number : LeaveReason → Nat
  | .latch => 0
  | .release => 1

/-- Timer states from 0: stopped, running, expired. -/
def Timer.number : Timer → Nat
  | .stopped => 0
  | .running _ => 1
  | .expired => 2

/-- Peer states from 0; SELF follows the four (log 23). -/
def PeerState.number : PeerState → Nat
  | .absent => 0
  | .present => 1
  | .silent => 2
  | .left => 3
  | .self => 4

/-- R206: completion outcomes. -/
def FrameOutcome.number : FrameOutcome → Nat
  | .delivered => 0
  | .refused => 1
  | .unheard => 2
  | .shed => 3
  | .flushed => 4
  | .destGone => 5

/-- R206: result codes. -/
def Result.number : Result → Nat
  | .ok => 0
  | .notNow => 1
  | .full => 2
  | .empty => 3
  | .destGone => 4
  | .noSuch => 5
  | .badArgument => 6

/-- Beaconing states from 0. -/
def Beaconing.number : Beaconing → Nat
  | .off => 0
  | .claiming => 1
  | .on => 2

/-- Servo states from 0. -/
def ServoState.number : ServoState → Nat
  | .free => 0
  | .acquire => 1
  | .locked => 2
  | .holdover => 3

/-- Sample outcomes from 0. -/
def SampleOutcome.number : SampleOutcome → Nat
  | .slewed => 0
  | .stepped => 1
  | .deferred => 2

/-- A source, NONE 0, BUS 1, EXTERNAL 2, and its slot (log 23). -/
def sourceBytes : Source → List Byte
  | .none => [0, 0]
  | .bus p => [1, BitVec.ofNat 8 p.val]
  | .external => [2, 0]

/-- Two values numbered in the order a rule names them: the first, then the second. -/
def firstOf (b : Bool) : Byte := if b then 0 else 1

/-- R206: the causes byte. -/
def causesByte (c : Causes) : Byte :=
  BitVec.ofNat 8 ((if c.viewChanged then 1 else 0) + (if c.seat then 2 else 0) +
    (if c.timing then 4 else 0) + (if c.missed then 8 else 0) + (if c.completions then 16 else 0))

/-! ### Reply bodies (R190 to R197, R206) -/

/-- R190: the reply to CONFIGURE. The air offset takes the 4 bytes of the range given (log 23). -/
def configuredBytes (h : ConfigHeld) : List Byte :=
  [h.cardType, flagByte h.eligible, flagByte h.external, flagByte h.relayCapable] ++
    bytesOf 4 h.airOffset ++ bytesOf 1 h.pitch ++ bytesOf 2 h.holdLimit ++ bytesOf 2 h.t0 ++
    bytesOf 2 h.t1 ++ bytesOf 2 h.t2 ++ bytesOf 2 h.t3 ++ bytesOf 2 h.expressShare ++
    bytesOf 1 h.cardTimeout ++ bytesOf 1 h.txRoom ++ bytesOf 1 h.reapLevel

/-- R206: byte 1 of the TAKE reply: bit 0 broadcast, bit 1 BULK, bits 3–2 tier, bit 4 stamp stepped. -/
def arrivalFlags (a : Arrival) : Byte :=
  BitVec.ofNat 8 ((if a.broadcast then 1 else 0) + (if a.queue = .bulk then 2 else 0) +
    4 * (a.tier % 4) + (if a.stepped then 16 else 0))

/-- R206: the TAKE reply. -/
def takenBytes (a : Arrival) (payload : List Byte) : List Byte :=
  [BitVec.ofNat 8 a.source.val, arrivalFlags a, a.seq] ++ bytesOf 2 a.length ++ stampBytes a.stamp ++
    payload

/-- R206: a completion record. -/
def completionBytes (c : Completion) : List Byte :=
  bytesOf 2 c.tag.toNat ++ bytesOf 1 c.outcome.number ++ bytesOf 1 c.attempts ++
    optionalBytes 8 (c.lastStart.map stampBytes)

/-- R193: a periodic entry as held (log 23). -/
def periodicBytes (e : PeriodicEntry) : List Byte :=
  bytesOf 1 e.skip ++ bytesOf 1 e.phase ++ bytesOf 1 e.dest.number ++ bytesOf 1 e.tier ++
    bytesOf 2 e.payload.length ++ e.payload ++ [flagByte e.missed]

/-- R194: a periodic entry in the QUEUES report. -/
def periodicReportBytes (e : PeriodicEntry) : List Byte :=
  bytesOf 1 e.skip ++ bytesOf 1 e.phase ++ bytesOf 1 e.dest.number ++ bytesOf 1 e.tier ++
    bytesOf 2 e.payload.length ++ [flagByte e.missed]

/-- R194: the STATION report. -/
def stationBytes (r : StationReport) : List Byte :=
  bytesOf 1 r.state.number ++ bytesOf 1 r.slot.val ++ [r.generation] ++ bytesOf 1 r.cause.number ++
    optionalBytes 1 (r.leaveReason.map fun x => bytesOf 1 x.number) ++ [flagByte r.cardOk] ++
    bytesOf 1 r.watchdog.number ++ bytesOf 1 r.cardTimeout ++ bytesOf 1 r.txRoom ++
    bytesOf 1 r.reapLevel ++ [causesByte r.causes]

/-- R46: a beacon record. -/
def beaconRecBytes (b : BeaconRec) : List Byte :=
  [b.seq] ++ stampBytes b.sp ++ [flagByte b.void] ++ bytesOf 1 b.cls ++ localBytes b.arrival

/-- R46, R194: a peer record, its fields in the order of R46. -/
def peerBytes (r : Peer) : List Byte :=
  bytesOf 1 r.state.number ++ localBytes r.since ++ optionalBytes 8 (r.lastHeard.map localBytes) ++
    optionalBytes 1 (r.generation.map fun x => [x]) ++ optionalBytes 1 (r.cardType.map fun x => [x]) ++
    optionalBytes 1 (r.cls.map (bytesOf 1)) ++ optionalBytes 1 (r.cardOk.map fun x => [flagByte x]) ++
    optionalBytes 2 (r.lastJoin.map fun x => bytesOf 1 x.cause.number ++ [flagByte x.first]) ++
    optionalBytes 1 (r.lastSeq.map fun x => [x]) ++ optionalBytes 19 (r.beacon.map beaconRecBytes) ++
    optionalBytes 1 (r.alarms.listSeq.map fun x => [x]) ++
    listBytes (r.alarms.entries.map alarmEntryBytes) ++ [flagByte r.alarms.stale] ++
    listBytes (r.flaws.map localBytes) ++ optionalBytes 8 (r.barredUntil.map localBytes)

/-- R194: the ROSTER report. -/
def rosterBytes : RosterReport → List Byte
  | .peer r => peerBytes r
  | .self generation cardType cls =>
    bytesOf 1 PeerState.self.number ++ [generation, cardType] ++ bytesOf 1 cls

/-- R103: the share state. -/
def shareBytes (h : Share) : List Byte :=
  bytesOf 1 h.level ++ optionalBytes 2 (h.lastBusy.map (bytesOf 2)) ++ bytesOf 1 h.tierLimit ++
    bytesOf 2 h.budget ++ bytesOf 3 h.spentBulk ++ bytesOf 3 h.spentExpress ++ bytesOf 2 h.t0 ++
    bytesOf 2 h.t1 ++ bytesOf 2 h.t2 ++ bytesOf 2 h.t3 ++ bytesOf 2 h.expressShare

/-- R194: the QUEUES report. -/
def queuesBytes (r : QueuesReport) : List Byte :=
  bytesOf 1 r.timing ++ bytesOf 1 r.control ++ bytesOf 1 r.express ++ bytesOf 1 r.bulk ++
    bytesOf 1 r.reservation ++ bytesOf 1 r.completions ++ bytesOf 1 r.expressIn ++ bytesOf 1 r.bulkIn ++
    [flagByte r.overrun] ++ r.periodic.flatMap periodicReportBytes ++ shareBytes r.share

/-- R194: the REFERENCE report. -/
def referenceBytes (r : ReferenceReport) : List Byte :=
  [flagByte r.eligible, firstOf r.extPresent] ++ sourceBytes r.source ++ bytesOf 1 r.standing ++
    bytesOf 1 r.announced ++ bytesOf 1 r.beaconing.number ++
    listBytes (r.cands.map fun c => bytesOf 1 c.slot.val ++ bytesOf 1 c.cls) ++
    optionalBytes 2 (r.lockRecord.map fun x => [firstOf x.external] ++ bytesOf 1 x.cls) ++
    optionalBytes 9 (r.lastHandover.map fun x => bytesOf 1 x.slot.val ++ localBytes x.time)

/-- R194: the ALARMS report. -/
def alarmsBytes (r : AlarmsReport) : List Byte :=
  bytesOf 1 r.view ++ bytesOf 1 r.own ++ bytesOf 1 r.card ++
    [r.ownSeq, firstOf r.critRelay, firstOf r.majRelay, flagByte r.relayCapable, flagByte r.atEnd]

/-- R206: a view record; END has 0xFF for its source, and its other fields are empty (R184). DESIGN CHOICE (log 23):
their eight bytes are zeros, which R206 says of absent optional fields alone. -/
def viewRecordBytes : Option ViewEntry → List Byte
  | some e =>
    bytesOf 1 e.source.val ++ bytesOf 2 e.code.toNat ++ [severityByte e.sev e.subject] ++
      bytesOf 4 e.raised ++ [flagByte e.stale]
  | none => 0xFF :: List.replicate 8 0

/-- R131: the time report. -/
def timeBytes (t : TimeReport) : List Byte :=
  bytesOf 4 t.sec ++ bytesOf 4 t.ns ++ bytesOf 4 t.frac ++ signedBytesOf 3 t.a ++ bytesOf 3 t.offset ++
    optionalBytes 5 (t.lastCount.map (bytesOf 5)) ++ optionalBytes 2 (t.radioFrame.map (bytesOf 2)) ++
    optionalBytes 8 (t.lastFrame.map stampBytes) ++ optionalBytes 4 (t.lastPps.map (bytesOf 4)) ++
    bytesOf 2 t.stepCount ++ optionalBytes 8 (t.lastStep.map (signedBytesOf 8)) ++ [flagByte t.external]

/-- R165: the last sample. -/
def sampleBytes (x : Sample) : List Byte :=
  signedBytesOf 8 x.d ++ optionalBytes 3 (x.e.map (signedBytesOf 3)) ++ bytesOf 1 x.outcome.number

/-- R165: holdover: a byte that is 1 when expired, then the seconds remaining (log 23). -/
def holdoverBytes : HoldoverReport → List Byte
  | .remaining n => 0 :: bytesOf 2 n
  | .expired => [1, 0, 0]

/-- R165: the servo report. -/
def servoBytes (v : ServoReport) : List Byte :=
  bytesOf 1 v.state.number ++ sourceBytes v.source ++ signedBytesOf 3 v.i ++ signedBytesOf 3 v.a ++
    optionalBytes 13 (v.lastSample.map sampleBytes) ++ bytesOf 1 v.inCount ++ bytesOf 1 v.outCount ++
    optionalBytes 3 (v.holdover.map holdoverBytes) ++ optionalBytes 1 (v.unlocked.map (bytesOf 1)) ++
    [firstOf v.extPresent] ++ optionalBytes 4 (v.announcement.map (bytesOf 4)) ++ bytesOf 1 v.pitch ++
    bytesOf 2 v.holdLimit

/-- The bytes of a reply body. -/
def bodyBytes : Body → List Byte
  | .empty => []
  | .configured h => configuredBytes h
  | .reservation n => bytesOf 1 n
  | .taken a payload => takenBytes a payload
  | .reaped records => listBytes (records.map completionBytes)
  | .periodic e => periodicBytes e
  | .station r => stationBytes r
  | .roster r => rosterBytes r
  | .queues r => queuesBytes r
  | .reference r => referenceBytes r
  | .alarms r => alarmsBytes r
  | .viewRecord r => viewRecordBytes r
  | .listSeq n => [n]
  | .time t v => timeBytes t ++ servoBytes v

/-- R206: the reply from its start byte on. -/
def replyBytes (result : Result) (causes : Causes) (body : Body) : List Byte :=
  let b := bodyBytes body
  [0xA5] ++ bytesOf 1 result.number ++ [causesByte causes] ++ bytesOf 2 b.length ++ b

end Sys2Proof.Machine
end

