-- ==== Sys2Proof/Machine/Alarms.lean ====
section
/-! DEFINITION. The alarm unit: the own list, ALARM frames, the cabinet view and its merges, the
synthetic markers and the cursor (10_alarms_and_the_cabinet_view.md). -/

namespace Sys2Proof.Machine

/-! ### Internal conditions (R170) -/

/-- R170: LANE_STUCK. -/
def laneStuck : Word16 := 0x0001
/-- R170: SLOT_CLASH. -/
def slotClash : Word16 := 0x0002
/-- R170: REFERENCE_LOST. -/
def referenceLost : Word16 := 0x0003
/-- R170: HOLDOVER_EXPIRED. -/
def holdoverExpired : Word16 := 0x0004
/-- R170: TIME_OFFSET_HIGH. -/
def timeOffsetHigh : Word16 := 0x0005
/-- R170: CARD_UNRESPONSIVE. -/
def cardUnresponsive : Word16 := 0x0006
/-- R170: QUEUE_OVERRUN. -/
def queueOverrun : Word16 := 0x0007
/-- R170: TALKER_BARRED. -/
def talkerBarred : Word16 := 0x0008
/-- R170: JOIN_FAILED. -/
def joinFailed : Word16 := 0x0009
/-- R170: ALARM_VIEW_FULL. -/
def alarmViewFull : Word16 := 0x000A
/-- R179: CARD_MISSING. -/
def cardMissing : Word16 := 0x0010
/-- R179: CARD_REMOVED. -/
def cardRemoved : Word16 := 0x0011

/-- R170: the fixed severity of an internal code. -/
def internalSeverity (code : Word16) : Severity :=
  match code.toNat with
  | 0x0001 | 0x0002 => .critical
  | 0x0003 | 0x0004 | 0x0006 => .major
  | 0x000A => .warning
  | _ => .minor

/-! ### The order of the view (R177) -/

/-- R177: a subject's place, none after slot 15. -/
def subjectRank (s : Option Slot) : Nat :=
  match s with
  | some p => p.val
  | none => 16

/-- R177: the view order: severity, raise time, source, code, subject. -/
def ViewEntry.before (a b : ViewEntry) : Bool :=
  if a.sev.number != b.sev.number then decide (a.sev.number < b.sev.number)
  else if a.raised != b.raised then decide (a.raised < b.raised)
  else if a.source.val != b.source.val then decide (a.source.val < b.source.val)
  else if a.code.toNat != b.code.toNat then decide (a.code.toNat < b.code.toNat)
  else decide (subjectRank a.subject < subjectRank b.subject)

/-- An entry placed in a list kept in view order. -/
def insertView (e : ViewEntry) : List ViewEntry → List ViewEntry
  | [] => [e]
  | h :: t => if e.before h then e :: h :: t else h :: insertView e t

/-- A list brought into view order. -/
def sortView (l : List ViewEntry) : List ViewEntry := l.foldl (fun acc e => insertView e acc) []

/-- R169: the identity of an entry. -/
def ViewEntry.ident (e : ViewEntry) : Ident := ⟨e.source, e.code, e.subject⟩

/-- The entry of an identity. -/
def findIdent (l : List ViewEntry) (i : Ident) : Option ViewEntry := l.find? fun e => e.ident = i

/-- The entries whose identity no earlier entry has: the first of each identity (R176). -/
def firstOfEach : List ViewEntry → List ViewEntry
  | [] => []
  | e :: t => e :: (firstOfEach t).filter fun x => !(x.ident = e.ident)

/-! ### The sources of the view (R176) -/

/-- R176: an own entry in the view. -/
def AlarmEntry.inView (source : Slot) (stale : Bool) (e : AlarmEntry) : ViewEntry :=
  { source := source, code := e.code, sev := e.sev, subject := e.subject, raised := e.raised,
    stale := stale }

/-- R176: the own list's entries, with source the latched slot. -/
def Station.ownEntries (s : Station) : List ViewEntry :=
  s.alarm.own.map (AlarmEntry.inView s.seat.slot false)

/-- R176: a code that belongs to synthetic entries. -/
def syntheticCode (code : Word16) : Bool := code = cardMissing || code = cardRemoved

/-- R176, R179: the synthetic entry of a marker. -/
def markerEntry (own p : Slot) (m : Marker) : Option ViewEntry :=
  match m with
  | .none => none
  | .missing t =>
    some { source := own, code := cardMissing, sev := .major, subject := some p, raised := t, stale := false }
  | .removed t =>
    some { source := own, code := cardRemoved, sev := .warning, subject := some p, raised := t, stale := false }

/-- R176: the synthetic entries. -/
def Station.syntheticEntries (s : Station) : List ViewEntry :=
  allSlots.filterMap fun p => markerEntry s.seat.slot p (s.alarm.markers.get p)

/-- R176: the entries of a PRESENT or SILENT peer, without those that carry a synthetic code, the
first of each identity. -/
def Station.peerEntries (p : Slot) (s : Station) : List ViewEntry :=
  let r := s.peer p
  if r.state = .present || r.state = .silent then
    firstOfEach ((r.alarms.entries.filter fun e => !syntheticCode e.code).map
      (AlarmEntry.inView p r.alarms.stale))
  else []

/-- The view's entries of the own list. -/
def Station.isOwn (s : Station) (e : ViewEntry) : Bool :=
  e.source = s.seat.slot && !syntheticCode e.code

/-- The view's synthetic entry of slot `p`. -/
def Station.isSynthetic (p : Slot) (s : Station) (e : ViewEntry) : Bool :=
  e.source = s.seat.slot && syntheticCode e.code && e.subject = some p

/-- The view's entries of a peer. -/
def isPeers (p : Slot) (_ : Station) (e : ViewEntry) : Bool := e.source = p

/-! ### The cursor (R183, R184) -/

/-- R183: where the cursor goes when the view changes from `old` to `new`: it keeps its entry, or takes
the first following entry that remains, or END. -/
def followCursor (old new : List ViewEntry) (cursor : Option Ident) : Option Ident :=
  match cursor with
  | none => none
  | some i =>
    ((old.dropWhile fun e => !(e.ident = i)).find? fun e => (findIdent new e.ident).isSome).map
      ViewEntry.ident

/-- R177, R183, R185: the view replaced; the cursor follows, and a change sets the view-changed cause. -/
def AlarmUnit.setView (a : AlarmUnit) (new : List ViewEntry) : AlarmUnit :=
  { a with
    view := new
    cursor := followCursor a.view new a.cursor
    viewChanged := a.viewChanged || new != a.view }

/-- The station with its view replaced. -/
def Station.setView (s : Station) (new : List ViewEntry) : Station :=
  { s with alarm := s.alarm.setView new }

/-- The entry after the one of an identity. -/
def successor (l : List ViewEntry) (i : Ident) : Option ViewEntry :=
  ((l.dropWhile fun e => !(e.ident = i)).drop 1).head?

/-- The entry before the one of an identity. -/
def predecessor (l : List ViewEntry) (i : Ident) : Option ViewEntry :=
  (l.takeWhile fun e => !(e.ident = i)).getLast?

/-- R184: the entry `k` places from the one of an identity. -/
def placesFrom (l : List ViewEntry) (i : Ident) (k : Int) : Option ViewEntry :=
  let at_ := ((l.takeWhile fun e => !(e.ident = i)).length : Int) + k
  if 0 ≤ at_ then l[at_.toNat]? else none

/-! ### The own list (R169 to R172) and ALARM frames (R173, R175) -/

/-- R173: an ALARM frame that has not yet won its key. -/
def Entry.isUnwonAlarm (e : Entry) : Bool := e.kind = .alarm && e.seq.isNone

/-- R173: an unwon ALARM frame stands in CONTROL. -/
def Station.alarmQueued (s : Station) : Bool := s.sched.control.any Entry.isUnwonAlarm

/-- R173, R205: the payload that carries the own list as it stands. -/
def Station.listPayload (s : Station) : List Byte := alarmPayload s.alarm.ownSeq s.alarm.own

/-- R173: the unwon ALARM frame's contents replaced in place. -/
def Station.updateAlarm (s : Station) : Station :=
  { s with
    sched :=
      { s.sched with
        control := s.sched.control.map fun e =>
          if e.isUnwonAlarm then { e with payload := s.listPayload } else e } }

/-- R173: an ALARM frame placed at the tail of CONTROL, or the placement retry timer started. -/
def Station.placeAlarm (s : Station) : Station :=
  if s.sched.hasRoom .control then
    { s with
      sched := s.sched.append .control (Entry.internal .alarm s.listPayload)
      alarm := { s.alarm with retry := none } }
  else { s with alarm := { s.alarm with retry := some (s.localTime + Config.placementRetry) } }

/-- R173, R174: an ALARM frame placed where the seat state permits and no unwon one is queued. -/
def Station.placeAlarmIfPermitted (s : Station) : Station :=
  if !s.alarmQueued && s.seat.maySendAlarms then s.placeAlarm else s

/-- R173: a change of the own list made known on the lane. -/
def Station.announceList (s : Station) : Station :=
  if s.alarmQueued then s.updateAlarm else s.placeAlarmIfPermitted

/-- R172: the own list changed: its seq rises by one, and the change is made known (R173). -/
def Station.setOwn (s : Station) (own : List AlarmEntry) : Station :=
  ({ s with alarm := { s.alarm with own := own, ownSeq := s.alarm.ownSeq + 1 } }).announceList

/-- The entry of a code stands in the own list. -/
def AlarmUnit.has (a : AlarmUnit) (code : Word16) : Bool := a.own.any fun e => e.code = code

/-! ### Merging (R178, R180, R181) -/

/-- R180: one entry offered for admission to a view. -/
def offerEntry (view : List ViewEntry) (e : ViewEntry) : List ViewEntry :=
  if view.length < Config.viewSize then insertView e view
  else
    match view.getLast? with
    | some last =>
      if e.sev.number < last.sev.number then insertView e view.dropLast else view
    | none => view

/-- R178 step 3: the entries of a source that are not in the view, best first. -/
def missingFrom (view entries : List ViewEntry) : List ViewEntry :=
  sortView (entries.filter fun e => (findIdent view e.ident).isNone)

/-- R180: the entries offered one by one. -/
def Station.offerEach (s : Station) (l : List ViewEntry) : Station :=
  l.foldl (fun t e => t.setView (offerEntry t.alarm.view e)) s

/-- R180: an offer met a full view. -/
def meetsFull (view offers : List ViewEntry) : Bool :=
  decide (Config.viewSize < view.length + offers.length)

/-- R178 step 1: the view entries of the source whose identity has left it are removed. -/
def removeFrom (mine : ViewEntry → Bool) (entries view : List ViewEntry) : List ViewEntry :=
  view.filter fun e => !mine e || (findIdent entries e.ident).isSome

/-- R178 step 2: the view entries still in the source take its fields and their place in the order. -/
def updateFrom (mine : ViewEntry → Bool) (entries view : List ViewEntry) : List ViewEntry :=
  sortView (view.map fun e => if mine e then (findIdent entries e.ident).getD e else e)

/-- R170, R180: ALARM_VIEW_FULL raised when it does not stand, and the own list merged. The view is
full, so what is offered may displace but nothing more is raised. -/
def Station.raiseViewFull (s : Station) : Station :=
  if s.alarm.has alarmViewFull then s
  else
    let s := s.setOwn (s.alarm.own ++
      [{ code := alarmViewFull, sev := .warning, subject := none, raised := s.time.sec }])
    s.offerEach (missingFrom s.alarm.view s.ownEntries)

/-- R178 step 3, R180: offers, and ALARM_VIEW_FULL when one of them met a full view. -/
def Station.offer (s : Station) (entries : List ViewEntry) : Station :=
  let offers := missingFrom s.alarm.view entries
  let t := s.offerEach offers
  if meetsFull s.alarm.view offers then t.raiseViewFull else t

/-- R181: ALARM_VIEW_FULL cleared: its entry leaves the own list and the view, and every own and
synthetic entry not in the view is offered again, best first. -/
def Station.clearViewFull (s : Station) : Station :=
  let s := s.setOwn (s.alarm.own.filter fun e => !(e.code = alarmViewFull))
  let s := s.setView (removeFrom s.isOwn s.ownEntries s.alarm.view)
  s.offer (s.ownEntries ++ s.syntheticEntries)

/-- R181: the clear is due after a removal that leaves 96 entries or fewer. -/
def Station.clearViewFullIfLow (before : List ViewEntry) (s : Station) : Station :=
  if decide (s.alarm.view.length < before.length) && decide (s.alarm.view.length ≤ Config.viewLow)
      && s.alarm.has alarmViewFull then
    s.clearViewFull
  else s

/-- R178: a source merged into the view: removal, update, offer. `mine` tells the view entries of the
source, `entries` the source as it stands. DESIGN CHOICE (log 44): the removal, the clear of ALARM_VIEW_FULL, the
update and each offer are an act each for the cursor (R183), which follows from the order that the act before left. -/
def Station.merge (mine : Station → ViewEntry → Bool) (entries : Station → List ViewEntry)
    (s : Station) : Station :=
  let removed := s.setView (removeFrom (mine s) (entries s) s.alarm.view)
  let t := removed.clearViewFullIfLow s.alarm.view
  let u := t.setView (updateFrom (mine t) (entries t) t.alarm.view)
  u.offer (entries u)

/-- R178: the own list merged. -/
def Station.mergeOwn (s : Station) : Station := s.merge Station.isOwn Station.ownEntries

/-- R178: a peer's alarm set merged. -/
def Station.mergePeer (s : Station) (p : Slot) : Station := s.merge (isPeers p) (Station.peerEntries p)

/-- R172, R178: a change of the own list, made known and merged. -/
def Station.changeOwn (s : Station) (own : List AlarmEntry) : Station := (s.setOwn own).mergeOwn

/-! ### Raises and clears (R170, R171) -/

/-- R170: an internal raise. -/
def Station.raiseInternal (s : Station) (code : Word16) : Station :=
  if s.alarm.has code then s
  else
    s.changeOwn (s.alarm.own ++
      [{ code := code, sev := internalSeverity code, subject := none, raised := s.time.sec }])

/-- R170: an internal clear. -/
def Station.clearInternal (s : Station) (code : Word16) : Station :=
  if s.alarm.has code then s.changeOwn (s.alarm.own.filter fun e => !(e.code = code)) else s

/-- The subject of the TALKER_BARRED entry. -/
def AlarmUnit.talker (a : AlarmUnit) : Option AlarmEntry := a.own.find? fun e => e.code = talkerBarred

/-- R170: TALKER_BARRED kept from the set of barred slots. -/
def Station.keepTalker (s : Station) : Station :=
  match s.lowestBarred, s.alarm.talker with
  | some p, none =>
    s.changeOwn (s.alarm.own ++
      [{ code := talkerBarred, sev := .minor, subject := some p, raised := s.time.sec }])
  | some p, some e =>
    if e.subject = some p then s
    else
      s.changeOwn (s.alarm.own.map fun x =>
        if x.code = talkerBarred then { x with subject := some p } else x)
  | none, some _ => s.clearInternal talkerBarred
  | none, none => s

/-- R169: the identity of an own entry. -/
def AlarmEntry.is (e : AlarmEntry) (code : Word16) (subject : Option Slot) : Bool :=
  e.code = code && e.subject = subject

/-! ### Synthetic markers (R179) -/

/-- R179: a slot's marker moved, and its synthetic entry added or removed. -/
def Station.setMarker (s : Station) (p : Slot) (m : Marker) : Station :=
  ({ s with alarm := { s.alarm with markers := s.alarm.markers.set p m } }).merge
    (Station.isSynthetic p) fun t => (markerEntry t.seat.slot p (t.alarm.markers.get p)).toList

/-- R179: slot absent with missing set. -/
def Station.markMissing (s : Station) (p : Slot) : Station :=
  match s.alarm.markers.get p with
  | .missing _ => s
  | .none | .removed _ => s.setMarker p (.missing s.time.sec)

/-- R179: slot absent with missing clear. -/
def Station.unmarkRemoved (s : Station) (p : Slot) : Station :=
  match s.alarm.markers.get p with
  | .removed _ => s.setMarker p .none
  | .none | .missing _ => s

/-- R179: slot left. -/
def Station.markRemoved (s : Station) (p : Slot) : Station :=
  match s.alarm.markers.get p with
  | .removed _ => s
  | .none | .missing _ => s.setMarker p (.removed s.time.sec)

/-- R179: slot present. -/
def Station.unmarkMissing (s : Station) (p : Slot) : Station :=
  match s.alarm.markers.get p with
  | .missing _ => s.setMarker p .none
  | .none | .removed _ => s

/-- R179: slot joined. -/
def Station.unmark (s : Station) (p : Slot) : Station :=
  match s.alarm.markers.get p with
  | .none => s
  | .missing _ | .removed _ => s.setMarker p .none

/-- R174: a JOIN taken starts the stagger timer where ALARM frames may be sent. -/
def Station.startStagger (s : Station) : Station :=
  if s.seat.maySendAlarms then
    { s with
      alarm :=
        { s.alarm with stagger := some (s.localTime + (s.seat.slot.val + 1) * Config.staggerStep) } }
  else s

/-- R174: the three timers that place ALARM frames stopped. -/
def AlarmUnit.stopTimers (a : AlarmUnit) : AlarmUnit :=
  { a with refresh := none, stagger := none, retry := none }

/-- R172, R174: entering ACTIVE raises the list seq by one, which an unwon ALARM frame takes, and starts
the refresh timer. -/
def Station.startAlarms (s : Station) : Station :=
  ({ s with
      alarm :=
        { s.alarm with
          ownSeq := s.alarm.ownSeq + 1
          refresh := some (s.localTime + Config.refreshFirst) } }).updateAlarm

/-- R186: RESET VIEW at the alarm unit: peer entries leave, the cursor goes to END, ALARM_VIEW_FULL
clears, own and synthetic entries are offered again. -/
def Station.resetView (s : Station) : Station :=
  let s := s.setView (s.alarm.view.filter fun e => e.source = s.seat.slot)
  let s := { s with alarm := { s.alarm with cursor := none, viewChanged := true } }
  let s := if s.alarm.has alarmViewFull then s.clearViewFull else s
  s.offer (s.ownEntries ++ s.syntheticEntries)

end Sys2Proof.Machine
end

