-- ==== Sys2Proof/Machine/Servo.lean ====
section
/-! DEFINITION. The discipline servo: source changes, samples, the step or slew, lock, holdover and
the external signal (09_the_discipline_servo.md). The selector's reviews on the servo's reports stand
in Selector.lean. -/

namespace Sys2Proof.Machine

/-! ### The rate and the state -/

/-- R118, R160: a new A, handed to the time base. -/
def Station.handRate (s : Station) (a : Int) : Station :=
  { s with servo := { s.servo with a := a }, time := { s.time with a := a } }

/-- R152, R199: a servo state; a change sets the TIMING cause. -/
def Station.setServoState (s : Station) (state : ServoState) : Station :=
  if s.servo.state = state then s
  else ({ s with servo := { s.servo with state := state } }).setTimingCause

/-- R163: the unlocked timer started at 10 s. -/
def Station.startUnlocked (s : Station) : Station :=
  { s with servo := { s.servo with unlocked := .running (s.localTime + Config.unlocked) } }

/-- R163: a move out of LOCKED starts the unlocked timer. -/
def Station.startUnlockedIfLocked (s : Station) : Station :=
  if s.servo.state = .locked then s.startUnlocked else s

/-- R162: the holdover timer runs out. -/
def Station.expireHoldover (s : Station) : Station :=
  (({ s with servo := { s.servo with holdTimer := none, expired := true } }).setTimingCause).raiseInternal
    holdoverExpired

/-- R162: entry to HOLDOVER. A limit of 0 runs out at the instant of entry. -/
def Station.enterHoldover (s : Station) : Station :=
  let s := s.startUnlockedIfLocked
  let s := s.handRate s.servo.i
  let s := { s with
    servo :=
      { s.servo with
        holdTimer := some (s.localTime + Config.seconds s.servo.holdLimit)
        expired := false } }
  let s := s.setServoState .holdover
  if s.servo.holdLimit = 0 then s.expireHoldover else s

/-- R152: entry to ACQUIRE by a source change. -/
def Station.acquireSource (s : Station) : Station :=
  let s := s.startUnlockedIfLocked
  ({ s with
      servo := { s.servo with inCount := 0, outCount := 0, holdTimer := none, expired := false } }).setServoState
    .acquire

/-- R152: the servo takes the source that the selector hands it. -/
def Station.takeSource (s : Station) (new : Source) : Station :=
  let s := ({ s with servo := { s.servo with source := new } }).setTimingCause
  if new = .none then
    match s.servo.state with
    | .acquire | .locked => s.enterHoldover
    | .free | .holdover => s
  else s.acquireSource

/-! ### Samples (R155, R157) -/

/-- R155: the path delay from slot `r` to slot `own`. -/
def pathDelay (r own : Slot) (pitch : Nat) : Nat := (max r.val own.val - min r.val own.val) * pitch / 16

/-- R155: a difference modulo the range of T, read as signed. -/
def signedDiff (x y : Nat) : Int :=
  let m := (x + Config.timeRange - y % Config.timeRange) % Config.timeRange
  if m < Config.timeRange / 2 then (m : Int) else (m : Int) - Config.timeRange

/-- R158, R159, R160 step 1: the limit on |e|. -/
def clampOf (state : ServoState) (d : Int) : Int :=
  if state = .locked && decide (1000 < d.natAbs) then 1000 else 1000000

/-- R160 steps 1 to 4: I and A from D. `f` is 16 for a BUS sample and 1 for an EXTERNAL sample. -/
def slew (i d limit f : Int) : Int × Int :=
  let e := clampInt limit d
  let i' := if e = d then clampInt Config.rateLimit (i + (f * e).tdiv 64) else i
  (i', clampInt Config.rateLimit (i' + (f * e).tdiv 4))

/-- R161: entering LOCKED. The selector records the source as the locked source (R138). -/
def Station.enterLocked (s : Station) : Station :=
  let s := { s with
    servo := { s.servo with inCount := 0, outCount := 0, unlocked := .stopped }
    sel := { s.sel with lockedSource := some s.sel.source } }
  ((s.setServoState .locked).clearInternal referenceLost).clearInternal holdoverExpired

/-- R161: the count of one slewed sample, and the lock decision. A sample in FREE first makes the state
ACQUIRE. -/
def Station.countSample (s : Station) (e : Int) : Station :=
  let s := if s.servo.state = .free then s.setServoState .acquire else s
  match s.servo.state with
  | .acquire =>
    if e.natAbs ≤ 100 then
      let s := { s with servo := { s.servo with inCount := s.servo.inCount + 1 } }
      if 4 ≤ s.servo.inCount then s.enterLocked else s
    else { s with servo := { s.servo with inCount := 0 } }
  | .locked =>
    if e.natAbs ≤ 500 then { s with servo := { s.servo with outCount := 0 } }
    else
      let s := { s with servo := { s.servo with outCount := s.servo.outCount + 1 } }
      if 2 ≤ s.servo.outCount then
        (({ s with servo := { s.servo with inCount := 0 } }).startUnlocked).setServoState .acquire
      else s
  | .free | .holdover => s

/-- R164: TIME_OFFSET_HIGH clears at the first slewed sample with |e| ≤ 500. -/
def Station.clearOffsetHigh (s : Station) (e : Int) : Station :=
  if e.natAbs ≤ 500 then s.clearInternal timeOffsetHigh else s

/-- R160: a slewed sample; `deferred` when its step was deferred (R159). -/
def Station.slewSample (s : Station) (f d : Int) (deferred : Bool) : Station :=
  let limit := clampOf s.servo.state d
  let e := clampInt limit d
  let ia := slew s.servo.i d limit f
  let s := { s with
    servo :=
      { s.servo with
        i := ia.1
        lastSample := some ⟨d, some e, if deferred then .deferred else .slewed⟩ } }
  ((s.handRate ia.2).countSample e).clearOffsetHigh e

/-- R159: a deferred step. -/
def Station.deferStep (s : Station) (f d : Int) : Station :=
  let s := s.slewSample f d true
  if 1500 ≤ d.natAbs then s.raiseInternal timeOffsetHigh else s

/-- R158: a step taken. -/
def Station.takeStep (s : Station) (d : Int) : Station :=
  let s := s.stepTime d
  let s := { s with
    servo := { s.servo with inCount := 0, lastSample := some ⟨d, none, .stepped⟩ } }
  (s.handRate s.servo.i).setServoState .acquire

/-- R158: a sample judged in the servo state. `air` is AIR_ACTIVE as the time base reads it at a step
request (R127). -/
def Station.judgeSample (s : Station) (f d : Int) (air : Bool) : Station :=
  let wantsStep := (s.servo.state = .free || s.servo.state = .acquire) && decide (1000 < d.natAbs)
  if wantsStep then
    let s := { s with pins := { s.pins with airActive := air } }
    if air then s.deferStep f d else s.takeStep d
  else s.slewSample f d false

/-- R154, R157: samples are formed in FREE, ACQUIRE and LOCKED. -/
def Servo.samples (v : Servo) : Bool := v.state != .holdover

/-- R154: the difference that a BUS pair measures, when the conditions for a sample hold. -/
def Station.busDifference (s : Station) (p : Slot) (previous : Option Stamp) (stepped : Bool) (seq : Byte)
    (record : Option BeaconRec) : Option Int :=
  match record, previous with
  | some r, some tp =>
    if s.servo.source = .bus p && s.servo.samples && !r.void && seq = r.seq + 1 && !stepped then
      some (signedDiff (tp.total + pathDelay p s.seat.slot s.servo.pitch) r.sp.total)
    else none
  | _, _ => none

/-- R154, R158: a beacon arrival at the servo, with the beacon record as it stood before. -/
def Station.busSample (s : Station) (p : Slot) (previous : Option Stamp) (stepped : Bool) (seq : Byte)
    (record : Option BeaconRec) (air : Bool) : Station :=
  match s.busDifference p previous stepped seq record with
  | some d => s.judgeSample 16 d air
  | none => s

/-! ### External time (R130, R156, R157) -/

/-- R156: the announcement that an edge now pairs with. -/
def Station.validAnnouncement (s : Station) : Option Nat :=
  match s.servo.announcement with
  | some a => if s.localTime < a.arrival + Config.announceValid then some a.second else none
  | none => none

/-- R130: an announcement more than 1.1 s old is discarded. -/
def Station.discardStale (s : Station) : Station :=
  match s.servo.announcement with
  | some a =>
    if a.arrival + Config.announceValid < s.localTime then
      { s with servo := { s.servo with announcement := none } }
    else s
  | none => s

/-- R156: a valid pair: the announcement is used, the loss timer restarts, the signal is present. -/
def Station.pairEdge (s : Station) : Station :=
  { s with
    servo :=
      { s.servo with
        announcement := none
        extLoss := some (s.localTime + Config.extLoss)
        extPresent := true } }

/-- R157: the sample of a valid pair. -/
def Station.externalSample (s : Station) (second : Nat) (air : Bool) : Station :=
  if s.servo.source = .external && s.servo.samples then
    s.judgeSample 1 (signedDiff (second * Config.nsPerSec) s.stamp.total) air
  else s

/-! ### RESET TIMING (R167) -/

/-- R167: RESET TIMING at the servo. -/
def Station.resetServo (s : Station) : Station :=
  let s := s.startUnlockedIfLocked
  let s := { s with
    servo :=
      { s.servo with
        i := 0, inCount := 0, outCount := 0, lastSample := none, holdTimer := none, expired := false } }
  ((s.handRate 0).setServoState .free).clearInternal timeOffsetHigh

end Sys2Proof.Machine
end

