-- ==== Sys2Proof/Machine/Selector.lean ====
section
/-! DEFINITION. The reference selector: candidates, classes, the choice of source, beaconing, and its
reviews (08_reference_choice_and_beacons.md). -/

namespace Sys2Proof.Machine

/-! ### Ranking and candidates (R134, R136) -/

/-- R134: (c1, s1) ranks above (c2, s2). -/
def ranksAbove (c1 s1 c2 s2 : Nat) : Bool := decide (c1 < c2) || (c1 = c2 && decide (s1 < s2))

/-- R136: the class with which slot `p` is a candidate, freshness aside; absent when it is none. -/
def Station.candidateClass (s : Station) (p : Slot) : Option Nat :=
  let r := s.peer p
  if r.state = .present && !r.barred && r.beacon.isSome then
    match r.cls with
    | some c => if c ≤ 13 then some c else none
    | none => none
  else none

/-- A candidate placed in a set kept in rank order. -/
def insertCandidate (c : Candidate) : List Candidate → List Candidate
  | [] => [c]
  | h :: t =>
    if ranksAbove c.cls c.slot.val h.cls h.slot.val then c :: h :: t else h :: insertCandidate c t

/-- A set brought into rank order. -/
def sortCandidates (l : List Candidate) : List Candidate :=
  l.foldl (fun acc c => insertCandidate c acc) []

/-- R136: the set as the roster stands: entries that are no candidates leave it, classes are renewed,
best first. Freshness is CANDIDATE_DEADLINE's. -/
def Station.refreshed (s : Station) (l : List Candidate) : List Candidate :=
  sortCandidates
    (l.filterMap fun c => (s.candidateClass c.slot).map fun k => { c with cls := k })

/-- The set without a slot. -/
def dropCandidate (l : List Candidate) (p : Slot) : List Candidate := l.filter fun c => !(c.slot = p)

/-- R136: the entry of `p` as its record stands; absent when it is no candidate. -/
def Station.candidateOf (s : Station) (p : Slot) : Option Candidate :=
  match s.candidateClass p, (s.peer p).beacon with
  | some k, some b =>
    if s.localTime < b.arrival + Config.fresh then some ⟨p, k, b.arrival + Config.fresh⟩ else none
  | _, _ => none

/-- R136, R137: the set with `p` as its record stands: after a beacon arrival it enters the set, or stays with
a new deadline, where R136 holds with the new record, and leaves it otherwise. -/
def Station.renewCandidate (s : Station) (p : Slot) : Station :=
  let others := dropCandidate s.sel.cands p
  let new := match s.candidateOf p with
    | some c => insertCandidate c others
    | none => others
  { s with sel := { s.sel with cands := new } }

/-- R137: a slot leaves the set. -/
def Station.removeCandidate (s : Station) (p : Slot) : Station :=
  { s with sel := { s.sel with cands := dropCandidate s.sel.cands p } }

/-! ### Classes and source (R138 to R141) -/

/-- R138: the servo's state as the selector takes it with the source just chosen. -/
def takenAs (state : ServoState) (locked : Option Source) (source : Source) : ServoState :=
  match state with
  | .locked =>
    if source = .none then .holdover else if locked = some source then .locked else .acquire
  | .acquire => if source = .none then .holdover else .acquire
  | .free => .free
  | .holdover => .holdover

/-- R139: the holdover class. -/
def holdoverClass (expired : Bool) (record : Option LockRecord) : Nat :=
  match record with
  | some r => if expired then 13 else min 12 (r.cls + 1)
  | none => 13

/-- R140: the announced class. -/
def Station.classFor (s : Station) (source : Source) : Nat :=
  if s.sel.eligible then
    match takenAs s.servo.state s.sel.lockedSource source with
    | .locked =>
      match source with
      | .external => 1
      | .bus r => min 12 ((s.peer r).cls.getD 12 + 1)
      | .none => 13
    | .holdover => holdoverClass s.servo.expired s.sel.lockRecord
    | .free | .acquire => 13
  else 15

/-- R140: the standing class. -/
def standingFor (eligible : Bool) (source : Source) (announced : Nat) : Nat :=
  match source with
  | .bus _ => if eligible then 13 else 15
  | .none | .external => announced

/-- R141: the source chosen at a review, with the standing class held at its start. -/
def Station.chooseSource (s : Station) (cands : List Candidate) : Source :=
  if s.time.external && s.sel.extPresent then .external
  else
    match cands with
    | b :: _ => if ranksAbove b.cls b.slot.val s.sel.standing s.seat.slot.val then .bus b.slot else .none
    | [] => .none

/-! ### Beaconing (R143 to R146) -/

/-- R143: the source clause: a followed candidate ranks above this station. -/
def Source.isBus : Source → Bool
  | .bus _ => true
  | .none | .external => false

/-- R143: the beaconing condition. -/
def Station.beaconCondition (s : Station) : Bool :=
  s.sel.eligible && s.seat.state = .active && !s.sel.source.isBus &&
    !(s.sel.cands.any fun c => ranksAbove c.cls c.slot.val s.sel.announced s.seat.slot.val)

/-- R146: beaconing stops; a beacon not on the lane is withdrawn. DESIGN CHOICE (log 40): a beacon withdrawn so
after a won and flawed attempt leaves current start as it stands; R144 makes both starts absent before
another beacon is built. -/
def Station.stopBeaconing (s : Station) : Station :=
  { s with
    sel := { s.sel with beaconing := .off, claim := none, interval := none }
    sched := s.sched.withdraw .timing .beacon }

/-- R144: the beaconing decision of a review. -/
def Station.decideBeaconing (s : Station) : Station :=
  match s.sel.beaconing, s.beaconCondition with
  | .off, true =>
    { s with
      sel :=
        { s.sel with
          beaconing := .claiming
          claim := some (s.localTime + (s.seat.slot.val + 1) * Config.claimStep) } }
  | .claiming, false => { s with sel := { s.sel with beaconing := .off, claim := none } }
  | .on, false => s.stopBeaconing
  | .off, false | .claiming, true | .on, true => s

/-- R144, R145: a beacon placed in TIMING when TIMING is empty; the interval timer restarts. -/
def Station.placeBeacon (s : Station) : Station :=
  let sched :=
    if s.sched.hasRoom .timing then s.sched.append .timing (Entry.internal .beacon []) else s.sched
  { s with
    sched := sched
    sel := { s.sel with interval := some (s.localTime + Config.beaconInterval) } }

/-- R144: the claim expires with the condition holding. -/
def Station.claimBeaconing (s : Station) : Station :=
  ({ s with
      sel :=
        { s.sel with
          beaconing := .on, claim := none, previous := none, current := none
          steppedPrevious := false, steppedCurrent := false } }).placeBeacon

/-! ### Reviews (R142) -/

/-- R142 steps 2 to 4: source, lock record and classes. -/
def Station.chosen (s : Station) : Selector :=
  let cands := s.refreshed s.sel.cands
  let source := s.chooseSource cands
  let announced := s.classFor source
  { s.sel with
    cands := cands
    source := source
    announced := announced
    standing := standingFor s.sel.eligible source announced
    lockRecord :=
      if takenAs s.servo.state s.sel.lockedSource source = .locked then
        some ⟨source = .external, announced⟩
      else s.sel.lockRecord }

/-- R142: one review. The changed source is handed to the servo, whose report is an event of its own. -/
def Station.review (s : Station) : Station :=
  let t := ({ s with sel := s.chosen }).decideBeaconing
  if s.chosen.source = s.sel.source then t else t.takeSource s.chosen.source

/-- R142: the events that the servo reports between two of its states: a change of state, and the
holdover expired. -/
def servoEvents (old new : Servo) : Nat :=
  (if old.state = new.state then 0 else 1) + (if !old.expired && new.expired then 1 else 0)

/-- R142: reviews for `events` events, and for those that the servo reports on the way. `fuel` bounds
their number (log 16). -/
def reviewLoop : Nat → Nat → Station → Station
  | 0, _, s => s
  | _ + 1, 0, s => s
  | fuel + 1, events + 1, s =>
    let t := s.review
    reviewLoop fuel (events + servoEvents s.servo t.servo) t

/-- R142: the selector reviews on `events` events. -/
def Station.reviews (events : Nat) (s : Station) : Station := reviewLoop 8 events s

/-- R142: the selector reviews on what the servo reports after `f`. -/
def Station.thenReviews (f : Station → Station) (s : Station) : Station :=
  let t := f s
  t.reviews (servoEvents s.servo t.servo)

/-- R153: a review would change the source. -/
def Station.reviewMovesSource (s : Station) : Bool := s.chosen.source != s.sel.source

end Sys2Proof.Machine
end

