-- ==== Sys2Proof/Machine/SeatOps.lean ====
section
/-! DEFINITION. The seat controller's moves, and what the owner of an internal frame does when it ends
(02_seat_states_and_joining.md). -/

namespace Sys2Proof.Machine

/-! ### A change of seat state (R26, R27) -/

/-- R43: "readback clean". -/
def Station.readbackClean (s : Station) : Station :=
  if countsReadback s.seat.state then { s with seat := { s.seat with mismatch := 0 } } else s

/-- R17, R18, R81: the transmit gate closes on an attempt. In CONTENDING or SENDING the attempt is cut and its
frame retired, and with its key won "readback clean" is reported, which the state just entered does not
count (R43; log 37). In AWAIT_MARKS it runs to its result, without its delimiter. -/
def Station.cutAttempt (s : Station) : Station :=
  match s.lane.attempt with
  | some a =>
    let cut := (s.clearAttempt).applyFate a.queue (s.resultFate a .cut)
    match a.phase with
    | .contending => cut
    | .sending => cut.readbackClean
    | .awaitMarks => s
  | none => s

/-- R27, R199: the new state announced. The listen count is 0 at the start of every LISTEN (R30, R38, R41) and is
discarded where LATCH opens (R30) and at CLASHED (the worked sequence of 2.8). DESIGN CHOICE (log 37): it is
discarded as well where LISTEN is left for JOINING or UNSEATED. -/
def Station.announceSeat (s : Station) (new : SeatState) : Station :=
  { s with
    seat :=
      { s.seat with
        state := new
        listenCount := 0
        drain := if new = .leaving then s.seat.drain else none
        reachedActive := s.seat.reachedActive || new = .active }
    port := { s.port with seatCause := true } }

/-- R18: the transmitter stops driving the end delimiter. -/
def Station.stopDelimiter (s : Station) : Station := { s with lane := { s.lane with delimiter := false } }

/-- R15, R18, R26: the gates take the new state: marks stop with the mark gate; where the transmit gate closes, the
end delimiter of an own frame stops, an attempt is cut and the queues are flushed (R81). DESIGN CHOICE (log 39): the
record of the frame cut is written first, then those of EXPRESS, then those of BULK. -/
def Station.closeGates (s : Station) : Station :=
  let s := if markGate s.seat.state then s else { s with lane := { s.lane with marks := Marks.none } }
  if closesGate s.seat.state then (((s.stopDelimiter).cutAttempt).flushCards).emptyInternal else s

/-- R201: the watchdog starts on entry to ACTIVE and stops on leaving it. -/
def Port.watchdogIn (p : Port) (active : Bool) (now : Nat) : Timer :=
  if active && decide (0 < p.timeout) then .running (now + p.timeout * Config.watchdogUnit) else .stopped

/-- R59, R172, R174, R201: the timers that follow the seat state. -/
def Station.seatTimers (s : Station) : Station :=
  let active : Bool := s.seat.state = .active
  let s := { s with
    roster := { s.roster with silence := if active then some (s.localTime + Config.silence) else none }
    port := { s.port with watchdog := s.port.watchdogIn active s.localTime } }
  match s.seat.state with
  | .active => s.startAlarms
  | .leaving => s
  | .config | .waitSeat | .listen | .joining | .gone | .unseated | .clashed =>
    { s with alarm := s.alarm.stopTimers }

/-- R27: a change of seat state, with what each block does on it. -/
def Station.enterSeat (s : Station) (new : SeatState) : Station :=
  (((s.announceSeat new).closeGates).seatTimers).reviews 1

/-- R28, R29, R38, R41: LISTEN with the listen count at 0. -/
def Station.enterListen (s : Station) : Station := s.enterSeat .listen

/-- R175: an unwon ALARM frame discarded for a JOIN or a LEAVE is placed anew under R173. -/
def Station.tellUnsent (s : Station) (discarded : Option Entry) : Station :=
  match discarded with
  | some e => if e.isUnwonAlarm then s.placeAlarmIfPermitted else s
  | none => s

/-- R68: JOIN or LEAVE placed at the head of CONTROL. -/
def Station.placeAtHead (s : Station) (kind : FrameKind) : Station :=
  ({ s with sched := s.sched.placeAtHead (Entry.internal kind []) }).tellUnsent
    (controlDiscarded s.sched.control)

/-- R31: JOINING. -/
def Station.enterJoining (s : Station) : Station :=
  (({ s with seat := { s.seat with generation := s.seat.generation + 1, mismatch := 0 } }).enterSeat
    .joining).placeAtHead .join

/-- R35: LEAVING. The handover flag is fixed before the selector takes the announcement (R146). -/
def Station.enterLeaving (s : Station) (reason : LeaveReason) : Station :=
  ({ s with
      seat :=
        { s.seat with
          handover := decide (s.sel.beaconing = Beaconing.on)
          drain := some s.localTime
          leavePlaced := false
          leaveReason := some reason } }).enterSeat .leaving

/-- R36: the LEAVE placed; the timers that place ALARM frames stop (R174). -/
def Station.placeLeave (s : Station) : Station :=
  ({ s with
      seat := { s.seat with leavePlaced := true }
      alarm := s.alarm.stopTimers }).placeAtHead .leave

/-- R44: CLASHED. -/
def Station.enterClashed (s : Station) : Station := (s.enterSeat .clashed).raiseInternal slotClash

/-- R36: TIMING, CONTROL, EXPRESS and BULK are empty and no attempt is in progress. -/
def Station.drained (s : Station) : Bool :=
  s.sched.timing.isEmpty && s.sched.control.isEmpty && s.sched.express.isEmpty &&
    s.sched.bulk.isEmpty && s.lane.attempt.isNone

/-- R36, R37: the drain timer has reached a mark. -/
def Station.drainReached (s : Station) (mark : Nat) : Bool := due (s.seat.drain.map (· + mark)) s.localTime

/-! ### Reports of the lane interface (R42, R43) -/

/-- R43: "readback mismatch"; the second in a row makes the station CLASHED. -/
def Station.readbackMismatch (s : Station) : Station :=
  if countsReadback s.seat.state then
    let n := min 2 (s.seat.mismatch + 1)
    let s := { s with seat := { s.seat with mismatch := n } }
    if n = 2 then s.enterClashed else s
  else s

/-- R42: "own key heard". -/
def Station.ownKeyHeard (s : Station) : Station :=
  match s.seat.state with
  | .listen | .joining | .active | .leaving => s.enterClashed
  | .config | .waitSeat | .gone | .unseated | .clashed => s

/-! ### The end of an internal frame (R33, R37, R75, R148, R174) -/

/-- R33: the JOIN delivered: ACTIVE, and a raised JOIN_FAILED is cleared. -/
def Station.joinDelivered (s : Station) : Station := (s.enterSeat .active).clearInternal joinFailed

/-- R33: the JOIN removed after four flawed attempts. -/
def Station.joinFlawed (s : Station) : Station := (s.enterListen).raiseInternal joinFailed

/-- R148: the beacon removed: the previous start takes the current start. -/
def Selector.beaconRemoved (c : Selector) : Selector :=
  match c.current with
  | some t => { c with previous := some t, steppedPrevious := c.steppedCurrent, current := none }
  | none => c

/-- R174: the refresh timer restarted where it runs (log 17). -/
def AlarmUnit.restartRefresh (a : AlarmUnit) (deadline : Nat) : AlarmUnit :=
  { a with refresh := a.refresh.map fun _ => deadline }

/-- R75: the owner of a frame that left its queue at a result is told. A frame that its owner has
withdrawn has no effect on the seat state (R34, R38). -/
def Station.tellOwner (s : Station) (e : Entry) (o : FrameOutcome) : Station :=
  match e.kind with
  | .join =>
    if e.withdrawn || s.seat.state != .joining then s
    else if o = .delivered then s.joinDelivered else s.joinFlawed
  | .leave => if e.withdrawn || s.seat.state != .leaving then s else s.enterSeat .gone
  | .beacon => { s with sel := s.sel.beaconRemoved }
  | .alarm =>
    if o = .unheard then
      { s with alarm := s.alarm.restartRefresh (s.localTime + Config.refreshSoon) }
    else s
  | .rollcall | .data => s

/-- R72, R75: an attempt's result handed to the scheduler. -/
def Station.handResult (s : Station) (a : Attempt) (r : AttemptEnd) : Station :=
  let f := s.resultFate a r
  let t := (s.clearAttempt).applyFate a.queue f
  match f with
  | some (.leaves e o) => t.tellOwner e o
  | some (.stays _) | none => t

end Sys2Proof.Machine
end

