-- ==== Sys2Proof/Machine/RosterOps.lean ====
section
/-! DEFINITION. The roster and the receive filter: hearing a slot, its notifications, flaws and bars,
and the disposition of a frame (03_the_roster.md, 06_receive_path.md). -/

namespace Sys2Proof.Machine

/-! ### Notifications (R53) -/

/-- R53: "alarm set changed" and a notification that moves a marker, of one event of the roster, reach the
alarm unit in an order that is left open (the worked sequence after R185; log 9): where the view is full, and
where an entry that leaves is the cursor's, the order shows. -/
def bothNotices (first second : Station → Station) (s : Station) : Station := eitherOrder first second s

/-- R137, R179: "slot present". DESIGN CHOICE (log 26): the alarm unit acts before the selector's review; R53 leaves
the order open. -/
def Station.notifyPresent (s : Station) (p : Slot) : Station := (s.unmarkMissing p).reviews 1

/-- R137: the slot leaves the candidate set, and the selector reviews. -/
def Station.dropAndReview (s : Station) (p : Slot) : Station := (s.removeCandidate p).reviews 1

/-- R137, R178: "slot silent". DESIGN CHOICE (log 26): the alarm unit acts before the selector's review. -/
def Station.notifySilent (s : Station) (p : Slot) : Station := (s.mergePeer p).dropAndReview p

/-- R79, R137, R178, R179: "slot absent", with "alarm set changed" for the emptied set. DESIGN CHOICE (log 26): the
selector's review comes before the alarm unit acts. -/
def Station.notifyAbsent (s : Station) (p : Slot) (missing : Bool) : Station :=
  bothNotices (fun t => t.mergePeer p) (fun t => if missing then t.markMissing p else t.unmarkRemoved p)
    ((s.flushSlot p).dropAndReview p)

/-- R149: the last handover. -/
def Station.recordHandover (s : Station) (p : Slot) (handover : Bool) : Station :=
  if handover then { s with sel := { s.sel with lastHandover := some ⟨p, s.localTime⟩ } } else s

/-- R79, R137, R149, R178, R179: "slot left", with "alarm set changed" for the emptied set. DESIGN CHOICE (log 26):
the selector's review comes before the alarm unit acts. -/
def Station.notifyLeft (s : Station) (p : Slot) (handover : Bool) : Station :=
  bothNotices (fun t => t.mergePeer p) (fun t => t.markRemoved p)
    (((s.flushSlot p).recordHandover p handover).dropAndReview p)

/-- R137, R174, R178, R179: "slot joined", with "alarm set changed" when the set's stale flag changed. DESIGN CHOICE
(log 26): the selector's review comes before the alarm unit acts. -/
def Station.notifyJoined (s : Station) (p : Slot) (setChanged : Bool) : Station :=
  bothNotices (fun t => (t.unmark p).startStagger) (fun t => if setChanged then t.mergePeer p else t)
    (s.dropAndReview p)

/-! ### Records -/

/-- R49: the record emptied on entering ABSENT. -/
def Peer.emptied (r : Peer) (now : Nat) : Peer :=
  { Peer.reset with since := now, flaws := r.flaws, barredUntil := r.barredUntil }

/-- R51: the record on a LEAVE. -/
def Peer.leaves (r : Peer) (now : Nat) : Peer :=
  { r with
    state := .left, since := now, lastHeard := none, lastSeq := none, beacon := none,
    alarms := AlarmSet.empty }

/-- R48: the record on falling silent. -/
def Peer.silenced (r : Peer) (now : Nat) : Peer :=
  { r with state := .silent, since := now, alarms := { r.alarms with stale := true } }

/-- R50: the record on a JOIN. -/
def Peer.joins (r : Peer) (now : Nat) (generation cardType : Byte) (cls : Nat) (cardOk : Bool)
    (cause : ResetCause) (first : Bool) : Peer :=
  { r with
    state := .present, since := now, generation := some generation, cardType := some cardType,
    cls := some cls, cardOk := some cardOk, lastJoin := some ⟨cause, first⟩, lastSeq := none,
    beacon := none, alarms := { r.alarms with stale := true } }

/-- R55: the record on a ROLLCALL. -/
def Peer.rollcall (r : Peer) (cardType : Byte) (cls : Nat) (cardOk : Bool) (generation listSeq : Byte) :
    Peer :=
  let moved : Bool := match r.generation with
    | some g => !(g = generation)
    | none => false
  { r with
    cardType := some cardType, cls := some cls, cardOk := some cardOk, generation := some generation,
    lastSeq := if moved then none else r.lastSeq
    beacon := if moved then none else r.beacon
    alarms := { r.alarms with stale := !(r.alarms.listSeq = some listSeq) } }

/-! ### Hearing (R47) -/

/-- R47: last heard renewed, and the state settled. -/
def Station.settle (s : Station) (p : Slot) : Station :=
  let r := { s.peer p with lastHeard := some s.localTime }
  match r.state with
  | .absent | .silent => (s.setPeer p { r with state := .present, since := s.localTime }).notifyPresent p
  | .present | .left | .self => s.setPeer p r

/-- R50: a JOIN taken. -/
def Station.takeJoin (s : Station) (p : Slot) (generation cardType : Byte) (cls : Nat) (cardOk : Bool)
    (cause : ResetCause) (first : Bool) : Station :=
  let r := s.peer p
  (s.setPeer p (r.joins s.localTime generation cardType cls cardOk cause first)).notifyJoined p
    (!r.alarms.stale)

/-- R51: a LEAVE taken. -/
def Station.takeLeave (s : Station) (p : Slot) (handover : Bool) : Station :=
  (s.setPeer p ((s.peer p).leaves s.localTime)).notifyLeft p handover

/-- R136: the candidate set after a ROLLCALL from `p`, which can take its class or its beacon record: the set
follows at once, and, where it has changed, the selector reviews (DESIGN CHOICE, log 22: R142 does not name
the event). -/
def Station.candidateFollows (s : Station) (p : Slot) : Station :=
  let t := s.renewCandidate p
  if t.sel.cands = s.sel.cands then s else t.reviews 1

/-- R55: a ROLLCALL taken; "alarm set changed" when the stale flag changes. DESIGN CHOICE (log 26): the alarm unit
takes that notice before the candidate set follows the record (log 22). -/
def Station.takeRollcall (s : Station) (p : Slot) (cardType : Byte) (cls : Nat) (cardOk : Bool)
    (generation listSeq : Byte) : Station :=
  let r := s.peer p
  let r' := r.rollcall cardType cls cardOk generation listSeq
  let t := s.setPeer p r'
  (if r'.alarms.stale = r.alarms.stale then t else t.mergePeer p).candidateFollows p

/-- R56: an ALARM frame taken. -/
def Station.takeAlarms (s : Station) (p : Slot) (listSeq : Byte) (entries : List AlarmEntry) : Station :=
  (s.setPeer p { s.peer p with alarms := ⟨some listSeq, entries, false⟩ }).mergePeer p

/-- R57, R137, R153, R154: a BEACON taken. The selector reviews, and the servo judges the pair on the
record as it stood before. Where the review changes the source, the order of the two is left open
(R153, log 9). DESIGN CHOICE (log 26): where it keeps the source, the review comes first, as R53 and R142 allow.
Where a locked source changes its class and the sample locks the servo out (R161), the lock record thus takes the
new class (R139); the other order would leave it the class before. -/
def Station.takeBeacon (s : Station) (p : Slot) (seq : Byte) (cls : Nat) (previous : Option Stamp)
    (stepped : Bool) (stamp : RxStamp) (air : Bool) : Station :=
  let old := (s.peer p).beacon
  let s := s.setPeer p
    { s.peer p with
      beacon := some ⟨seq, stamp.stamp, stamp.void, cls, s.localTime⟩
      cls := some cls }
  let selector := fun t : Station => (t.renewCandidate p).reviews 1
  let servo := fun t : Station => t.thenReviews fun u => u.busSample p previous stepped seq old air
  if (s.renewCandidate p).reviewMovesSource then eitherOrder selector servo s else servo (selector s)

/-- R47: the effect of a heard frame by its kind. A DATA frame has none. -/
def Station.takeKind (s : Station) (p : Slot) (seq : Byte) (c : Content) (stamp : RxStamp) (air : Bool) :
    Station :=
  match c with
  | .beacon cls previous stepped => s.takeBeacon p seq cls previous stepped stamp air
  | .rollcall cardType cls cardOk generation listSeq =>
    s.takeRollcall p cardType cls cardOk generation listSeq
  | .join generation cardType cls cardOk cause first =>
    s.takeJoin p generation cardType cls cardOk cause first
  | .leave _ handover _ => s.takeLeave p handover
  | .alarm listSeq entries => s.takeAlarms p listSeq entries
  | .data _ => s

/-- The content is a JOIN. -/
def Content.isJoin : Content → Bool
  | .join .. => true
  | _ => false

/-- R47, R111: a good frame is heard by the roster: its source is not barred, and is not LEFT unless the
kind is JOIN. -/
def Peer.hears (r : Peer) (c : Content) : Bool := !r.barred && (r.state != .left || c.isJoin)

/-! ### Flaws and bars (R61 to R63) -/

/-- R61: the flaw times of the sliding last second. -/
def recentFlaws (l : List Nat) (now : Nat) : List Nat := l.filter fun t => decide (now ≤ t + Config.flawSpan)

/-- R62: the bar of `p` begins. DESIGN CHOICE (log 26): the selector's review comes before TALKER_BARRED is kept
(R170), so that a HOLDOVER_EXPIRED which the review brings stands before it in the own list. -/
def Station.beginBar (s : Station) (p : Slot) : Station :=
  (((s.setPeer p
      { s.peer p with
        barredUntil := some (s.localTime + Config.bar), flaws := [], beacon := none }).dropAndReview
    p)).keepTalker

/-- R61: a flaw counted; a flaw from a barred source is not. -/
def Station.countFlaw (s : Station) (p : Slot) : Station :=
  let r := s.peer p
  if r.barred then s
  else
    let flaws := recentFlaws r.flaws s.localTime ++ [s.localTime]
    if 8 ≤ flaws.length then s.beginBar p else s.setPeer p { r with flaws := flaws }

/-- R47, R61: the roster acts on a frame handed over. -/
def Station.rosterTakes (s : Station) (p : Slot) (seq : Byte) (c : Option Content) (stamp : RxStamp)
    (air : Bool) : Station :=
  match c with
  | some c => if (s.peer p).hears c then (s.settle p).takeKind p seq c stamp air else s
  | none => s.countFlaw p

/-! ### The receive filter (R104 to R112) -/

/-- R107: tests 1 to 6 on a DATA frame for this station. -/
def Station.acceptance (s : Station) (key seq : Byte) : Disposition :=
  let r := s.peer (keySlot key)
  if r.barred then .barred
  else if r.state = .left then .fromLeft
  else if !(s.seat.state = .active || s.seat.state = .leaving) then .notTaking
  else
    match keyClass key with
    | .timing | .control => .misclassed
    | .express =>
      if r.lastSeq = some seq then .duplicate
      else if s.rx.express.length < rxCapacity .express then .accepted else .overflow
    | .bulk =>
      if r.lastSeq = some seq then .duplicate
      else if s.rx.bulk.length < rxCapacity .bulk then .accepted else .overflow

/-- R105, R106: the disposition of a frame handed over. -/
def Station.disposition (s : Station) (key : Byte) (f : RxFrame) (c : Option Content) : Disposition :=
  match c with
  | none => .flawed
  | some (.data _) =>
    if destOf f.dest = some .all || destOf f.dest = some (.slot s.seat.slot) then s.acceptance key f.seq
    else .elsewhere
  | some _ => .nonData

/-- R106: the frame is a broadcast. -/
def isBroadcast (f : RxFrame) : Bool := destOf f.dest = some .all

/-- R111: the marks decided. -/
def Station.marksFor (s : Station) (key : Byte) (f : RxFrame) (c : Option Content) : Marks :=
  let r := s.peer (keySlot key)
  match s.disposition key f c with
  | .flawed => { Marks.none with flaw := !r.barred }
  | .nonData =>
    match c with
    | some c => { Marks.none with taken := r.hears c }
    | none => Marks.none
  | .duplicate | .accepted => { Marks.none with taken := true }
  | .overflow => { Marks.none with refused := !(isBroadcast f) }
  | .elsewhere | .barred | .fromLeft | .notTaking | .misclassed => Marks.none

/-- The receive queue that a key's class names (R109). -/
def rxQueueOf (key : Byte) : CardQueue :=
  match keyClass key with
  | .bulk => .bulk
  | .timing | .control | .express => .express

/-- R109: the arrival record. -/
def arrivalOf (key : Byte) (f : RxFrame) (stamp : RxStamp) : Arrival :=
  { source := keySlot key, broadcast := isBroadcast f, queue := rxQueueOf key, tier := f.kind.toNat % 4,
    seq := f.seq, length := f.payload.length, stamp := stamp.stamp, stepped := stamp.void }

/-- R109: an accepted frame placed, and its seq handed to the roster. -/
def Station.accept (s : Station) (key : Byte) (f : RxFrame) (stamp : RxStamp) : Station :=
  let q := rxQueueOf key
  let entry : RxEntry := { arrival := arrivalOf key f stamp, payload := f.payload }
  let s := { s with rx := s.rx.setQueue q (s.rx.queue q ++ [entry]) }
  s.setPeer (keySlot key) { s.peer (keySlot key) with lastSeq := some f.seq }

/-- R110: a broadcast lost on a full queue raises QUEUE_OVERRUN once. -/
def Station.overrun (s : Station) : Station :=
  if s.rx.overrun then s
  else ({ s with rx := { s.rx with overrun := true } }).raiseInternal queueOverrun

/-- R112: the overrun flag clears when both queues are at most half full. -/
def Station.clearOverrun (s : Station) : Station :=
  if s.rx.overrun && decide (s.rx.express.length ≤ 8) && decide (s.rx.bulk.length ≤ 16) then
    ({ s with rx := { s.rx with overrun := false } }).clearInternal queueOverrun
  else s

/-- R104: what the filter does with a frame, on the roster's record as it stood before the frame. -/
def Station.filterTakes (s : Station) (key : Byte) (f : RxFrame) (c : Option Content) (stamp : RxStamp) :
    Station :=
  match s.disposition key f c with
  | .accepted => s.accept key f stamp
  | .overflow => if isBroadcast f then s.overrun else s
  | .flawed | .nonData | .elsewhere | .barred | .fromLeft | .notTaking | .misclassed | .duplicate => s

/-- R2, R15: the end field of a frame heard, with the marks that this station drives in it. -/
def Lane.heardEnd (l : Lane) (marks : Marks) : Lane :=
  { l with line := .endField, marks := marks, endLeft := Config.endField }

/-- R12, R15, R104: a frame handed over: the marks decided and, with the mark gate open, to be driven in
the end field; the filter's placement; then the roster. DESIGN CHOICE (log 26): a broadcast lost on a full queue
raises QUEUE_OVERRUN (R110) before its source's "slot present" takes CARD_MISSING away (R47, R179); in a full view
the order shows. -/
def Station.handOver (s : Station) (key : Byte) (f : RxFrame) (stamp : RxStamp) (air : Bool) : Station :=
  let c := goodContent key f
  let marks := if markGate s.seat.state then s.marksFor key f c else Marks.none
  let s := { s with lane := s.lane.heardEnd marks }
  (s.filterTakes key f c stamp).rosterTakes (keySlot key) f.seq c stamp air

end Sys2Proof.Machine
end

