-- ==== Sys2Proof/Machine/ResetCommands.lean ====
section
/-! DEFINITION. How a command reaches the blocks, and the commands of the reset causes: POWER_RESET,
PIN_RESET, RESTART_RESET, RESET_HOLD_END, PWR_GOOD_FALLS (R24, R25). -/

namespace Sys2Proof.Machine

/-! ### Events -/

/-- An event at the blocks: nothing happens while the part is held in reset (R25) or when the event is
not due (log 3); otherwise its effect, and the output pins judged afresh. -/
def event (isDue : Station → Bool) (f : Station → Station) (s : Station) : Station :=
  if !s.hold && isDue s then (f s).drive else s

/-- An event that may change the best eligible head: the offer is renewed as well (R70). -/
def offerEvent (isDue : Station → Bool) (f : Station → Station) (s : Station) : Station :=
  event isDue (fun t => (f t).renewOffer) s

/-! ### The reset hold -/

/-- R18, R25: the transmitter and the marks stop at once, the attempt is discarded with no result. -/
def Lane.silenced (l : Lane) : Lane :=
  { l with attempt := none, marks := Marks.none, delimiter := false }

/-- R188: a transaction in progress is abandoned. -/
def Port.abandoned (p : Port) : Port := { p with request := none, reply := none, restartPending := false }

/-- R25: the station held in reset, driving no output. -/
def Station.held (s : Station) : Station := ({ s with hold := true, lane := s.lane.silenced }).drive

/-- R25: the end of a hold: every block at its reset value, the slot and the cause kept. -/
def Station.released (s : Station) : Station :=
  Station.afterReset s.pins s.seat.slot s.seat.cause s.freeIdx

/-- R24, R25: the rise of PWR_GOOD. DESIGN CHOICE (log 13): sent while PWR_GOOD is high already, it acts as the rise:
it latches the straps, records POWER and begins a hold. -/
def Station.powerReset (straps : Slot) (s : Station) : Station :=
  ({ s with
      pins := { s.pins with pwrGood := true }
      seat := { s.seat with slot := straps, cause := .power }
      port := s.port.abandoned }).held

/-- R25: RESET_N asserted. DESIGN CHOICE (log 13): sent while RESET_N is asserted already, it acts as the change: it
records PIN and begins a hold. -/
def Station.pinReset (s : Station) : Station :=
  ({ s with
      pins := { s.pins with resetAsserted := true }
      seat := { s.seat with cause := .pin }
      port := s.port.abandoned }).held

/-- R25, R198: the end of the transaction that carried RESTART. During the hold of an earlier reset it
replaces the recorded cause alone. -/
def Station.restartReset (s : Station) : Station :=
  if s.port.restartPending then
    let s := { s with seat := { s.seat with cause := .restart }, port := s.port.abandoned }
    if s.hold then s else s.released
  else s

/-- R25: RESET_N is deasserted; the hold ends when PWR_GOOD is high (log 14). -/
def Station.holdEnds (s : Station) : Station :=
  let s := { s with pins := { s.pins with resetAsserted := false } }
  if s.hold && s.pins.pwrGood then s.released else s

/-- R25: PWR_GOOD goes low; sent while it is low already, it does the same (DESIGN CHOICE, log 13). -/
def Station.powerFalls (s : Station) : Station :=
  ({ s with pins := { s.pins with pwrGood := false } }).held

/-! ### The commands -/

/-- POWER_RESET (R25). -/
def execPowerReset (straps : Slot) (s : State) : Host.Outcome State Fault Refusal :=
  s.run (Station.powerReset straps)

/-- PIN_RESET (R25). -/
def execPinReset (s : State) : Host.Outcome State Fault Refusal := s.run Station.pinReset

/-- RESTART_RESET (R25). -/
def execRestartReset (s : State) : Host.Outcome State Fault Refusal := s.run Station.restartReset

/-- RESET_HOLD_END (R25). -/
def execResetHoldEnd (s : State) : Host.Outcome State Fault Refusal := s.run Station.holdEnds

/-- PWR_GOOD_FALLS (R25). -/
def execPwrGoodFalls (s : State) : Host.Outcome State Fault Refusal := s.run Station.powerFalls

end Sys2Proof.Machine
end

