-- ==== Sys2Proof/Machine/LaneCommands.lean ====
section
/-! DEFINITION. The commands of the lane: LANE_OPENING, START_MARK, KEY_COMPLETE, READBACK_MISMATCH,
FRAME_HANDOVER, FRAME_ABANDONED, ATTEMPT_RESULT, STUCK_BEGINS, STUCK_ENDS, STUCK_CLEAR_EXPIRY
(01_the_cabinet_lane.md). -/

namespace Sys2Proof.Machine

/-! ### Openings and start marks -/

/-- R2, R3: the line states from which two idle byte times make an opening. STUCK has STUCK_ENDS. -/
def Lane.opens (l : Lane) : Bool :=
  match l.line with
  | .listening | .gap | .unframed => true
  | .opened | .key | .body | .endField | .stuck => false

/-- R2, R3: the lane is OPEN. -/
def Lane.opening (l : Lane) : Lane := { l with line := .opened, rxKey := none }

/-- R3: an opening. -/
def Station.laneOpening (s : Station) : Station := { s with lane := s.lane.opening }

/-- R5: the offer with which the station contends: its head is eligible, so that the gate permits it. -/
def Station.contender (s : Station) : Option (FrameClass × Entry) :=
  match s.sched.offer with
  | some q =>
    match s.sched.queue q with
    | e :: _ => if s.headEligible q then some (q, e) else none
    | [] => none
  | none => none

/-- R5, R8: the offered frame as the attempt in progress. -/
def Attempt.begun (q : FrameClass) (e : Entry) (slot : Slot) : Attempt :=
  { queue := q, key := keyByte q e.patience slot, group := e.kind.group, seq := e.seq, start := none,
    phase := .contending, readbackFault := false, sent := [], bodyLeft := 0, windowEnded := false }

/-- R2, R12: KEY, and the stamp of the start mark. -/
def Lane.startMark (l : Lane) (now : Stamp) : Lane :=
  { l with line := .key, rxStamp := some ⟨now, false⟩, rxKey := none }

/-- R3, R5: a start mark on the open lane. -/
def Station.startMark (s : Station) : Station :=
  let t := { s with lane := s.lane.startMark s.stamp }
  match s.contender with
  | some (q, e) =>
    ({ t with
        lane := { t.lane with attempt := some (Attempt.begun q e s.seat.slot) } }).setHead q
      { e with onLane := true }
  | none => t

/-! ### The key -/

/-- R9: the counter of a group. -/
def Lane.counter (l : Lane) (g : KindGroup) : Byte :=
  match g with
  | .beacon => l.seqBeacon
  | .data => l.seqData
  | .membership => l.seqMembership

/-- R9: the counter of a group advanced by one. -/
def Lane.advanceCounter (l : Lane) (g : KindGroup) : Lane :=
  match g with
  | .beacon => { l with seqBeacon := l.seqBeacon + 1 }
  | .data => { l with seqData := l.seqData + 1 }
  | .membership => { l with seqMembership := l.seqMembership + 1 }

/-- R8: the frame as it goes on the lane. -/
def Station.sentBytes (s : Station) (key : Byte) (e : Entry) (seq : Byte) : List Byte :=
  frameBytes key (kindByte e.kind (s.flagsOf e)) (BitVec.ofNat 8 e.dest.number) seq (s.payloadOf e)

/-- R11: local periods from the end of the key to the end field: kind, dest, seq, length, payload and
check, two local periods a byte time. -/
def bodyPeriods (payload : Nat) : Nat := 2 * (7 + payload)

/-- R8: the attempt as won. -/
def Attempt.won (a : Attempt) (seq : Byte) (start : Stamp) (sent : List Byte) (payload : Nat) : Attempt :=
  { a with
    seq := some seq, start := some start, phase := .sending, sent := sent, bodyLeft := bodyPeriods payload }

/-- R8, R71: the entry as won: its seq written back, its patience back at 3. -/
def Entry.won (e : Entry) (seq : Byte) : Entry := { e with seq := some seq, patience := 3 }

/-- R59: the silence timer restarts on a win, where it runs. -/
def Station.restartSilence (s : Station) : Station :=
  { s with
    roster := { s.roster with silence := s.roster.silence.map fun _ => s.localTime + Config.silence } }

/-- R148, R174, R175: what the owner does at a won attempt. The start of a beacon whose stamp a step has
made void lies on the scale that was left (log 19). -/
def Station.tellWon (s : Station) (e : Entry) (start : RxStamp) : Station :=
  match e.kind with
  | .beacon => { s with sel := { s.sel with current := some start.stamp, steppedCurrent := start.void } }
  | .alarm =>
    if e.seq.isNone then { s with alarm := s.alarm.restartRefresh (s.localTime + Config.refresh) } else s
  | .rollcall | .join | .leave | .data => s

/-- R8: the start stamp of the key in progress. -/
def Station.startStamp (s : Station) : RxStamp := s.lane.rxStamp.getD ⟨s.stamp, false⟩

/-- R8, R71, R95: a key won. -/
def Station.winKey (s : Station) (a : Attempt) (e : Entry) : Station :=
  let start := s.startStamp
  let seq := e.seq.getD (s.lane.counter a.group)
  let length := (s.payloadOf e).length
  let lane := if e.seq.isNone then s.lane.advanceCounter a.group else s.lane
  let t := { s with
    lane := { lane with attempt := some (a.won seq start.stamp (s.sentBytes a.key e seq) length) }
    share := if a.windowEnded then s.share else s.share.charge a.queue length }
  (((t.setHead a.queue (e.won seq)).restartSilence).tellWon e start)

/-- R2: the key byte is complete. A station that lost its place in the key stays UNFRAMED. -/
def Lane.keyRead (l : Lane) (lane : Byte) : Lane :=
  if l.line = .key then { l with line := .body, rxKey := some lane } else l

/-- R5, R6: an own attempt is in contention. -/
def Lane.contends (l : Lane) : Bool :=
  match l.attempt with
  | some a => a.phase = .contending
  | none => false

/-- R2, R6: a key byte comes to its end: the line is in it, or an own attempt contends in it. Contention is
settled to its end also where a code violation has taken the line out of KEY (log 28). -/
def Lane.keyEnds (l : Lane) : Bool := l.line = .key || l.contends

/-- R14: a key with this station's slot that it is not itself sending. A frame whose key this station has
lost its place in is abandoned (R13), and no key of it is heard (log 28). -/
def Station.judgeKey (s : Station) (lane : Byte) : Station :=
  if s.lane.line = .body && keySlot lane = s.seat.slot then s.ownKeyHeard else s

/-- R6: the end of the key for a contender. DESIGN CHOICE (log 36): a contender that reads FLAW reports no
own key heard, whatever slot the key read carries, since R14 names the lost contention alone; the frame of
a key with its own slot is still not handed over. -/
def Station.contenderKey (s : Station) (a : Attempt) (lane : Byte) : Station :=
  match contend a.key lane with
  | none =>
    match s.sched.onLaneHead a.queue with
    | some e => s.winKey a e
    | none => s
  | some .lost => (s.handResult a .lost).judgeKey lane
  | some _ => (s.handResult a .flaw).readbackMismatch

/-- R6, R14: the key byte as read from the lane is complete. -/
def Station.keyComplete (lane : Byte) (s : Station) : Station :=
  let t := { s with lane := s.lane.keyRead lane }
  match s.lane.attempt with
  | some a => if a.phase = .contending then t.contenderKey a lane else t
  | none => t.judgeKey lane

/-! ### Readback -/

/-- R17: an own frame is being sent and carries no fault yet. -/
def Lane.sendingClean (l : Lane) : Bool :=
  match l.attempt with
  | some a => a.phase = .sending && !a.readbackFault
  | none => false

/-- R17 step 1: the bytes sent up to the one in which the mismatch was read. A byte takes two local periods,
so that of `bodyLeft` periods the last two for each byte not yet begun fall away. -/
def Attempt.sentSoFar (a : Attempt) : List Byte := a.sent.take (a.sent.length - (a.bodyLeft - 1) / 2)

/-- R17: the contents stop at the end of the byte in which the mismatch was read, and the abort symbol
follows in one byte time. -/
def Attempt.aborts (a : Attempt) : Attempt :=
  { a with
    readbackFault := true, sent := a.sentSoFar
    bodyLeft := (if a.bodyLeft % 2 = 1 then 1 else 2) + 2 }

/-- R17, R203: the cells that an attempt drives from its start mark to its end field; an attempt with a
readback fault drives the abort symbol behind its last byte. -/
def Attempt.cells (a : Attempt) (delimiter : Bool) (m : Marks) : List Bool :=
  frameCells a.sent a.readbackFault delimiter m

/-- R15, R18, R203: the cells that this station drives in an end field, of its own frame or of one heard. -/
def Lane.endCells (l : Lane) : List Bool := endFieldCells l.delimiter l.marks

/-- R17: a readback mismatch. -/
def Station.readbackFails (s : Station) : Station :=
  ({ s with lane := { s.lane with attempt := s.lane.attempt.map Attempt.aborts } }).readbackMismatch

/-! ### Receiving -/

/-- R12: a frame is being received. -/
def Lane.receiving (l : Lane) : Bool := l.line = .body && l.attempt.isNone

/-- R12, R14: the frame is handed over, unless its key is this station's own. -/
def Station.frameHandover (f : RxFrame) (air : Bool) (s : Station) : Station :=
  match s.lane.rxKey with
  | some key =>
    if keySlot key = s.seat.slot then { s with lane := s.lane.heardEnd Marks.none }
    else s.handOver key f s.startStamp air
  | none => { s with lane := s.lane.heardEnd Marks.none }

/-- R2, R13: the causes that lose the place in each line state. END_FIELD is left by its own end (R2). -/
def losesPlace (line : LineState) (cause : LossCause) : Bool :=
  match line with
  | .opened => cause = .strayDominant
  | .key => cause = .codeViolation || cause = .idleInFrame
  | .body => cause = .codeViolation || cause = .idleInFrame || cause = .lengthAbove256
  | .gap => cause = .dominantInGap
  | .listening | .endField | .unframed | .stuck => false

/-- R2, R13: UNFRAMED, with no marks for the frame abandoned. The line moves the same while this station
transmits (R2); its own attempt runs on, with the mark that a transmitter drives (R15, R17). -/
def Lane.abandoned (l : Lane) : Lane :=
  { l with
    line := .unframed, rxKey := none
    marks := if l.attempt.isSome then l.marks else Marks.none }

/-- R13: the place is lost. -/
def Station.abandonFrame (s : Station) : Station := { s with lane := s.lane.abandoned }

/-! ### Results -/

/-- R16: the marks read, in their order of precedence. -/
def resultOf (fault broadcast flaw taken refused : Bool) : AttemptEnd :=
  if fault || flaw then .flaw
  else if broadcast then .delivered
  else if taken then .delivered
  else if refused then .refused
  else .unheard

/-- R16: an attempt that has won its key is in progress. -/
def Lane.awaitsResult (l : Lane) : Bool :=
  match l.attempt with
  | some a => a.phase != .contending
  | none => false

/-- R2: the end field is over. -/
def Lane.endFieldOver (l : Lane) : Lane :=
  { l with
    line := if l.line = .body || l.line = .endField then .gap else l.line
    marks := Marks.none, delimiter := false, endLeft := 0 }

/-- R16: the frame of the attempt is a broadcast. -/
def Station.sendsBroadcast (s : Station) (a : Attempt) : Bool :=
  match s.sched.onLaneHead a.queue with
  | some e => e.dest = .all
  | none => true

/-- R16, R17: the end of the end field of an own frame. DESIGN CHOICE (log 26): a clean readback is reported before
the result is handed over. -/
def Station.attemptResult (flaw taken refused : Bool) (s : Station) : Station :=
  match s.lane.attempt with
  | some a =>
    let t := { s with lane := s.lane.endFieldOver }
    let r := resultOf a.readbackFault (s.sendsBroadcast a) flaw taken refused
    (if a.readbackFault then t else t.readbackClean).handResult a r
  | none => s

/-! ### The stuck lane -/

/-- R19: the dominant-run timer has reached 20 µs. -/
def Lane.becomesStuck (l : Lane) : Bool := l.line != .stuck && decide (Config.stuckRun ≤ l.domRun)

/-- R19, R20: a stuck period begins. -/
def Station.stuckBegins (s : Station) : Station :=
  ({ s with
      lane :=
        { s.lane with
          line := .stuck, marks := Marks.none, delimiter := false, endLeft := 0
          stuckClear := none } }).raiseInternal
    laneStuck

/-- R19, R20: a stuck period ends with an opening. -/
def Station.stuckEnds (s : Station) : Station :=
  { s with lane := { s.lane.opening with stuckClear := some (s.localTime + Config.stuckClear) } }

/-- R20: LANE_STUCK clears. -/
def Station.stuckClears (s : Station) : Station :=
  ({ s with lane := { s.lane with stuckClear := none } }).clearInternal laneStuck

/-! ### The commands -/

/-- LANE_OPENING (R3). -/
def execLaneOpening (s : State) : Host.Outcome State Fault Refusal :=
  s.run (offerEvent (fun t => t.lane.opens) Station.laneOpening)

/-- START_MARK (R5). -/
def execStartMark (s : State) : Host.Outcome State Fault Refusal :=
  s.run (offerEvent (fun t => t.lane.line = .opened) Station.startMark)

/-- KEY_COMPLETE (R6). -/
def execKeyComplete (lane : Byte) (s : State) : Host.Outcome State Fault Refusal :=
  s.run (offerEvent (fun t => t.lane.keyEnds) (Station.keyComplete lane))

/-- READBACK_MISMATCH (R17). -/
def execReadbackMismatch (s : State) : Host.Outcome State Fault Refusal :=
  s.run (offerEvent (fun t => t.lane.sendingClean) Station.readbackFails)

/-- FRAME_HANDOVER (R12). -/
def execFrameHandover (f : RxFrame) (air : Bool) (s : State) : Host.Outcome State Fault Refusal :=
  s.run (offerEvent (fun t => t.lane.receiving) (Station.frameHandover f air))

/-- FRAME_ABANDONED (R13). -/
def execFrameAbandoned (cause : LossCause) (s : State) : Host.Outcome State Fault Refusal :=
  s.run (offerEvent (fun t => losesPlace t.lane.line cause) Station.abandonFrame)

/-- ATTEMPT_RESULT (R16). -/
def execAttemptResult (flaw taken refused : Bool) (s : State) : Host.Outcome State Fault Refusal :=
  s.run (offerEvent (fun t => t.lane.awaitsResult) (Station.attemptResult flaw taken refused))

/-- STUCK_BEGINS (R19). -/
def execStuckBegins (s : State) : Host.Outcome State Fault Refusal :=
  s.run (offerEvent (fun t => t.lane.becomesStuck) Station.stuckBegins)

/-- STUCK_ENDS (R19). -/
def execStuckEnds (s : State) : Host.Outcome State Fault Refusal :=
  s.run (offerEvent (fun t => t.lane.line = .stuck) Station.stuckEnds)

/-- STUCK_CLEAR_EXPIRY (R20). -/
def execStuckClearExpiry (s : State) : Host.Outcome State Fault Refusal :=
  s.run (offerEvent (fun t => due t.lane.stuckClear t.localTime) Station.stuckClears)

end Sys2Proof.Machine
end

