-- ==== Sys2Proof/Machine/PinCommands.lean ====
section
/-! DEFINITION. The commands of the input pins: SEAT_LOST, SEAT_PRESENT, LATCH_OPENS, LATCH_CLOSES,
EXT_PPS_EDGE (R28 to R41, R129, R156). The levels are sampled even in a reset hold (log 13). -/

namespace Sys2Proof.Machine

/-! ### The seat contact and the latch -/

/-- R40: SEAT lost moves every state but CONFIG, UNSEATED and CLASHED. -/
def seatLostMoves (state : SeatState) : Bool :=
  match state with
  | .waitSeat | .listen | .joining | .active | .leaving | .gone => true
  | .config | .unseated | .clashed => false

/-- R40: SEAT lost. -/
def Station.seatLost (s : Station) : Station :=
  offerEvent (fun t => seatLostMoves t.seat.state) (Station.enterSeat · .unseated)
    { s with pins := { s.pins with seatPresent := false } }

/-- R29, R41: SEAT present and LATCH closed in WAIT_SEAT or UNSEATED. -/
def Station.pairCompletes (s : Station) : Bool :=
  s.pins.seatPresent && s.pins.latchClosed && (s.seat.state = .waitSeat || s.seat.state = .unseated)

/-- R29, R41: SEAT present. -/
def Station.seatPresent (s : Station) : Station :=
  offerEvent Station.pairCompletes Station.enterListen
    { s with pins := { s.pins with seatPresent := true } }

/-- R30, R34, R35: LATCH opens moves LISTEN, JOINING and ACTIVE. -/
def latchOpenMoves (state : SeatState) : Bool :=
  match state with
  | .listen | .joining | .active => true
  | .config | .waitSeat | .leaving | .gone | .unseated | .clashed => false

/-- R30, R34, R35: what LATCH opening does in LISTEN, JOINING and ACTIVE. In JOINING the JOIN is first
withdrawn. -/
def Station.latchOpened (s : Station) : Station :=
  match s.seat.state with
  | .listen => s.enterSeat .waitSeat
  | .joining => ({ s with sched := s.sched.withdraw .control .join }).enterLeaving .latch
  | .active => s.enterLeaving .latch
  | .config | .waitSeat | .leaving | .gone | .unseated | .clashed => s

/-- R35: LATCH opens. -/
def Station.latchOpens (s : Station) : Station :=
  offerEvent (fun t => latchOpenMoves t.seat.state) Station.latchOpened
    { s with pins := { s.pins with latchClosed := false } }

/-- R29, R38, R41: LATCH closing with SEAT present moves WAIT_SEAT, UNSEATED, LEAVING and GONE. -/
def Station.latchCloseMoves (s : Station) : Bool :=
  s.pins.seatPresent &&
    match s.seat.state with
    | .waitSeat | .unseated | .leaving | .gone => true
    | .config | .listen | .joining | .active | .clashed => false

/-- R38: a LEAVE placed is withdrawn, and the station listens again. -/
def Station.latchClosed (s : Station) : Station :=
  ({ s with sched := s.sched.withdraw .control .leave }).enterListen

/-- R38: LATCH closes. -/
def Station.latchCloses (s : Station) : Station :=
  offerEvent Station.latchCloseMoves Station.latchClosed
    { s with pins := { s.pins with latchClosed := true } }

/-! ### EXT_PPS -/

/-- R156: the external signal as the servo reports it to the selector, which reviews (R142). -/
def Station.reportExternal (s : Station) (present : Bool) : Station :=
  ({ s with sel := { s.sel with extPresent := present } }).reviews 1

/-- R156, R157: an edge that pairs with an announcement. The edge that makes the signal present forms no
sample. -/
def Station.edgePairs (s : Station) (second : Nat) (air : Bool) : Station :=
  if s.servo.extPresent then s.pairEdge.thenReviews fun t => t.externalSample second air
  else s.pairEdge.reportExternal true

/-- R129, R130, R156: a rising edge of EXT_PPS. -/
def Station.ppsEdge (air : Bool) (s : Station) : Station :=
  match s.validAnnouncement with
  | some second => s.edgePairs second air
  | none => s.discardStale

/-! ### The commands -/

/-- SEAT_LOST (R40). -/
def execSeatLost (s : State) : Host.Outcome State Fault Refusal := s.run Station.seatLost

/-- SEAT_PRESENT (R29). -/
def execSeatPresent (s : State) : Host.Outcome State Fault Refusal := s.run Station.seatPresent

/-- LATCH_OPENS (R35). -/
def execLatchOpens (s : State) : Host.Outcome State Fault Refusal := s.run Station.latchOpens

/-- LATCH_CLOSES (R38). -/
def execLatchCloses (s : State) : Host.Outcome State Fault Refusal := s.run Station.latchCloses

/-- EXT_PPS_EDGE (R129): while the external flag is clear, nothing is stamped. -/
def execExtPpsEdge (air : Bool) (s : State) : Host.Outcome State Fault Refusal :=
  s.run (offerEvent (fun t => t.time.external) (Station.ppsEdge air))

end Sys2Proof.Machine
end

