-- ==== Sys2Proof/Machine/PortCommands.lean ====
section
/-! DEFINITION. The card port: how a request is served, and the commands of every request
(11_the_card_port.md). -/

namespace Sys2Proof.Machine

/-! ### Serving a request (R188, R189, R201) -/

/-- R201: the watchdog at a request that reaches the end of its request phase. -/
def Station.renewWatchdog (s : Station) : Station :=
  let active : Bool := s.seat.state = .active
  { s with
    port :=
      { s.port with
        cardOk := true
        watchdog := if active then s.port.watchdogIn true s.localTime else s.port.watchdog } }

/-- R189, R201: what every request does, taken or refused: the watchdog and card_ok renewed, and a raised
CARD_UNRESPONSIVE cleared. -/
def Station.cardAlive (s : Station) : Station :=
  let t := s.renewWatchdog
  if t.alarm.has cardUnresponsive then (t.clearInternal cardUnresponsive).renewOffer else t

/-- What a request's owner answers: the station after the request's own effect, the result, the body. -/
abbrev Answer := Station × Result × Body

/-- R189: a refused request changes nothing and has an empty body. -/
def Station.refuse (s : Station) (r : Result) : Answer := (s, r, .empty)

/-- A request taken. -/
def Station.answer (s : Station) (body : Body) : Answer := (s, .ok, body)

/-- A request taken that may change the best eligible head (R70). -/
def Station.answerOffer (s : Station) (body : Body) : Answer := (s.renewOffer, .ok, body)

/-- R188, R206: the reply fixed at the end of the request phase. -/
def replyOf (a : Answer) : Reply :=
  { result := a.2.1, causes := a.1.causes, body := a.2.2, wire := replyBytes a.2.1 a.1.causes a.2.2 }

/-- R188: a request takes effect at the end of its request phase; request and reply are held. DESIGN CHOICE
(log 42): card_ok is renewed and CARD_UNRESPONSIVE cleared (R201) before the request's own effect, where the
spec allows either order. Nothing reaches the port in a reset hold, or before a RESTART's transaction has
ended (log 12). -/
def Station.serve (req : Instr) (f : Station → Answer) (s : Station) : Station :=
  if s.hold || s.port.restartPending then s
  else
    let a := f s.cardAlive
    ({ a.1 with
        port := { a.1.port with request := some req, reply := some (replyOf a) } }).drive

/-- R188: the number of bytes in the request phase of the transaction held. -/
def Port.requestLength (p : Port) : Nat :=
  match p.request.bind requestBytes with
  | some (code, args) => (requestPhase code args).length
  | none => 0

/-- R188: the byte that the station returns in byte `k` of the transaction in progress, with `waits` wait bytes
before the reply: how many there are is timing (log 24). In a request phase that has not ended it is 0xFF. -/
def Port.returned (p : Port) (waits k : Nat) : Byte :=
  match p.reply with
  | some r => returnedByte p.requestLength waits r.wire k
  | none => 0xFF

/-! ### CONFIGURE (R28, R90, R124, R135, R166, R190) -/

/-- R190: each owner takes its fields. -/
def Station.takeConfig (s : Station) (h : ConfigHeld) : Station :=
  { s with
    roster := { s.roster with cardType := h.cardType }
    sel := { s.sel with eligible := h.eligible }
    time := { s.time.realign h.airOffset with external := h.external }
    alarm := { s.alarm with relayCapable := h.relayCapable }
    servo := { s.servo with pitch := h.pitch, holdLimit := h.holdLimit }
    share :=
      { s.share with t0 := h.t0, t1 := h.t1, t2 := h.t2, t3 := h.t3, expressShare := h.expressShare }
    port := { s.port with timeout := h.cardTimeout, txRoom := h.txRoom, reapLevel := h.reapLevel } }

/-- R28: CONFIG ends in LISTEN when SEAT is present and LATCH closed, otherwise in WAIT_SEAT. -/
def Station.leaveConfig (s : Station) : Station :=
  if s.pins.seatPresent && s.pins.latchClosed then s.enterListen else s.enterSeat .waitSeat

/-- R163: the unlocked timer at CONFIGURE. DESIGN CHOICE (log 41): one that had expired in CONFIG starts afresh. -/
def Station.startUnlockedUnlessLocked (s : Station) : Station :=
  if s.servo.state = .locked then s else s.startUnlocked

/-- R190. -/
def Station.configure (c : ConfigArgs) (s : Station) : Answer :=
  if s.seat.state != .config then s.refuse .notNow
  else
    let h := heldConfig c
    ((((s.takeConfig h).leaveConfig).startUnlockedUnlessLocked).reviews 1).answerOffer (.configured h)

/-! ### Traffic requests (R77, R78, R113, R191 to R193) -/

/-- R78: the scheduler takes a SEND or refuses it. -/
def Station.placeSend (s : Station) (q : CardQueue) (d : Dest) (tier : Nat) (tag : Word16)
    (payload : List Byte) : Answer :=
  if Config.reservation ≤ s.sched.reserved then s.refuse .full
  else if !s.sched.hasRoom (cardClass q) then s.refuse .full
  else if s.destGone d then s.refuse .destGone
  else
    let t := { s with
      sched := s.sched.append (cardClass q) (Entry.placed .data d tier payload (some tag) none) }
    t.answerOffer (.reservation t.sched.reserved)

/-- R191: SEND in the order of R189. A payload above 256 bytes does not fit the code (R206). -/
def Station.send (tag : Word16) (cls tier dest : Byte) (payload : List Byte) (s : Station) : Answer :=
  if 256 < payload.length then s.refuse .badArgument
  else if s.seat.state != .active then s.refuse .notNow
  else
    match sendArgs s.seat.slot cls tier dest payload with
    | some (q, d) =>
      if s.destGone d then s.refuse .destGone else s.placeSend q d tier.toNat tag payload
    | none => s.refuse .badArgument

/-- R113: the queue that a selector names now. -/
def Rx.selected (r : Rx) (selector : Byte) : Option CardQueue :=
  match selector.toNat with
  | 0 => some .express
  | 1 => some .bulk
  | 2 => if r.express.isEmpty then some .bulk else some .express
  | _ => none

/-- R113: TAKE. -/
def Station.take (selector : Byte) (s : Station) : Answer :=
  match s.rx.selected selector with
  | some q =>
    match s.rx.queue q with
    | e :: rest =>
      (({ s with rx := s.rx.setQueue q rest }).clearOverrun).answerOffer (.taken e.arrival e.payload)
    | [] => s.refuse .empty
  | none => s.refuse .badArgument

/-- R77: REAP. -/
def Station.reap (s : Station) : Answer :=
  match s.sched.completions with
  | [] => s.refuse .empty
  | _ :: _ =>
    ({ s with sched := { s.sched with completions := s.sched.completions.drop 8 } }).answer
      (.reaped (s.sched.completions.take 8))

/-- R83: a periodic entry written. -/
def Station.writePeriodic (s : Station) (i : Fin 4) (skip phase : Nat) (d : Dest) (tier : Nat)
    (payload : List Byte) : Answer :=
  let e := (s.sched.periodic.get i).rewrite skip phase d tier payload
  ({ s with sched := { s.sched with periodic := s.sched.periodic.set i e } }).answer (.periodic e)

/-- R193: SET PERIODIC. -/
def Station.setPeriodic (index skip phase dest tier : Byte) (payload : List Byte) (s : Station) : Answer :=
  if 256 < payload.length then s.refuse .badArgument
  else if s.seat.state = .config then s.refuse .notNow
  else
    match periodicArgs s.seat.slot index dest tier payload with
    | some (i, d) => s.writePeriodic i skip.toNat phase.toNat d tier.toNat payload
    | none => s.refuse .badArgument

/-! ### Views (R131, R165, R194, R196) -/

/-- R194: the STATION report, with the causes as they stood before the read. -/
def Station.stationReport (s : Station) : StationReport :=
  { state := s.seat.state, slot := s.seat.slot, generation := s.seat.generation, cause := s.seat.cause,
    leaveReason := if s.seat.state = .leaving then s.seat.leaveReason else none,
    cardOk := s.port.cardOk, watchdog := s.port.watchdog, cardTimeout := s.port.timeout,
    txRoom := s.port.txRoom, reapLevel := s.port.reapLevel, causes := s.causes }

/-- R194: VIEW STATION clears the SEAT cause. -/
def Station.viewStation (s : Station) : Answer :=
  ({ s with port := { s.port with seatCause := false } }).answer (.station s.stationReport)

/-- R46, R194: the ROSTER report. -/
def Station.rosterReport (s : Station) (p : Slot) : RosterReport :=
  if p = s.seat.slot then .self s.seat.generation s.roster.cardType s.sel.announced else .peer (s.peer p)

/-- R194: VIEW ROSTER. -/
def Station.viewRoster (slot : Byte) (s : Station) : Answer :=
  if slot.toNat < 16 then s.answer (.roster (s.rosterReport (Fin.ofNat 16 slot.toNat)))
  else s.refuse .badArgument

/-- R103, R194: the QUEUES report, with the missed flags as they stood before the read. -/
def Station.queuesReport (s : Station) : QueuesReport :=
  { timing := s.sched.timing.length, control := s.sched.control.length,
    express := s.sched.express.length, bulk := s.sched.bulk.length, reservation := s.sched.reserved,
    completions := s.sched.completions.length, expressIn := s.rx.express.length,
    bulkIn := s.rx.bulk.length, overrun := s.rx.overrun,
    periodic := [s.sched.periodic.get 0, s.sched.periodic.get 1, s.sched.periodic.get 2,
      s.sched.periodic.get 3],
    share := s.share }

/-- R85, R194: VIEW QUEUES clears every missed flag and the MISSED cause. -/
def Station.viewQueues (s : Station) : Answer :=
  ({ s with
      sched := s.sched.clearMissed
      port := { s.port with missedCause := false } }).answer (.queues s.queuesReport)

/-- R194: VIEW REFERENCE. -/
def Station.viewReference (s : Station) : Answer :=
  s.answer
    (.reference
      { eligible := s.sel.eligible, extPresent := s.sel.extPresent, source := s.sel.source,
        standing := s.sel.standing, announced := s.sel.announced, beaconing := s.sel.beaconing,
        cands := s.sel.cands, lockRecord := s.sel.lockRecord, lastHandover := s.sel.lastHandover })

/-- R194: VIEW ALARMS. -/
def Station.viewAlarms (s : Station) : Answer :=
  s.answer
    (.alarms
      { view := s.alarm.view.length, own := s.alarm.own.length, card := s.alarm.cardEntries,
        ownSeq := s.alarm.ownSeq, critRelay := s.outputs.critRelay, majRelay := s.outputs.majRelay,
        relayCapable := s.alarm.relayCapable, atEnd := s.alarm.cursor.isNone })

/-- R131: the time report. -/
def Station.timeReport (s : Station) : TimeReport :=
  { sec := s.time.sec, ns := s.time.ns, frac := s.time.frac, a := s.time.a, offset := s.time.offset,
    lastCount := s.time.lastCount, radioFrame := s.time.lastCount.map (· % 1024),
    lastFrame := s.time.lastFrame, lastPps := s.time.lastPps.map Stamp.sec,
    stepCount := s.time.stepCount, lastStep := s.time.lastStep, external := s.time.external }

/-- R165: local periods as seconds, in the rounding that the spec leaves open (log 10). -/
def asSeconds (periods : Nat) : Nat :=
  if Config.roundsUp then (periods + (Config.seconds 1 - 1)) / Config.seconds 1
  else periods / Config.seconds 1

/-- R165: holdover as reported; absent outside HOLDOVER. -/
def Station.holdoverReport (s : Station) : Option HoldoverReport :=
  if s.servo.state = .holdover then
    if s.servo.expired then some .expired
    else s.servo.holdTimer.map fun d => .remaining (asSeconds (d - s.localTime))
  else none

/-- R165: seconds away from LOCKED, capped at 10; absent while the timer is stopped. -/
def Station.unlockedReport (s : Station) : Option Nat :=
  match s.servo.unlocked with
  | .stopped => none
  | .running d => some (min 10 (asSeconds (s.localTime + Config.unlocked - d)))
  | .expired => some 10

/-- R165: the servo report. -/
def Station.servoReport (s : Station) : ServoReport :=
  { state := s.servo.state, source := s.servo.source, i := s.servo.i, a := s.servo.a,
    lastSample := s.servo.lastSample, inCount := s.servo.inCount, outCount := s.servo.outCount,
    holdover := s.holdoverReport, unlocked := s.unlockedReport, extPresent := s.servo.extPresent,
    announcement := s.servo.announcement.map Announcement.second, pitch := s.servo.pitch,
    holdLimit := s.servo.holdLimit }

/-- R196: TIME clears the TIMING cause. -/
def Station.readTime (s : Station) : Answer :=
  ({ s with port := { s.port with timingCause := false } }).answer (.time s.timeReport s.servoReport)

/-- R130, R196: EXTERNAL TIME. -/
def Station.announceTime (second : Word32) (s : Station) : Answer :=
  if s.time.external then
    ({ s with servo := { s.servo with announcement := some ⟨second.toNat, s.localTime⟩ } }).answer .empty
  else s.refuse .notNow

/-! ### The cursor (R184, R185, R195) -/

/-- The station with its cursor moved. -/
def Station.setCursor (s : Station) (c : Option ViewEntry) : Station :=
  { s with alarm := { s.alarm with cursor := c.map ViewEntry.ident } }

/-- R184: the entry that the cursor is on. -/
def Station.atCursor (s : Station) : Option ViewEntry := s.alarm.cursor.bind (findIdent s.alarm.view)

/-- R184: the successor of the cursor's entry. -/
def Station.afterCursor (s : Station) : Option ViewEntry := s.alarm.cursor.bind (successor s.alarm.view)

/-- R184: the predecessor of the cursor's entry. -/
def Station.beforeCursor (s : Station) : Option ViewEntry := s.alarm.cursor.bind (predecessor s.alarm.view)

/-- R184: HOLD. -/
def Station.readHold (s : Station) : Answer := s.answer (.viewRecord s.atCursor)

/-- R184: NEXT. -/
def Station.readNext (s : Station) : Answer := (s.setCursor s.afterCursor).answer (.viewRecord s.atCursor)

/-- R184: PREV. -/
def Station.readPrev (s : Station) : Answer := (s.setCursor s.beforeCursor).answer (.viewRecord s.atCursor)

/-- R184: ADVANCE. -/
def Station.readAdvance (s : Station) : Answer :=
  (s.setCursor s.afterCursor).answer (.viewRecord s.afterCursor)

/-- R184: PEEK k. -/
def Station.readPeek (k : Byte) (s : Station) : Answer :=
  match peekArg k with
  | some k => s.answer (.viewRecord (s.alarm.cursor.bind fun i => placesFrom s.alarm.view i k))
  | none => s.refuse .badArgument

/-- R185: the cursor placed by a SEEK; the view-changed cause is cleared. -/
def Station.seek (s : Station) (target : Option ViewEntry) : Answer :=
  let t := s.setCursor target
  ({ t with alarm := { t.alarm with viewChanged := false } }).answer (.viewRecord target)

/-! ### Alarms (R171, R197) -/

/-- R171: the alarm unit takes a RAISE. -/
def Station.takeRaise (s : Station) (code : Word16) (sev : Severity) (subject : Option Slot) : Answer :=
  match s.alarm.own.find? fun e => e.is code subject with
  | some e =>
    if e.sev = sev then s.answer (.listSeq s.alarm.ownSeq)
    else
      let t := s.changeOwn (s.alarm.own.map fun x => if x.is code subject then { x with sev := sev } else x)
      t.answerOffer (.listSeq t.alarm.ownSeq)
  | none =>
    if s.alarm.cardEntries < Config.cardAlarms then
      let t := s.changeOwn (s.alarm.own ++ [⟨code, sev, subject, s.time.sec⟩])
      t.answerOffer (.listSeq t.alarm.ownSeq)
    else s.refuse .full

/-- R197: RAISE. -/
def Station.raiseCard (code : Word16) (severity : Byte) (subject : Option Byte) (s : Station) : Answer :=
  match raiseArgs code severity subject with
  | some (sev, sub) => s.takeRaise code sev sub
  | none => s.refuse .badArgument

/-- R171: the alarm unit takes a CLEAR. -/
def Station.takeClear (s : Station) (code : Word16) (subject : Option Slot) : Answer :=
  if s.alarm.own.any fun e => e.is code subject then
    let t := s.changeOwn (s.alarm.own.filter fun e => !e.is code subject)
    t.answerOffer (.listSeq t.alarm.ownSeq)
  else s.refuse .noSuch

/-- R197: CLEAR. -/
def Station.clearCard (code : Word16) (subject : Option Byte) (s : Station) : Answer :=
  match clearArgs code subject with
  | some sub => s.takeClear code sub
  | none => s.refuse .badArgument

/-! ### Departure and resets (R198) -/

/-- R35: RELEASE. -/
def Station.release (s : Station) : Answer :=
  if s.seat.state = .active then (s.enterLeaving .release).answerOffer .empty else s.refuse .notNow

/-- R82, R115: RESET TRAFFIC at the scheduler and the receive filter. The periodic entries are cleared
before the copies are dropped, so that the drops set no missed flag. -/
def Station.clearTraffic (s : Station) : Station :=
  let t := (s.clearPeriodic).flushCards
  ({ t with rx := { t.rx with express := [], bulk := [] } }).clearOverrun

/-- R198: RESET TRAFFIC. -/
def Station.resetTraffic (s : Station) : Answer :=
  if s.seat.state = .config then s.refuse .notNow else s.clearTraffic.answerOffer .empty

/-- R150: RESET TIMING at the selector, before its review: no lock is remembered, and the classes are
those of a servo that is FREE (log 20). -/
def Selector.forgetLock (c : Selector) : Selector :=
  let k := if c.eligible then 13 else 15
  { c with lockedSource := none, lockRecord := none, announced := k, standing := k }

/-- R64, R150, R167: RESET TIMING at the roster, the servo and the selector. -/
def Station.resetTimingBlocks (s : Station) : Station :=
  let t := s.voidStamps.resetServo
  ({ t with sel := t.sel.forgetLock }).reviews (1 + servoEvents s.servo t.servo)

/-- R198: RESET TIMING. -/
def Station.resetTiming (s : Station) : Answer := s.resetTimingBlocks.answerOffer .empty

/-- R64: every peer's alarm set emptied. -/
def Station.emptySets (s : Station) : Station :=
  allSlots.foldl (fun t p => t.setPeer p { t.peer p with alarms := AlarmSet.empty }) s

/-- R198: RESET VIEW. -/
def Station.resetViewRequest (s : Station) : Answer := s.emptySets.resetView.answerOffer .empty

/-- R198: RESTART; the reset itself waits for the end of the transaction. -/
def Station.restart (s : Station) : Answer :=
  ({ s with port := { s.port with restartPending := true } }).answer .empty

/-- R188: CS_N deasserted in the request phase: no effect, and no reply exists. -/
def Station.discardTransaction (s : Station) : Station :=
  if s.hold || s.port.restartPending then s
  else { s with port := { s.port with request := none, reply := none } }

/-! ### The commands -/

/-- TRANSACTION_DISCARDED (R188). -/
def execTransactionDiscarded (s : State) : Host.Outcome State Fault Refusal :=
  s.run Station.discardTransaction

/-- UNKNOWN_REQUEST (R188, R189). -/
def execUnknownRequest (code : Byte) (args : List Byte) (s : State) : Host.Outcome State Fault Refusal :=
  s.run (Station.serve (.unknownRequest code args) fun t => t.refuse .badArgument)

/-- CONFIGURE (R190). -/
def execConfigure (args : ConfigArgs) (s : State) : Host.Outcome State Fault Refusal :=
  s.run (Station.serve (.configure args) (Station.configure args))

/-- SEND (R191). -/
def execSend (tag : Word16) (cls tier dest : Byte) (payload : List Byte) (s : State) :
    Host.Outcome State Fault Refusal :=
  s.run (Station.serve (.send tag cls tier dest payload) (Station.send tag cls tier dest payload))

/-- TAKE (R192). -/
def execTake (selector : Byte) (s : State) : Host.Outcome State Fault Refusal :=
  s.run (Station.serve (.take selector) (Station.take selector))

/-- REAP (R77). -/
def execReap (s : State) : Host.Outcome State Fault Refusal := s.run (Station.serve .reap Station.reap)

/-- VIEW STATION (R194). -/
def execViewStation (s : State) : Host.Outcome State Fault Refusal :=
  s.run (Station.serve .viewStation Station.viewStation)

/-- VIEW ROSTER (R194). -/
def execViewRoster (slot : Byte) (s : State) : Host.Outcome State Fault Refusal :=
  s.run (Station.serve (.viewRoster slot) (Station.viewRoster slot))

/-- VIEW QUEUES (R194). -/
def execViewQueues (s : State) : Host.Outcome State Fault Refusal :=
  s.run (Station.serve .viewQueues Station.viewQueues)

/-- VIEW REFERENCE (R194). -/
def execViewReference (s : State) : Host.Outcome State Fault Refusal :=
  s.run (Station.serve .viewReference Station.viewReference)

/-- VIEW ALARMS (R194). -/
def execViewAlarms (s : State) : Host.Outcome State Fault Refusal :=
  s.run (Station.serve .viewAlarms Station.viewAlarms)

/-- READ HOLD (R184). -/
def execReadHold (s : State) : Host.Outcome State Fault Refusal :=
  s.run (Station.serve .readHold Station.readHold)

/-- READ NEXT (R184). -/
def execReadNext (s : State) : Host.Outcome State Fault Refusal :=
  s.run (Station.serve .readNext Station.readNext)

/-- READ PREV (R184). -/
def execReadPrev (s : State) : Host.Outcome State Fault Refusal :=
  s.run (Station.serve .readPrev Station.readPrev)

/-- READ ADVANCE (R184). -/
def execReadAdvance (s : State) : Host.Outcome State Fault Refusal :=
  s.run (Station.serve .readAdvance Station.readAdvance)

/-- READ PEEK (R184). -/
def execReadPeek (k : Byte) (s : State) : Host.Outcome State Fault Refusal :=
  s.run (Station.serve (.readPeek k) (Station.readPeek k))

/-- SEEK FIRST (R185). -/
def execSeekFirst (s : State) : Host.Outcome State Fault Refusal :=
  s.run (Station.serve .seekFirst fun t => t.seek t.alarm.view.head?)

/-- SEEK LAST (R185). -/
def execSeekLast (s : State) : Host.Outcome State Fault Refusal :=
  s.run (Station.serve .seekLast fun t => t.seek t.alarm.view.getLast?)

/-- RAISE (R171). -/
def execRaise (code : Word16) (severity : Byte) (subject : Option Byte) (s : State) :
    Host.Outcome State Fault Refusal :=
  s.run (Station.serve (.raise code severity subject) (Station.raiseCard code severity subject))

/-- CLEAR (R171). -/
def execClear (code : Word16) (subject : Option Byte) (s : State) : Host.Outcome State Fault Refusal :=
  s.run (Station.serve (.clear code subject) (Station.clearCard code subject))

/-- TIME (R196). -/
def execTime (s : State) : Host.Outcome State Fault Refusal := s.run (Station.serve .time Station.readTime)

/-- EXTERNAL TIME (R130). -/
def execExternalTime (second : Word32) (s : State) : Host.Outcome State Fault Refusal :=
  s.run (Station.serve (.externalTime second) (Station.announceTime second))

/-- RELEASE (R198). -/
def execRelease (s : State) : Host.Outcome State Fault Refusal :=
  s.run (Station.serve .release Station.release)

/-- SET PERIODIC (R193). -/
def execSetPeriodic (index skip phase dest tier : Byte) (payload : List Byte) (s : State) :
    Host.Outcome State Fault Refusal :=
  s.run
    (Station.serve (.setPeriodic index skip phase dest tier payload)
      (Station.setPeriodic index skip phase dest tier payload))

/-- RESET TRAFFIC (R82). -/
def execResetTraffic (s : State) : Host.Outcome State Fault Refusal :=
  s.run (Station.serve .resetTraffic Station.resetTraffic)

/-- RESET TIMING (R167). -/
def execResetTiming (s : State) : Host.Outcome State Fault Refusal :=
  s.run (Station.serve .resetTiming Station.resetTiming)

/-- RESET VIEW (R186). -/
def execResetView (s : State) : Host.Outcome State Fault Refusal :=
  s.run (Station.serve .resetView Station.resetViewRequest)

/-- RESTART (R198). -/
def execRestart (s : State) : Host.Outcome State Fault Refusal :=
  s.run (Station.serve .restart Station.restart)

end Sys2Proof.Machine
end

