-- ==== Sys2Proof/Machine/TimeCommands.lean ====
section
/-! DEFINITION. The commands of the oscillator and the strobes: LOCAL_PERIOD, SUBFRAME_STROBE,
FRAME_STROBE, PPS_STROBE, STROBE_PULSE_END (R21, R22, R30, R118, R121, R122). -/

namespace Sys2Proof.Machine

/-! ### One local period -/

/-- R21: the line states in which the lane is occupied. -/
def busyLine (line : LineState) : Bool :=
  match line with
  | .key | .body | .endField | .gap => true
  | .listening | .opened | .unframed | .stuck => false

/-- R21: the byte slot that begins with this period counts as occupied. -/
def occupied (line : LineState) (level : LaneLevel) : Bool := busyLine line || level != .recessive

/-- R19, R21: the lane interface's counts over one local period. A byte slot is two local periods. -/
def Lane.period (l : Lane) (now : Nat) (level : LaneLevel) : Lane :=
  { l with
    busyBt := l.busyBt + (if now % 2 = 0 && occupied l.line level then 1 else 0)
    windowPeriods := l.windowPeriods + 1
    domRun := if level = .dominant then l.domRun + 1 else 0 }

/-- R15, R16: the end field of an own frame begins with its delimiter; a transmitter with a readback fault drives FLAW
when its mark gate is open. -/
def Lane.endFieldBegins (l : Lane) (a : Attempt) (gate : Bool) : Lane :=
  { l with
    attempt := some { a with phase := .awaitMarks, bodyLeft := 0 }
    line := if l.line = .body then .endField else l.line
    marks := { Marks.none with flaw := a.readbackFault && gate }
    delimiter := true
    endLeft := Config.endField }

/-- R2, R15: one local period of an end field. When its byte time is complete the marks and
the delimiter end, and the line is in the gap (log 7). -/
def Lane.endPeriod (l : Lane) : Lane :=
  match l.endLeft with
  | 0 => l
  | 1 =>
    { l with
      endLeft := 0, marks := Marks.none, delimiter := false
      line := if l.line = .endField then .gap else l.line }
  | n + 2 => { l with endLeft := n + 1 }

/-- R11, R16: an attempt in SENDING over one local period (log 8). -/
def Lane.sendPeriod (l : Lane) (gate : Bool) : Lane :=
  match l.attempt with
  | some a =>
    if a.phase = .sending then
      if a.bodyLeft ≤ 1 then l.endFieldBegins a gate
      else { l with attempt := some { a with bodyLeft := a.bodyLeft - 1 } }
    else l
  | none => l

/-- R30: the listen count advances on local time while the lane is not stuck. -/
def Seat.listenPeriod (c : Seat) (stuck : Bool) : Seat :=
  if c.state = .listen && !stuck && decide (c.listenCount < Config.listen) then
    { c with listenCount := c.listenCount + 1 }
  else c

/-- R118: one period of the local oscillator. -/
def Station.localPeriod (level : LaneLevel) (s : Station) : Station :=
  { s with
    localTime := s.localTime + 1
    lane := ((s.lane.period s.localTime level).endPeriod).sendPeriod (markGate s.seat.state)
    seat := s.seat.listenPeriod (s.lane.line = .stuck)
    time := s.time.period }

/-! ### Strobes -/

/-- R22: the busy measurement starts again from zero. -/
def Lane.newWindow (l : Lane) : Lane :=
  { l with
    busyBt := 0
    windowPeriods := 0
    attempt := l.attempt.map fun a => { a with windowEnded := true } }

/-- R22, R91, R121: a subframe strobe. -/
def Station.subframeStrobe (s : Station) : Station :=
  { s with
    time := s.time.emitSub s.localTime
    share := s.share.windowStart s.lane.busyBt s.lane.windowBt
    lane := s.lane.newWindow }

/-- R84, R121: a frame strobe. -/
def Station.frameStrobe (s : Station) : Station :=
  let t := { s with time := s.time.emitFrame s.localTime }
  match s.time.owedFrame with
  | o :: _ => t.releasePeriodic o.count
  | [] => t

/-- R121: a PPS strobe. -/
def Station.ppsStrobe (s : Station) : Station := { s with time := s.time.emitPps s.localTime }

/-- R122: the end of a pulse. -/
def Station.pulseEnds (pin : StrobePin) (s : Station) : Station :=
  { s with time := s.time.endPulseOn pin s.localTime }

/-! ### The commands -/

/-- LOCAL_PERIOD (R118). -/
def execLocalPeriod (level : LaneLevel) (s : State) : Host.Outcome State Fault Refusal :=
  s.run (event (fun _ => true) (Station.localPeriod level))

/-- SUBFRAME_STROBE (R121): the oldest subframe boundary crossed whose strobe is owed (log 5). -/
def execSubframeStrobe (s : State) : Host.Outcome State Fault Refusal :=
  s.run (offerEvent (fun t => !t.time.owedSub.isEmpty) Station.subframeStrobe)

/-- FRAME_STROBE (R121). -/
def execFrameStrobe (s : State) : Host.Outcome State Fault Refusal :=
  s.run (offerEvent (fun t => !t.time.owedFrame.isEmpty) Station.frameStrobe)

/-- PPS_STROBE (R121). -/
def execPpsStrobe (s : State) : Host.Outcome State Fault Refusal :=
  s.run (event (fun t => !t.time.owedPps.isEmpty) Station.ppsStrobe)

/-- STROBE_PULSE_END (R122). -/
def execStrobePulseEnd (pin : StrobePin) (s : State) : Host.Outcome State Fault Refusal :=
  s.run (event (fun _ => true) (Station.pulseEnds pin))

end Sys2Proof.Machine
end

