-- ==== Sys2Proof/Machine/TimerCommands.lean ====
section
/-! DEFINITION. The commands of the local timers and of the conditions that stand for them: the seat
controller's, the roster's, the scheduler's, the selector's, the servo's, the alarm unit's and the card
watchdog's. An expiry acts when its deadline has been reached (log 3, log 4). -/

namespace Sys2Proof.Machine

/-! ### Seat controller -/

/-- R30: the listen count has reached 300 ms. -/
def Station.listenDone (s : Station) : Bool :=
  s.seat.state = .listen && decide (Config.listen ≤ s.seat.listenCount)

/-- R36: LEAVING, the LEAVE not yet placed. -/
def Station.leaveOwed (s : Station) : Bool := s.seat.state = .leaving && !s.seat.leavePlaced

/-- LISTEN_COMPLETE (R30). -/
def execListenComplete (s : State) : Host.Outcome State Fault Refusal :=
  s.run (offerEvent Station.listenDone Station.enterJoining)

/-- LEAVE_PLACED (R36): the queues have drained. -/
def execLeavePlaced (s : State) : Host.Outcome State Fault Refusal :=
  s.run (offerEvent (fun t => t.leaveOwed && t.drained) Station.placeLeave)

/-- DRAIN_40MS (R36). -/
def execDrain40ms (s : State) : Host.Outcome State Fault Refusal :=
  s.run (offerEvent (fun t => t.leaveOwed && t.drainReached Config.drainMark) Station.placeLeave)

/-- DRAIN_50MS (R37). -/
def execDrain50ms (s : State) : Host.Outcome State Fault Refusal :=
  s.run
    (offerEvent (fun t => t.seat.state = .leaving && t.drainReached Config.drainEnd)
      (Station.enterSeat · .gone))

/-! ### Roster -/

/-- R48: a peer unheard for a time. -/
def Station.unheardFor (s : Station) (p : Slot) (time : Nat) : Bool :=
  due ((s.peer p).lastHeard.map (· + time)) s.localTime

/-- R48: a PRESENT peer unheard for 300 ms. -/
def Station.silentDue (p : Slot) (s : Station) : Bool :=
  (s.peer p).state = .present && s.unheardFor p Config.silentAfter

/-- R48: the slot becomes SILENT. -/
def Station.fallSilent (p : Slot) (s : Station) : Station :=
  (s.setPeer p ((s.peer p).silenced s.localTime)).notifySilent p

/-- R49: the slot becomes ABSENT. -/
def Station.becomeAbsent (missing : Bool) (p : Slot) (s : Station) : Station :=
  (s.setPeer p ((s.peer p).emptied s.localTime)).notifyAbsent p missing

/-- R48: a SILENT peer unheard for 1,000 ms. -/
def Station.absentDue (p : Slot) (s : Station) : Bool :=
  (s.peer p).state = .silent && s.unheardFor p Config.absentAfter

/-- R52: a slot LEFT for 60 s. -/
def Station.leftDue (p : Slot) (s : Station) : Bool :=
  (s.peer p).state = .left && decide ((s.peer p).since + Config.leftFor ≤ s.localTime)

/-- R61: flaw times more than 1 s old leave the list. -/
def Station.ageFlaws (p : Slot) (s : Station) : Station :=
  s.setPeer p { s.peer p with flaws := recentFlaws (s.peer p).flaws s.localTime }

/-- R63, R137, R170: the bar ends. DESIGN CHOICE (log 26): the selector's review comes before TALKER_BARRED is kept;
R53 leaves the order of the two receivers open. -/
def Station.endBar (p : Slot) (s : Station) : Station :=
  ((s.setPeer p { s.peer p with barredUntil := none }).reviews 1).keepTalker

/-- R59: the ROLLCALL already in CONTROL. -/
def Station.rollcallQueued (s : Station) : Bool := s.sched.control.any fun e => e.kind = .rollcall

/-- R59: the silence timer runs out: a ROLLCALL is placed where none is in CONTROL and there is room. -/
def Station.silenceExpires (s : Station) : Station :=
  let t := { s with roster := { s.roster with silence := some (s.localTime + Config.silence) } }
  if !s.rollcallQueued && s.sched.hasRoom .control then
    { t with sched := t.sched.append .control (Entry.internal .rollcall []) }
  else t

/-- SILENT_TIMEOUT (R48). -/
def execSilentTimeout (slot : Slot) (s : State) : Host.Outcome State Fault Refusal :=
  s.run (offerEvent (Station.silentDue slot) (Station.fallSilent slot))

/-- ABSENT_TIMEOUT (R49). -/
def execAbsentTimeout (slot : Slot) (s : State) : Host.Outcome State Fault Refusal :=
  s.run (offerEvent (Station.absentDue slot) (Station.becomeAbsent true slot))

/-- LEFT_EXPIRY (R52). -/
def execLeftExpiry (slot : Slot) (s : State) : Host.Outcome State Fault Refusal :=
  s.run (offerEvent (Station.leftDue slot) (Station.becomeAbsent false slot))

/-- FLAW_TIME_AGED (R61). -/
def execFlawTimeAged (slot : Slot) (s : State) : Host.Outcome State Fault Refusal :=
  s.run (event (fun _ => true) (Station.ageFlaws slot))

/-- BAR_ENDS (R63). -/
def execBarEnds (slot : Slot) (s : State) : Host.Outcome State Fault Refusal :=
  s.run (offerEvent (fun t => due (t.peer slot).barredUntil t.localTime) (Station.endBar slot))

/-- SILENCE_TIMER_EXPIRY (R59). -/
def execSilenceTimerExpiry (s : State) : Host.Outcome State Fault Refusal :=
  s.run (offerEvent (fun t => due t.roster.silence t.localTime) Station.silenceExpires)

/-! ### Scheduler -/

/-- R74: an entry whose back-off has run out. -/
def Entry.backoffOver (e : Entry) (now : Nat) : Bool := due e.backoff now

/-- R74: the back-off field is removed. -/
def Station.endBackoff (q : CardQueue) (s : Station) : Station :=
  s.setQueue (cardClass q)
    ((s.sched.queue (cardClass q)).map fun e =>
      if e.backoffOver s.localTime then { e with backoff := none } else e)

/-- BACKOFF_ENDS (R74). -/
def execBackoffEnds (queue : CardQueue) (s : State) : Host.Outcome State Fault Refusal :=
  s.run
    (offerEvent
      (fun t => (t.sched.queue (cardClass queue)).any fun e => e.backoffOver t.localTime)
      (Station.endBackoff queue))

/-! ### Selector -/

/-- R136: a candidate's freshness deadline has been reached. -/
def Station.candidateStale (p : Slot) (s : Station) : Bool :=
  s.sel.cands.any fun c => c.slot = p && decide (c.deadline ≤ s.localTime)

/-- R145: the beacon interval expires in ON. -/
def Station.intervalDue (s : Station) : Bool :=
  s.sel.beaconing = .on && due s.sel.interval s.localTime

/-- R144: the claim expires with the condition holding. -/
def Station.claimDue (s : Station) : Bool :=
  s.sel.beaconing = .claiming && due s.sel.claim s.localTime && s.beaconCondition

/-- CANDIDATE_DEADLINE (R136). -/
def execCandidateDeadline (slot : Slot) (s : State) : Host.Outcome State Fault Refusal :=
  s.run (offerEvent (Station.candidateStale slot) fun t => t.dropAndReview slot)

/-- CLAIM_EXPIRY (R144). -/
def execClaimExpiry (s : State) : Host.Outcome State Fault Refusal :=
  s.run (offerEvent Station.claimDue Station.claimBeaconing)

/-- BEACON_INTERVAL_EXPIRY (R145). -/
def execBeaconIntervalExpiry (s : State) : Host.Outcome State Fault Refusal :=
  s.run (offerEvent Station.intervalDue Station.placeBeacon)

/-! ### Servo -/

/-- R156: the external signal lost. -/
def Station.externalLost (s : Station) : Station :=
  let t := { s with servo := { s.servo with extLoss := none, extPresent := false } }
  ({ t with sel := { t.sel with extPresent := false } }).reviews 1

/-- R163: the unlocked timer has run out. -/
def Timer.isDue (t : Timer) (now : Nat) : Bool :=
  match t with
  | .running d => decide (d ≤ now)
  | .stopped | .expired => false

/-- R163: REFERENCE_LOST. -/
def Station.unlockedExpires (s : Station) : Station :=
  ({ s with servo := { s.servo with unlocked := .expired } }).raiseInternal referenceLost

/-- R130: an announcement more than 1.1 s old. -/
def Station.announcementOld (s : Station) : Bool :=
  match s.servo.announcement with
  | some a => decide (a.arrival + Config.announceValid < s.localTime)
  | none => false

/-- EXT_LOSS_EXPIRY (R156). -/
def execExtLossExpiry (s : State) : Host.Outcome State Fault Refusal :=
  s.run (offerEvent (fun t => due t.servo.extLoss t.localTime) Station.externalLost)

/-- ANNOUNCEMENT_STALE (R130). -/
def execAnnouncementStale (s : State) : Host.Outcome State Fault Refusal :=
  s.run (event Station.announcementOld Station.discardStale)

/-- HOLDOVER_EXPIRY (R162). -/
def execHoldoverExpiry (s : State) : Host.Outcome State Fault Refusal :=
  s.run
    (offerEvent (fun t => t.servo.state = .holdover && due t.servo.holdTimer t.localTime) fun t =>
      t.thenReviews Station.expireHoldover)

/-- UNLOCKED_EXPIRY (R163). -/
def execUnlockedExpiry (s : State) : Host.Outcome State Fault Refusal :=
  s.run (offerEvent (fun t => t.servo.unlocked.isDue t.localTime) Station.unlockedExpires)

/-! ### Alarm unit -/

/-- R174: the refresh timer restarts at 2 s, and a frame is placed. -/
def Station.refreshExpires (s : Station) : Station :=
  ({ s with alarm := { s.alarm with refresh := some (s.localTime + Config.refresh) } }).placeAlarmIfPermitted

/-- R174: the stagger timer has run out. -/
def Station.staggerExpires (s : Station) : Station :=
  ({ s with alarm := { s.alarm with stagger := none } }).placeAlarmIfPermitted

/-- R173: the placement is tried again. -/
def Station.retryExpires (s : Station) : Station :=
  ({ s with alarm := { s.alarm with retry := none } }).placeAlarmIfPermitted

/-- REFRESH_EXPIRY (R174). -/
def execRefreshExpiry (s : State) : Host.Outcome State Fault Refusal :=
  s.run (offerEvent (fun t => due t.alarm.refresh t.localTime) Station.refreshExpires)

/-- STAGGER_EXPIRY (R174). -/
def execStaggerExpiry (s : State) : Host.Outcome State Fault Refusal :=
  s.run (offerEvent (fun t => due t.alarm.stagger t.localTime) Station.staggerExpires)

/-- PLACEMENT_RETRY_EXPIRY (R173). -/
def execPlacementRetryExpiry (s : State) : Host.Outcome State Fault Refusal :=
  s.run (offerEvent (fun t => due t.alarm.retry t.localTime) Station.retryExpires)

/-! ### Card watchdog -/

/-- R201: the watchdog runs out. -/
def Station.watchdogExpires (s : Station) : Station :=
  ({ s with port := { s.port with watchdog := .expired, cardOk := false } }).raiseInternal cardUnresponsive

/-- WATCHDOG_EXPIRY (R201). -/
def execWatchdogExpiry (s : State) : Host.Outcome State Fault Refusal :=
  s.run (offerEvent (fun t => t.port.watchdog.isDue t.localTime) Station.watchdogExpires)

end Sys2Proof.Machine
end

