-- ==== Sys2Proof/Machine/Dispatch.lean ====
section
/-! DEFINITION. The dispatch: one arm per command, each one direct call of its meaning. -/

namespace Sys2Proof.Machine

/-- A command's effect on everything but the queue. -/
def exec (i : Instr) (s : State) : Host.Outcome State Fault Refusal :=
  match i with
  | .powerReset straps => Sys2Proof.Machine.execPowerReset straps s
  | .pinReset => Sys2Proof.Machine.execPinReset s
  | .restartReset => Sys2Proof.Machine.execRestartReset s
  | .resetHoldEnd => Sys2Proof.Machine.execResetHoldEnd s
  | .seatLost => Sys2Proof.Machine.execSeatLost s
  | .seatPresent => Sys2Proof.Machine.execSeatPresent s
  | .latchOpens => Sys2Proof.Machine.execLatchOpens s
  | .latchCloses => Sys2Proof.Machine.execLatchCloses s
  | .extPpsEdge air => Sys2Proof.Machine.execExtPpsEdge air s
  | .localPeriod level => Sys2Proof.Machine.execLocalPeriod level s
  | .subframeStrobe => Sys2Proof.Machine.execSubframeStrobe s
  | .frameStrobe => Sys2Proof.Machine.execFrameStrobe s
  | .ppsStrobe => Sys2Proof.Machine.execPpsStrobe s
  | .strobePulseEnd pin => Sys2Proof.Machine.execStrobePulseEnd pin s
  | .laneOpening => Sys2Proof.Machine.execLaneOpening s
  | .startMark => Sys2Proof.Machine.execStartMark s
  | .keyComplete lane => Sys2Proof.Machine.execKeyComplete lane s
  | .readbackMismatch => Sys2Proof.Machine.execReadbackMismatch s
  | .frameHandover frame air => Sys2Proof.Machine.execFrameHandover frame air s
  | .frameAbandoned cause => Sys2Proof.Machine.execFrameAbandoned cause s
  | .attemptResult flaw taken refused => Sys2Proof.Machine.execAttemptResult flaw taken refused s
  | .stuckBegins => Sys2Proof.Machine.execStuckBegins s
  | .stuckEnds => Sys2Proof.Machine.execStuckEnds s
  | .stuckClearExpiry => Sys2Proof.Machine.execStuckClearExpiry s
  | .listenComplete => Sys2Proof.Machine.execListenComplete s
  | .leavePlaced => Sys2Proof.Machine.execLeavePlaced s
  | .drain40ms => Sys2Proof.Machine.execDrain40ms s
  | .drain50ms => Sys2Proof.Machine.execDrain50ms s
  | .silentTimeout slot => Sys2Proof.Machine.execSilentTimeout slot s
  | .absentTimeout slot => Sys2Proof.Machine.execAbsentTimeout slot s
  | .leftExpiry slot => Sys2Proof.Machine.execLeftExpiry slot s
  | .flawTimeAged slot => Sys2Proof.Machine.execFlawTimeAged slot s
  | .barEnds slot => Sys2Proof.Machine.execBarEnds slot s
  | .silenceTimerExpiry => Sys2Proof.Machine.execSilenceTimerExpiry s
  | .backoffEnds queue => Sys2Proof.Machine.execBackoffEnds queue s
  | .candidateDeadline slot => Sys2Proof.Machine.execCandidateDeadline slot s
  | .claimExpiry => Sys2Proof.Machine.execClaimExpiry s
  | .beaconIntervalExpiry => Sys2Proof.Machine.execBeaconIntervalExpiry s
  | .extLossExpiry => Sys2Proof.Machine.execExtLossExpiry s
  | .announcementStale => Sys2Proof.Machine.execAnnouncementStale s
  | .holdoverExpiry => Sys2Proof.Machine.execHoldoverExpiry s
  | .unlockedExpiry => Sys2Proof.Machine.execUnlockedExpiry s
  | .refreshExpiry => Sys2Proof.Machine.execRefreshExpiry s
  | .staggerExpiry => Sys2Proof.Machine.execStaggerExpiry s
  | .placementRetryExpiry => Sys2Proof.Machine.execPlacementRetryExpiry s
  | .watchdogExpiry => Sys2Proof.Machine.execWatchdogExpiry s
  | .transactionDiscarded => Sys2Proof.Machine.execTransactionDiscarded s
  | .unknownRequest code args => Sys2Proof.Machine.execUnknownRequest code args s
  | .configure args => Sys2Proof.Machine.execConfigure args s
  | .send tag cls tier dest payload => Sys2Proof.Machine.execSend tag cls tier dest payload s
  | .take selector => Sys2Proof.Machine.execTake selector s
  | .reap => Sys2Proof.Machine.execReap s
  | .viewStation => Sys2Proof.Machine.execViewStation s
  | .viewRoster slot => Sys2Proof.Machine.execViewRoster slot s
  | .viewQueues => Sys2Proof.Machine.execViewQueues s
  | .viewReference => Sys2Proof.Machine.execViewReference s
  | .viewAlarms => Sys2Proof.Machine.execViewAlarms s
  | .readHold => Sys2Proof.Machine.execReadHold s
  | .readNext => Sys2Proof.Machine.execReadNext s
  | .readPrev => Sys2Proof.Machine.execReadPrev s
  | .readAdvance => Sys2Proof.Machine.execReadAdvance s
  | .readPeek k => Sys2Proof.Machine.execReadPeek k s
  | .seekFirst => Sys2Proof.Machine.execSeekFirst s
  | .seekLast => Sys2Proof.Machine.execSeekLast s
  | .raise code severity subject => Sys2Proof.Machine.execRaise code severity subject s
  | .clear code subject => Sys2Proof.Machine.execClear code subject s
  | .time => Sys2Proof.Machine.execTime s
  | .externalTime second => Sys2Proof.Machine.execExternalTime second s
  | .release => Sys2Proof.Machine.execRelease s
  | .setPeriodic index skip phase dest tier payload => Sys2Proof.Machine.execSetPeriodic index skip phase dest tier payload s
  | .resetTraffic => Sys2Proof.Machine.execResetTraffic s
  | .resetTiming => Sys2Proof.Machine.execResetTiming s
  | .resetView => Sys2Proof.Machine.execResetView s
  | .restart => Sys2Proof.Machine.execRestart s
  | .pwrGoodFalls => Sys2Proof.Machine.execPwrGoodFalls s

end Sys2Proof.Machine
end

