-- ==== Sys2Proof/Safety.lean ====
section
/-! DEFINITION. What every step keeps: the invariants that the spec states of the station. -/

namespace Sys2Proof.Safety

open Sys2Proof.Machine

/-- R117, R120, R125: the fields of cabinet time, the air offset and the step count stay in their
ranges. -/
abbrev TimeInRange (s : Station) : Prop :=
  s.time.sec < Config.secRange ∧ s.time.ns < Config.nsPerSec ∧ s.time.frac < Config.fracUnit ∧
    s.time.offset < Config.frameNs ∧ s.time.stepCount < 65536

/-- R160: I and A stay within ±100,000 ppb, and the time base applies the servo's A (R118). -/
abbrev RatesBounded (s : Station) : Prop :=
  -Config.rateLimit ≤ s.servo.i ∧ s.servo.i ≤ Config.rateLimit ∧
    -Config.rateLimit ≤ s.servo.a ∧ s.servo.a ≤ Config.rateLimit ∧ s.time.a = s.servo.a

/-- R39, R182, R199, R200, R25: the output pins are those that the state gives. -/
abbrev PinsDriven (s : Station) : Prop := s.outs = s.outputsNow

/-- R67: behind the head no entry is on the lane, and the head is only while an attempt of its queue is
in progress. -/
abbrev OnLaneAtHead (s : Station) (q : FrameClass) : Prop :=
  (∀ e ∈ s.sched.behindHead q, e.onLane = false) ∧
    ((s.sched.onLaneHead q).isSome → ∃ a ∈ s.lane.attempt, a.queue = q)

/-- R66, R70, R78: the queues stay within their capacities, internal frames carry no tag, SEND frames
held plus records not reaped never total more than 48, and no offer stands beside an attempt. In a reset
hold the attempt is gone and its entry waits for the reset (R18). -/
structure QueuesBounded (s : Station) : Prop where
  timing   : s.sched.timing.length ≤ 1
  control  : s.sched.control.length ≤ 8
  express  : s.sched.express.length ≤ 16
  bulk     : s.sched.bulk.length ≤ 32
  reserved : s.sched.reserved ≤ Config.reservation
  internal : ∀ e ∈ s.sched.timing ++ s.sched.control, e.tag = none
  lane     : s.hold = false → ∀ q, OnLaneAtHead s q
  offered  : s.sched.offer.isSome → s.lane.attempt = none

/-- R109: the receive queues stay within their capacities. -/
abbrev RxBounded (s : Station) : Prop := s.rx.express.length ≤ 16 ∧ s.rx.bulk.length ≤ 32

/-- R169: at most 22 card entries, every other entry of one of the ten internal codes, no identity
twice. -/
structure OwnListBounded (s : Station) : Prop where
  card     : s.alarm.cardEntries ≤ Config.cardAlarms
  codes    : ∀ e ∈ s.alarm.own, cardCode e.code = true ∨ (1 ≤ e.code.toNat ∧ e.code.toNat ≤ 10)
  internal : (s.alarm.own.filter fun e => !cardCode e.code).Pairwise fun a b => a.code ≠ b.code
  distinct : s.alarm.own.Pairwise fun a b => (a.code, a.subject) ≠ (b.code, b.subject)

/-- R176: the view holds at most 128 entries, and no identity twice. -/
structure ViewBounded (s : Station) : Prop where
  size     : s.alarm.view.length ≤ Config.viewSize
  distinct : s.alarm.view.Pairwise fun a b => a.ident ≠ b.ident

/-- R177: every entry of the view comes before the ones behind it in the view order. -/
abbrev ViewOrdered (s : Station) : Prop := s.alarm.view.Pairwise fun a b => a.before b = true

/-- R183: the cursor holds the identity of an entry of the view, or END. -/
abbrev CursorInView (s : Station) : Prop :=
  ∀ i ∈ s.alarm.cursor, ∃ e ∈ s.alarm.view, e.ident = i

/-- R141: a bus source is PRESENT and not barred, and the servo follows the selector's source. -/
abbrev SourcePresent (s : Station) : Prop :=
  s.servo.source = s.sel.source ∧
    ∀ p, s.sel.source = .bus p → (s.peer p).state = .present ∧ (s.peer p).barred = false

/-- R143: outside a reset hold the station claims or beacons only while the beaconing condition holds. -/
abbrev BeaconsOnlyWhenAllowed (s : Station) : Prop :=
  s.hold = false → s.sel.beaconing ≠ .off → s.beaconCondition = true

/-- R30, R35, R43: the seat controller's counts, and the drain timer that runs in LEAVING alone. -/
abbrev SeatCounts (s : Station) : Prop :=
  s.seat.mismatch ≤ 2 ∧ s.seat.listenCount ≤ Config.listen ∧
    (s.seat.drain.isSome ↔ s.seat.state = .leaving)

/-- An invariant of the station that every step of the machine keeps. -/
def KeptByStep (inv : Station → Prop) : Prop :=
  ∀ s t : State, inv s.toStation → step s = .next t → inv t.toStation

end Sys2Proof.Safety
end

