-- ==== Sys2Proof/Certificates/Slice0/Obligations.lean ====
section
/-! DEFINITION. What the model owes: statements for the provers, in the order of the chapters. Where a
statement rests on a choice of the model's, its docstring names the log entry. -/

open Sys2Proof Sys2Proof.Machine Sys2Proof.Safety

namespace Sys2Proof.Slice0

/-- What follows an event that may change the offer: the offer renewed (R70), the pins judged afresh. -/
def closing (u : Station) : Station := u.renewOffer.drive

/-- The reply that the port holds after a request with this result and body (R188). -/
def replied (u : Station) (req : Instr) (r : Result) (b : Body) : Port :=
  { u.port with
    request := some req
    reply := some { result := r, causes := u.causes, body := b, wire := replyBytes r u.causes b } }

/-- The station after a request whose own effect left `u`. -/
def served (u : Station) (req : Instr) (r : Result) (b : Body) : Station :=
  ({ u with port := replied u req r b }).drive

/-- The port listens: no reset hold, and no RESTART waits for the end of its transaction (log 12). -/
abbrev Serving (s : State) : Prop := s.hold = false ∧ s.port.restartPending = false

/-- The command is a request (R206), or bytes that are none. -/
def isRequest : Instr → Bool
  | .unknownRequest _ _ | .configure _ | .send _ _ _ _ _ | .take _ | .reap | .viewStation | .viewRoster _
  | .viewQueues | .viewReference | .viewAlarms | .readHold | .readNext | .readPrev | .readAdvance
  | .readPeek _ | .seekFirst | .seekLast | .raise _ _ _ | .clear _ _ | .time | .externalTime _ | .release
  | .setPeriodic _ _ _ _ _ _ | .resetTraffic | .resetTiming | .resetView | .restart => true
  | _ => false

/-- The command is one of the four that begin or end a reset, or the fall of PWR_GOOD. -/
def isReset : Instr → Bool
  | .powerReset _ | .pinReset | .restartReset | .resetHoldEnd | .pwrGoodFalls => true
  | _ => false

/-- The command brings a new level of SEAT_N or LATCH_N. -/
def isPinLevel : Instr → Bool
  | .seatLost | .seatPresent | .latchOpens | .latchCloses => true
  | _ => false

/-- The own list without ALARM_VIEW_FULL, which a full view raises and a thinned view clears (R181). -/
def ownBut (u : Station) : List AlarmEntry := u.alarm.own.filter fun e => e.code != alarmViewFull

/-- R170: after an internal raise: unchanged when the code stands, otherwise with its entry appended. -/
def Raised (s u : Station) (code : Word16) (sev : Severity) : Prop :=
  ownBut u =
    if s.alarm.has code then ownBut s else ownBut s ++ [⟨code, sev, none, s.time.sec⟩]

/-- R170: after an internal clear. -/
def Cleared (s u : Station) (code : Word16) : Prop :=
  ownBut u = (ownBut s).filter fun e => e.code != code

/-- The first CONTROL entry that is not on the lane. -/
def nextControl (u : Station) : Option Entry := u.sched.control.find? fun e => !e.onLane

/-- R76: the record of a SEND frame that leaves its queue. -/
def recordOf (o : FrameOutcome) (e : Entry) : Option Completion :=
  e.tag.map fun tag => { tag := tag, outcome := o, attempts := e.attempts, lastStart := e.lastStart }

/-- R18: the attempt that a closing gate cuts, in CONTENDING or SENDING, with its frame. -/
def cutOf (s : Station) : Option (Attempt × Entry) :=
  match s.lane.attempt with
  | some a =>
    if a.phase = .awaitMarks then none
    else ((s.sched.queue a.queue).head?.filter Entry.onLane).map fun e => (a, e)
  | none => none

/-- R72, R80: the frame cut and its outcome; an attempt that has won its key is counted. -/
def cutFrame (a : Attempt) (e : Entry) : Entry × FrameOutcome :=
  (if a.phase = .contending then e
    else { e with attempts := e.attempts + 1, lastStart := a.start.or e.lastStart },
    e.pending.getD .flushed)

/-- R81: the frames that a closing gate takes from their queues, each with its outcome: the one cut, then those of
EXPRESS and then those of BULK that are not on the lane (that order: DESIGN CHOICE, log 39). -/
def gateDrops (s : Station) : List (Entry × FrameOutcome) :=
  ((cutOf s).map fun x => cutFrame x.1 x.2).toList ++
    ((s.sched.express ++ s.sched.bulk).filter fun e => !e.onLane).map fun e => (e, .flushed)

/-- R80, R81: what a closing gate leaves of a queue: a frame on the lane that is not cut, marked for its result. -/
def gateKeeps (s : Station) (q : FrameClass) : List Entry :=
  let l := match cutOf s with
    | some (a, _) => if a.queue = q then (s.sched.queue q).tail else s.sched.queue q
    | none => s.sched.queue q
  (l.filter Entry.onLane).map fun e => { e with pending := e.pending.or (some .flushed) }

/-- R86: a periodic copy of entry `i` is among the frames taken, and not delivered. -/
def DropsCopy (s : Station) (i : Fin 4) : Prop :=
  ∃ x ∈ gateDrops s, x.1.tag = none ∧ x.1.periodic = some i ∧ x.2 ≠ .delivered

/-- R18, R26, R76, R81, R86: what entering GONE, UNSEATED or CLASHED leaves of the lane interface's own side and of
the queues: no marks, no attempt but one in its end field, nothing driven there, the delimiter neither, TIMING and
CONTROL empty, every card frame gone but one that is on the lane and marked for its result. Every SEND frame taken
writes its record, FLUSHED or what an earlier flush had marked; a periodic copy taken marks its entry missed, and
sets the MISSED cause where it was not marked, unless the entry has been cleared since (R82). -/
def GateClosed (s t : Station) : Prop :=
  t.lane.marks = Marks.none ∧ t.lane.delimiter = false ∧ t.lane.endCells = List.replicate 10 true ∧
    t.lane.attempt = (s.lane.attempt.filter fun a => a.phase = .awaitMarks) ∧
    t.sched.timing = [] ∧ t.sched.control = [] ∧ t.sched.offer = none ∧
    t.sched.express = gateKeeps s .express ∧ t.sched.bulk = gateKeeps s .bulk ∧
    t.sched.completions =
      s.sched.completions ++ (gateDrops s).filterMap (fun x => recordOf x.2 x.1) ∧
    (∀ i, (DropsCopy s i ∧ (s.sched.periodic.get i).written = true →
        t.sched.periodic.get i = { s.sched.periodic.get i with missed := true }) ∧
      (¬ (DropsCopy s i ∧ (s.sched.periodic.get i).written = true) →
        t.sched.periodic.get i = s.sched.periodic.get i)) ∧
    (t.port.missedCause = true ↔ s.port.missedCause = true ∨
      ∃ i, (s.sched.periodic.get i).missed = false ∧ (t.sched.periodic.get i).missed = true) ∧
    t.sel.beaconing = .off ∧ t.roster = { s.roster with silence := none } ∧
    t.port.watchdog = .stopped ∧ t.port.seatCause = true ∧
    t.alarm.refresh = none ∧ t.alarm.stagger = none ∧ t.alarm.retry = none

/-- What no change of seat state touches: the window, the receive queues, the roster's records, the time
itself, the counters of the lane interface, and the station's own settings. -/
def SeatFrame (s t : Station) : Prop :=
  t.hold = s.hold ∧ t.localTime = s.localTime ∧ t.share = s.share ∧ t.rx = s.rx ∧
    t.roster.peers = s.roster.peers ∧ t.time = { s.time with a := t.time.a } ∧
    t.freeIdx = s.freeIdx ∧
    t.lane =
      { s.lane with
        attempt := t.lane.attempt, marks := t.lane.marks, delimiter := t.lane.delimiter } ∧
    t.servo.i = s.servo.i

end Sys2Proof.Slice0

open Sys2Proof.Slice0

/-! ### The machine -/

/-- A step runs the command at the front of the queue on the queue's rest. With an empty queue the part
idles (DESIGN CHOICE, log 1). -/
def Obligations.StepRunsTheFrontCommand : Prop :=
  (∀ (c : Instr) (s : State), step { s with pending := c :: s.pending } = exec c s) ∧
    ∀ s : State, s.pending = [] → step s = .next s

/-- Every command answers a next state and leaves the rest of the queue alone. -/
def Obligations.EveryCommandIsTaken : Prop :=
  ∀ (c : Instr) (s : State), ∃ t, exec c s = .next t ∧ t.pending = s.pending

/-! ### Resets (R18, R24, R25, R188) -/

namespace Sys2Proof.Slice0

/-- R18, R25: held in reset: no output driven, no mark and no delimiter, the attempt discarded. -/
def holding (s : Station) (pins : Pins) (seat : Seat) (port : Port) : Station :=
  { s with
    hold := true, pins := pins, seat := seat, port := port
    lane := { s.lane with attempt := none, marks := ⟨false, false, false⟩, delimiter := false }
    outs := ⟨false, false, false, false, false, false, false, false, false, false⟩ }

/-- R188: the transaction in progress abandoned. -/
def noTransaction (p : Port) : Port := { p with request := none, reply := none, restartPending := false }

/-- R65: the record of a peer after a reset. -/
def freshPeer (self : Bool) : Peer :=
  { state := if self then .self else .absent, since := 0, lastHeard := none, generation := none,
    cardType := none, cls := none, cardOk := none, lastJoin := none, lastSeq := none, beacon := none,
    alarms := ⟨none, [], false⟩, flaws := [], barredUntil := none }

/-- The tables of R23, R45, R65, R88, R102, R116, R133, R151, R168, R187, R202. -/
structure AtReset (t : Station) (slot : Slot) (cause : ResetCause) : Prop where
  lane : t.lane =
    { line := .listening, attempt := none, seqBeacon := 0, seqData := 0, seqMembership := 0, busyBt := 0,
      windowPeriods := 0, domRun := 0, stuckClear := none, rxKey := none, rxStamp := none,
      marks := ⟨false, false, false⟩, delimiter := false, endLeft := 0 }
  seat : t.seat =
    { state := .config, slot := slot, cause := cause, generation := 0, reachedActive := false,
      listenCount := 0, drain := none, handover := false, leavePlaced := false, leaveReason := none,
      mismatch := 0 }
  peers : ∀ p, t.peer p = freshPeer (decide (p = slot))
  silence : t.roster.silence = none
  queues : t.sched.timing = [] ∧ t.sched.control = [] ∧ t.sched.express = [] ∧ t.sched.bulk = [] ∧
    t.sched.completions = [] ∧ t.sched.offer = none ∧ t.sched.reserved = 0
  periodic : ∀ i, t.sched.periodic.get i =
    { skip := 255, phase := 0, dest := .all, tier := 0, payload := [], missed := false, written := false }
  share : t.share =
    { level := 0, lastBusy := none, tierLimit := 3, budget := 0, spentBulk := 0, spentExpress := 0,
      t0 := 0, t1 := 0, t2 := 0, t3 := 0, expressShare := 0 }
  rx : t.rx = { express := [], bulk := [], overrun := false }
  time : t.time =
    { sec := 0, ns := 0, frac := 0, a := 0, offset := 0, lastFrame := none, lastPps := none,
      resyncSub := false, resyncFrame := false, resyncPps := false, lastCount := none, stepCount := 0,
      lastStep := none, external := false, passOver := none, owedSub := [], owedFrame := [],
      owedPps := [], pulseSub := none, pulseFrame := none, pulsePps := none, pulseResync := none }
  sel : t.sel =
    { eligible := false, extPresent := false, cands := [], source := .none, lockedSource := none,
      lockRecord := none, standing := 15, announced := 15, beaconing := .off, claim := none,
      interval := none, previous := none, current := none, steppedPrevious := false,
      steppedCurrent := false, lastHandover := none }
  servo : t.servo =
    { state := .free, source := .none, i := 0, a := 0, lastSample := none, inCount := 0, outCount := 0,
      holdTimer := none, expired := false, unlocked := .stopped, announcement := none,
      extPresent := false, extLoss := none, pitch := 0, holdLimit := 0 }
  lists : t.alarm.own = [] ∧ t.alarm.ownSeq = 0 ∧ t.alarm.view = [] ∧ t.alarm.cursor = none ∧
    t.alarm.viewChanged = false ∧ t.alarm.relayCapable = false
  markers : ∀ p : Slot, t.alarm.markers.get p = .none
  timers : t.alarm.refresh = none ∧ t.alarm.stagger = none ∧ t.alarm.retry = none
  port : t.port =
    { request := none, reply := none, restartPending := false, seatCause := false, timingCause := false,
      missedCause := false, timeout := 0, watchdog := .stopped, cardOk := true, txRoom := 1,
      reapLevel := 1 }
  outs : t.outs = ⟨false, false, false, false, false, false, false, false, false, false⟩
  running : t.hold = false ∧ t.localTime = 0

end Sys2Proof.Slice0

/-- R18, R24, R25: POWER latches the straps and PIN keeps the latched slot, each records its cause; these and the fall
of PWR_GOOD hold the part with no output driven and the attempt discarded, whatever RESET_N is (DEDUCED, log 14) and
also where the pin already stood so (DESIGN CHOICE, log 13). A part held in reset takes no event but the resets; the
levels of SEAT_N and LATCH_N are recorded and nothing else (DESIGN CHOICE, log 13). -/
def Obligations.ResetCausesHoldThePart : Prop :=
  ∀ s : State,
    (∀ straps : Slot, exec (.powerReset straps) s =
      .next { s with
        toStation := holding s.toStation { s.pins with pwrGood := true }
          { s.seat with slot := straps, cause := .power } (noTransaction s.port) }) ∧
    exec .pinReset s =
      .next { s with
        toStation := holding s.toStation { s.pins with resetAsserted := true }
          { s.seat with cause := .pin } (noTransaction s.port) } ∧
    exec .pwrGoodFalls s =
      .next { s with toStation := holding s.toStation { s.pins with pwrGood := false } s.seat s.port } ∧
    (s.hold = true →
      (∀ c : Instr, isReset c = false → isPinLevel c = false → exec c s = .next s) ∧
      exec .seatLost s =
        .next { s with toStation := { s.toStation with pins := { s.pins with seatPresent := false } } } ∧
      exec .seatPresent s =
        .next { s with toStation := { s.toStation with pins := { s.pins with seatPresent := true } } } ∧
      exec .latchOpens s =
        .next { s with toStation := { s.toStation with pins := { s.pins with latchClosed := false } } } ∧
      exec .latchCloses s =
        .next { s with toStation := { s.toStation with pins := { s.pins with latchClosed := true } } })

/-- R25 and the reset table of every chapter: the end of the hold, and RESTART_RESET where no hold runs,
leave the reset values, with the slot kept and the cause as recorded. That a hold goes on while PWR_GOOD
is low, and what a RESTART does in a hold, is stated too (DEDUCED, log 14). Without a RESTART waiting,
RESTART_RESET changes nothing (DESIGN CHOICE, log 3). Local time starts again at 0, after a RESTART too (DESIGN
CHOICE, log 38). -/
def Obligations.HoldEndGivesTheResetValues : Prop :=
  ∀ s : State,
    (s.hold = true → s.pins.pwrGood = true →
      ∃ t, exec .resetHoldEnd s = .next t ∧ AtReset t.toStation s.seat.slot s.seat.cause ∧
        t.pins = { s.pins with resetAsserted := false } ∧ t.freeIdx = s.freeIdx) ∧
    (s.hold = true → s.pins.pwrGood = false →
      exec .resetHoldEnd s =
        .next { s with toStation := { s.toStation with pins := { s.pins with resetAsserted := false } } }) ∧
    (s.port.restartPending = true → s.hold = false →
      ∃ t, exec .restartReset s = .next t ∧ AtReset t.toStation s.seat.slot .restart ∧ t.pins = s.pins ∧
        t.freeIdx = s.freeIdx) ∧
    (s.port.restartPending = true → s.hold = true →
      exec .restartReset s =
        .next { s with
          toStation := { s.toStation with
            seat := { s.seat with cause := .restart }, port := noTransaction s.port } }) ∧
    (s.port.restartPending = false → exec .restartReset s = .next s)

/-! ### Seat states (R28 to R44) -/

/-- R40: SEAT lost takes every state but CONFIG, UNSEATED and CLASHED to UNSEATED, and moves nothing in those three.
R37: the drain timer at 50 ms takes LEAVING to GONE. R18: from then on nothing is driven, the end delimiter neither;
an attempt in CONTENDING or SENDING is cut, and one in its end field runs to its result. A level of SEAT recorded
before moves the seat again (DESIGN CHOICE, log 13), and an expiry that comes late acts (DESIGN CHOICE, log 4). The
card frames taken write their records, and their copies mark their entries missed (R76, R81, R86), the frame cut
first, then EXPRESS, then BULK (DESIGN CHOICE, log 39). (The listen count is discarded, DESIGN CHOICE, and the clean
report of a cut attempt is not counted, DEDUCED: log 37.) -/
def Obligations.SeatLostAndDrainEndCloseTheGate : Prop :=
  ∀ s : State, s.hold = false →
    (s.seat.state ≠ .config → s.seat.state ≠ .unseated → s.seat.state ≠ .clashed →
      ∃ t, exec .seatLost s = .next t ∧
        t.seat = { s.seat with state := .unseated, listenCount := 0, drain := none } ∧
        t.pins = { s.pins with seatPresent := false } ∧ t.outs.safe = false ∧
        GateClosed s.toStation t.toStation ∧ SeatFrame s.toStation t.toStation) ∧
    (s.seat.state = .config ∨ s.seat.state = .unseated ∨ s.seat.state = .clashed →
      exec .seatLost s =
        .next { s with
          toStation := { s.toStation with pins := { s.pins with seatPresent := false } } }) ∧
    (∀ start, s.seat.state = .leaving → s.seat.drain = some start →
      start + 5000000 ≤ s.localTime →
      ∃ t, exec .drain50ms s = .next t ∧
        t.seat = { s.seat with state := .gone, listenCount := 0, drain := none } ∧ t.pins = s.pins ∧
        t.outs.safe = true ∧ GateClosed s.toStation t.toStation ∧ SeatFrame s.toStation t.toStation)

/-- R2, R12, R14, R42, R44: a key heard while this station does not send. One of another slot makes the line BODY,
with the key held, and moves nothing else. One with this station's slot takes LISTEN, JOINING, ACTIVE and LEAVING to
CLASHED with SLOT_CLASH raised, and in LISTEN the listen count is discarded (the worked sequence of 2.8); in the other
seat states only the line moves. (Outside LISTEN the listen count is 0: DESIGN CHOICE, log 37. The records of EXPRESS
come before those of BULK: DESIGN CHOICE, log 39.) -/
def Obligations.KeysHeardMoveTheLineAndOwnOnesClash : Prop :=
  ∀ (s : State) (key : Byte), s.hold = false → s.lane.line = .key → s.lane.attempt = none →
    (keySlot key ≠ s.seat.slot →
      exec (.keyComplete key) s =
        .next { s with
          toStation := closing
            { s.toStation with lane := { s.lane with line := .body, rxKey := some key } } }) ∧
    (keySlot key = s.seat.slot →
      (s.seat.state = .listen ∨ s.seat.state = .joining ∨ s.seat.state = .active ∨
          s.seat.state = .leaving →
        ∃ t, exec (.keyComplete key) s = .next t ∧
          t.seat = { s.seat with state := .clashed, listenCount := 0, drain := none } ∧
          t.lane.line = .body ∧ t.lane.rxKey = some key ∧
          GateClosed s.toStation t.toStation ∧
          SeatFrame { s.toStation with lane := { s.lane with line := .body, rxKey := some key } }
            t.toStation ∧
          t.alarm.has slotClash = true) ∧
      (s.seat.state = .config ∨ s.seat.state = .waitSeat ∨ s.seat.state = .gone ∨
          s.seat.state = .unseated ∨ s.seat.state = .clashed →
        exec (.keyComplete key) s =
          .next { s with
            toStation := closing
              { s.toStation with lane := { s.lane with line := .body, rxKey := some key } } }))

/-- R29, R38, R41: SEAT present with LATCH closed, whichever completes the pair, begins LISTEN in WAIT_SEAT
and UNSEATED; LATCH closing with SEAT present does so in LEAVING and GONE too. The count starts at 0, card
frames stay queued, and no LEAVE stays that is not on the lane. Otherwise only the level is recorded. A
level recorded before, a second LATCH closed in LEAVING or GONE among them, acts as one that is new (DESIGN
CHOICE, log 13). -/
def Obligations.CompletingThePairBeginsListening : Prop :=
  ∀ s : State, s.hold = false →
    (s.pins.latchClosed = true → (s.seat.state = .waitSeat ∨ s.seat.state = .unseated) →
      ∃ t, exec .seatPresent s = .next t ∧
        t.seat = { s.seat with state := .listen, listenCount := 0, drain := none } ∧
        t.pins = { s.pins with seatPresent := true } ∧
        t.sched.express = s.sched.express ∧ t.sched.bulk = s.sched.bulk ∧
        t.sched.completions = s.sched.completions ∧ t.lane.attempt = s.lane.attempt ∧
        t.lane.marks = Marks.none ∧ t.lane.delimiter = s.lane.delimiter ∧ t.port.seatCause = true ∧
        SeatFrame s.toStation t.toStation) ∧
    (s.pins.seatPresent = true →
      (s.seat.state = .waitSeat ∨ s.seat.state = .unseated ∨ s.seat.state = .leaving ∨
        s.seat.state = .gone) →
      ∃ t, exec .latchCloses s = .next t ∧
        t.seat = { s.seat with state := .listen, listenCount := 0, drain := none } ∧
        t.pins = { s.pins with latchClosed := true } ∧ t.outs.safe = false ∧
        t.sched.express = s.sched.express ∧ t.sched.bulk = s.sched.bulk ∧
        t.sched.completions = s.sched.completions ∧ t.lane.attempt = s.lane.attempt ∧
        t.lane.marks = Marks.none ∧ t.lane.delimiter = s.lane.delimiter ∧ t.port.seatCause = true ∧
        (∀ e ∈ t.sched.control, e.kind = .leave → e.onLane = true ∧ e.withdrawn = true) ∧
        SeatFrame s.toStation t.toStation) ∧
    (s.pins.latchClosed = false ∨ s.seat.state ≠ .waitSeat ∧ s.seat.state ≠ .unseated →
      exec .seatPresent s =
        .next { s with toStation := { s.toStation with pins := { s.pins with seatPresent := true } } }) ∧
    (s.pins.seatPresent = false ∨ s.seat.state = .config ∨ s.seat.state = .listen ∨
        s.seat.state = .joining ∨ s.seat.state = .active ∨ s.seat.state = .clashed →
      exec .latchCloses s =
        .next { s with toStation := { s.toStation with pins := { s.pins with latchClosed := true } } })

namespace Sys2Proof.Slice0

/-- R35: LEAVING with its reason: the handover flag from the beaconing state before, the drain timer at 0,
no LEAVE placed; beaconing stops, EXPRESS frames stay. -/
def BeganLeaving (s t : Station) (reason : LeaveReason) : Prop :=
  t.seat =
    { s.seat with
      state := .leaving, listenCount := 0, handover := decide (s.sel.beaconing = .on)
      drain := some s.localTime, leavePlaced := false, leaveReason := some reason } ∧
    t.sel.beaconing = .off ∧ t.sched.express = s.sched.express ∧ t.lane.attempt = s.lane.attempt ∧
    t.lane.marks = s.lane.marks ∧ t.lane.delimiter = s.lane.delimiter ∧
    t.roster.silence = none ∧ t.port.watchdog = .stopped ∧ t.port.seatCause = true ∧
    SeatFrame s t

end Sys2Proof.Slice0

/-- R30, R34, R35: LATCH opening takes LISTEN to WAIT_SEAT with the count discarded, and JOINING and ACTIVE to LEAVING
with reason LATCH; in JOINING no JOIN stays that is not on the lane. In the other states only the level is recorded. A
level recorded before acts as one that is new (DESIGN CHOICE, log 13). R35, R198: RELEASE takes ACTIVE to LEAVING with
reason RELEASE; in every other seat state it is refused NOT_NOW and changes nothing more than every request does.
(CARD_UNRESPONSIVE is cleared before the request's own effect: DESIGN CHOICE, log 42.) (Outside LISTEN the listen
count is 0: DESIGN CHOICE, log 37.) -/
def Obligations.LatchOpeningAndReleaseBeginLeaving : Prop :=
  (∀ s : State, s.hold = false →
    (s.seat.state = .listen →
      ∃ t, exec .latchOpens s = .next t ∧
        t.seat = { s.seat with state := .waitSeat, listenCount := 0, drain := none } ∧
        t.pins = { s.pins with latchClosed := false } ∧ t.lane.attempt = s.lane.attempt ∧
        t.lane.marks = Marks.none ∧ t.lane.delimiter = s.lane.delimiter ∧
        SeatFrame s.toStation t.toStation) ∧
    (s.seat.state = .active →
      ∃ t, exec .latchOpens s = .next t ∧ BeganLeaving s.toStation t.toStation .latch ∧
        t.pins = { s.pins with latchClosed := false }) ∧
    (s.seat.state = .joining →
      ∃ t, exec .latchOpens s = .next t ∧ BeganLeaving s.toStation t.toStation .latch ∧
        t.pins = { s.pins with latchClosed := false } ∧
        ∀ e ∈ t.sched.control, e.kind = .join → e.onLane = true ∧ e.withdrawn = true) ∧
    (s.seat.state ≠ .listen → s.seat.state ≠ .active → s.seat.state ≠ .joining →
      exec .latchOpens s =
        .next { s with
          toStation := { s.toStation with pins := { s.pins with latchClosed := false } } })) ∧
  ∀ s : State, Serving s →
    (s.seat.state = .active →
      ∃ t, exec .release s = .next t ∧ BeganLeaving s.cardAlive t.toStation .release ∧
        t.pins = s.pins ∧
        t.port.request = some .release ∧ (t.port.reply.map fun r => (r.result, r.body)) = some (.ok, .empty)) ∧
    (s.seat.state ≠ .active →
      exec .release s = .next { s with toStation := served s.cardAlive .release .notNow .empty })

/-- R30, R31: the listen count at 300 ms makes LISTEN JOINING: the generation raised by one, the mismatch count
0, a JOIN first in CONTROL behind what is on the lane. Before 300 ms nothing happens (DESIGN CHOICE, log 3).
(The listen count is discarded: DESIGN CHOICE, log 37.) -/
def Obligations.ListenCompleteJoins : Prop :=
  ∀ s : State, s.hold = false → s.seat.state = .listen →
    (30000000 ≤ s.seat.listenCount →
      ∃ t, exec .listenComplete s = .next t ∧
        t.seat =
          { s.seat with
            state := .joining, listenCount := 0, generation := s.seat.generation + 1, mismatch := 0
            drain := none } ∧
        t.pins = s.pins ∧
        nextControl t.toStation = some (Entry.placed .join .all 0 [] none none) ∧
        t.sched.express = s.sched.express ∧ t.sched.bulk = s.sched.bulk ∧
        t.sched.completions = s.sched.completions ∧ t.lane.attempt = s.lane.attempt ∧
        t.lane.marks = s.lane.marks ∧ t.lane.delimiter = s.lane.delimiter ∧ t.port.seatCause = true ∧
        SeatFrame s.toStation t.toStation) ∧
    (s.seat.listenCount < 30000000 → exec .listenComplete s = .next s)

/-- R36: in LEAVING with the LEAVE not yet placed, drained queues with no attempt, or the drain timer at
40 ms, place the LEAVE first in CONTROL behind what is on the lane, and stop the timers that place ALARM
frames (R174); the card frames still queued stay where they are. Before 40 ms the mark does nothing
(DESIGN CHOICE, log 3), and a mark that comes late acts (DESIGN CHOICE, log 4). -/
def Obligations.LeaveIsPlacedWhenDrainedOrAt40ms : Prop :=
  ∀ (s : State) (start : Nat), s.hold = false → s.seat.state = .leaving → s.seat.leavePlaced = false →
    s.seat.drain = some start →
    (s.sched.timing = [] → s.sched.control = [] → s.sched.express = [] → s.sched.bulk = [] →
      s.lane.attempt = none →
      exec .leavePlaced s =
        .next { s with
          toStation := closing
            { s.toStation with
              seat := { s.seat with leavePlaced := true }
              alarm := { s.alarm with refresh := none, stagger := none, retry := none }
              sched := { s.sched with control := [Entry.placed .leave .all 0 [] none none] } } }) ∧
    (start + 4000000 ≤ s.localTime →
      ∃ t, exec .drain40ms s = .next t ∧
        t.seat = { s.seat with leavePlaced := true } ∧
        nextControl t.toStation = some (Entry.placed .leave .all 0 [] none none) ∧
        t.sched.timing = s.sched.timing ∧ t.sched.express = s.sched.express ∧
        t.sched.bulk = s.sched.bulk ∧ t.sched.completions = s.sched.completions ∧
        t.toStation =
          { s.toStation with
            seat := t.seat, sched := { s.sched with control := t.sched.control, offer := t.sched.offer }
            alarm := { s.alarm with refresh := none, stagger := none, retry := none }
            outs := t.outs }) ∧
    (s.localTime < start + 4000000 → exec .drain40ms s = .next s)

/-! ### Cabinet time, strobes and the budget window (R21, R22, R84 to R95, R117 to R123) -/

namespace Sys2Proof.Slice0

/-- Cabinet time in fraction units (R117). -/
def inFractions (t : TimeBase) : Int :=
  ((t.sec : Int) * 1000000000 + t.ns) * 4294967296 + t.frac

/-- R120: `b` is a boundary of the grid of this offset and spacing. -/
def OnGrid (b offset spacing : Nat) : Prop := (b + Config.timeRange - offset) % spacing = 0

/-- R121: `b` is an instant of the grid that lies after `t0` and at or before `t0 + advance`. -/
def CrossedAt (t0 advance offset spacing b : Nat) : Prop :=
  t0 < b ∧ b ≤ t0 + advance ∧ OnGrid b offset spacing

/-- R121, R122: from one list of strobes owed to the next, a strobe for the instant `b` is added, and takes the
RESYNC mark that was pending. -/
def OwesFor (b : Nat) (owed owed' : List Owed) (mark mark' : Bool) (count : Nat → Prop) : Prop :=
  ∃ o, owed' = owed ++ [o] ∧ o.boundary.total = b % Config.timeRange ∧ o.boundary.ns < 1000000000 ∧
    count o.count ∧ o.resync = mark ∧ mark' = false

end Sys2Proof.Slice0

/-- R118: at each local period cabinet time, modulo its range, grows by
42,949,672,960 + trunc(A × 42,949,672,960 / 10^9) fraction units, at least one nanosecond; A is the one
last handed over, whatever the servo's state and the seat state. The other counts of the period (R19, R21,
R30) follow: occupied byte slots, of which one begins at every even local time (DESIGN CHOICE, log 6), periods,
the dominant run, and the listen count, which stops at its end (DESIGN CHOICE, log 4). Where the byte times of
an own frame and of an end field end is counted from the command that began them (DESIGN CHOICE, logs 7 and 8). -/
def Obligations.LocalPeriodAdvancesTime : Prop :=
  ∀ (s : State) (level : LaneLevel), s.hold = false → -100000 ≤ s.time.a → s.time.a ≤ 100000 →
    4294967296 ≤ 42949672960 + (s.time.a * 42949672960).tdiv 1000000000 ∧
    ∃ t, exec (.localPeriod level) s = .next t ∧
      inFractions t.time =
        (inFractions s.time + (42949672960 + (s.time.a * 42949672960).tdiv 1000000000)) %
          (4294967296 * 1000000000 * 4294967296) ∧
      t.time.frac < 4294967296 ∧ t.time.ns < 1000000000 ∧ t.time.sec < 4294967296 ∧
      t.time.a = s.time.a ∧ t.localTime = s.localTime + 1 ∧
      t.lane.windowPeriods = s.lane.windowPeriods + 1 ∧
      t.lane.busyBt = s.lane.busyBt +
        (if s.localTime % 2 = 0 ∧
            (s.lane.line = .key ∨ s.lane.line = .body ∨ s.lane.line = .endField ∨ s.lane.line = .gap ∨
              level ≠ .recessive)
          then 1 else 0) ∧
      t.lane.domRun = (if level = .dominant then s.lane.domRun + 1 else 0) ∧
      t.seat.listenCount = s.seat.listenCount +
        (if s.seat.state = .listen ∧ s.lane.line ≠ .stuck ∧ s.seat.listenCount < 30000000 then 1 else 0) ∧
      t.toStation =
        { s.toStation with
          localTime := t.localTime, lane := t.lane, time := t.time, outs := t.outs
          seat := { s.seat with listenCount := t.seat.listenCount } }

/-- R120, R121, R123: a local period owes a subframe strobe for the instant of the subframe grid that lies after the
time before it and at or before the time after it, a PPS strobe for such a whole second, and a frame strobe for such
an instant of the frame grid, which has the count floor((T − offset) / 10^7) of that instant; with no such instant it
owes none. After a re-alignment the frame strobe is owed when that count exceeds the last by one, and the instant is
passed over otherwise (R124; of a count that is neither the last nor that, DEDUCED, log 29). Each strobe takes the
RESYNC mark of its kind that was pending. That the mark is taken at the crossing and the pulse comes with the strobe's
own command is the model's choice (DESIGN CHOICE, log 5). -/
def Obligations.CrossedBoundariesOweStrobes : Prop :=
  ∀ (s : State) (level : LaneLevel), s.hold = false → TimeInRange s.toStation →
    -100000 ≤ s.time.a → s.time.a ≤ 100000 →
    ∃ t advance, exec (.localPeriod level) s = .next t ∧
      t.time.total = (s.time.total + advance) % Config.timeRange ∧ 1 ≤ advance ∧ advance < 12 ∧
      (∀ b, CrossedAt s.time.total advance s.time.offset 1000000 b →
        OwesFor b s.time.owedSub t.time.owedSub s.time.resyncSub t.time.resyncSub fun _ => True) ∧
      ((∀ b, ¬ CrossedAt s.time.total advance s.time.offset 1000000 b) →
        t.time.owedSub = s.time.owedSub ∧ t.time.resyncSub = s.time.resyncSub) ∧
      (∀ b, CrossedAt s.time.total advance 0 1000000000 b →
        OwesFor b s.time.owedPps t.time.owedPps s.time.resyncPps t.time.resyncPps fun _ => True) ∧
      ((∀ b, ¬ CrossedAt s.time.total advance 0 1000000000 b) →
        t.time.owedPps = s.time.owedPps ∧ t.time.resyncPps = s.time.resyncPps) ∧
      (∀ b, CrossedAt s.time.total advance s.time.offset 10000000 b →
        let count := (b + Config.timeRange - s.time.offset) % Config.timeRange / 10000000
        ((∀ last, s.time.passOver = some last → count = (last + 1) % 429496729600) →
          OwesFor b s.time.owedFrame t.time.owedFrame s.time.resyncFrame t.time.resyncFrame
              (fun n => n = count) ∧
            t.time.passOver = none) ∧
        (∀ last, s.time.passOver = some last → count ≠ (last + 1) % 429496729600 →
          t.time.owedFrame = s.time.owedFrame ∧ t.time.resyncFrame = s.time.resyncFrame ∧
            t.time.passOver = s.time.passOver)) ∧
      ((∀ b, ¬ CrossedAt s.time.total advance s.time.offset 10000000 b) →
        t.time.owedFrame = s.time.owedFrame ∧ t.time.resyncFrame = s.time.resyncFrame ∧
          t.time.passOver = s.time.passOver)

namespace Sys2Proof.Slice0

/-- R122: the pulse that a strobe starts at local time `now` on a pin whose pulse was `old`: 100 local periods,
one period later where the old pulse has not ended. -/
def pulseAt (old : Option Pulse) (now : Nat) : Pulse :=
  if old = none then ⟨now, now + 100⟩ else ⟨now + 1, now + 101⟩

/-- R122: RESYNC with a strobe of pulse `p` at local time `now`: an unmarked strobe leaves it; a marked one that
finds it deasserted has the strobe's own periods, one that finds it asserted from an earlier instant begins it
afresh, and strobes of one instant share one pulse. -/
def ResyncWith (old new : Option Pulse) (p : Pulse) (now : Nat) (marked : Bool) : Prop :=
  (marked = false → new = old) ∧
    (marked = true → old = none → new = some p) ∧
    (marked = true → ∀ r, old = some r →
      (r.first < now → new = some ⟨now + 1, now + 101⟩) ∧ (now ≤ r.first → new = old))

end Sys2Proof.Slice0

/-- R22, R91, R92, R94: a subframe strobe ends the window: the level from busy256 unless the window was
short, both spent counters 0, the measurement from 0, and an attempt in progress no longer charged
to a window's counter (R95). R122: its pin is pulsed for 100 local periods, RESYNC with it where it is marked.
That the command emits the oldest strobe owed is the model's choice (DESIGN CHOICE, log 5), and so is that a pulse
not yet ended leaves its pin asserted, and that RESYNC keeps its gap where the own pin is deasserted (DESIGN CHOICE,
log 4). -/
def Obligations.SubframeStrobeStartsAWindow : Prop :=
  ∀ s : State, s.hold = false → s.time.owedSub ≠ [] →
    ∃ t, exec .subframeStrobe s = .next t ∧
      (12500 ≤ (s.lane.windowPeriods + 1) / 2 →
        ∃ busy256, busy256 = s.lane.busyBt * 256 / ((s.lane.windowPeriods + 1) / 2) ∧
          t.share.lastBusy = some busy256 ∧
          (busy256 ≤ 153 → t.share.level = 0) ∧
          (154 ≤ busy256 → busy256 ≤ 191 → t.share.level = 1) ∧
          (192 ≤ busy256 → busy256 ≤ 229 → t.share.level = 2) ∧
          (230 ≤ busy256 → t.share.level = 3)) ∧
      ((s.lane.windowPeriods + 1) / 2 < 12500 →
        t.share.lastBusy = s.share.lastBusy ∧ t.share.level = s.share.level) ∧
      t.share =
        { s.share with
          level := t.share.level, lastBusy := t.share.lastBusy, tierLimit := t.share.tierLimit
          budget := t.share.budget, spentBulk := 0, spentExpress := 0 } ∧
      t.lane =
        { s.lane with
          busyBt := 0, windowPeriods := 0
          attempt := s.lane.attempt.map fun a => { a with windowEnded := true } } ∧
      (∀ o rest, s.time.owedSub = o :: rest →
        t.time =
          { s.time with
            owedSub := rest, pulseSub := some (pulseAt s.time.pulseSub s.localTime)
            pulseResync := t.time.pulseResync } ∧
        ResyncWith s.time.pulseResync t.time.pulseResync (pulseAt s.time.pulseSub s.localTime)
          s.localTime o.resync) ∧
      (s.time.pulseSub = none → t.outs.subframeStb = true) ∧
      (s.time.pulseSub ≠ none → t.outs.subframeStb = false) ∧
      t.toStation =
        { s.toStation with
          time := t.time, share := t.share, lane := t.lane, outs := t.outs
          sched := t.sched, port := { s.port with missedCause := t.port.missedCause } } ∧
      t.sched.express = s.sched.express ∧ t.sched.control = s.sched.control ∧
      t.sched.timing = s.sched.timing

/-- R93: after every window start the tier limit is 3 − L and the budget the tier target of that index; no
other command but a reset changes L, the tier limit or the budget. -/
def Obligations.LimitAndBudgetFollowTheLevelAlone : Prop :=
  ∀ s : State,
    (s.hold = false → s.time.owedSub ≠ [] →
      ∃ t, exec .subframeStrobe s = .next t ∧
        (t.share.level = 0 → t.share.tierLimit = 3 ∧ t.share.budget = s.share.t3) ∧
        (t.share.level = 1 → t.share.tierLimit = 2 ∧ t.share.budget = s.share.t2) ∧
        (t.share.level = 2 → t.share.tierLimit = 1 ∧ t.share.budget = s.share.t1) ∧
        (t.share.level = 3 → t.share.tierLimit = 0 ∧ t.share.budget = s.share.t0) ∧
        (s.share.level ≤ 3 → t.share.level ≤ 3)) ∧
    ∀ c : Instr, c ≠ .subframeStrobe → isReset c = false →
      ∃ t, exec c s = .next t ∧ t.share.level = s.share.level ∧
        t.share.tierLimit = s.share.tierLimit ∧ t.share.budget = s.share.budget

namespace Sys2Proof.Slice0

/-- R84: the copy that a periodic entry releases. -/
def copyOf (s : Station) (i : Fin 4) : Entry :=
  let e := s.sched.periodic.get i
  { kind := .data, dest := e.dest, tier := e.tier, payload := e.payload, tag := none, periodic := some i,
    seq := none, patience := 3, attempts := 0, faults := 0, refusals := 0, backoff := none, onLane := false,
    pending := none, withdrawn := false, lastStart := none }

/-- R84: the entries due at a frame count, in index order. -/
def dueAt (s : Station) (count : Nat) : List (Fin 4) :=
  [(0 : Fin 4), 1, 2, 3].filter fun i =>
    let e := s.sched.periodic.get i
    decide (e.skip < 255) && decide (count % (e.skip + 1) = e.phase)

/-- R85: the destination is a slot that is ABSENT or LEFT. -/
def goneDest (s : Station) (d : Dest) : Bool :=
  match d with
  | .slot p => (s.peer p).state = .absent || (s.peer p).state = .left
  | .all => false

end Sys2Proof.Slice0

/-- R84, R85, R121, R123: a frame strobe records its boundary and count, and every due periodic entry releases a copy
at the tail of EXPRESS in index order, as far as there is room, or is marked missed where the seat state is not
ACTIVE, the destination is ABSENT or LEFT, or EXPRESS holds 16 entries, earlier copies of this strobe among them;
nothing else of an entry changes, and of a released entry nothing. R122: its pin is pulsed for 100 local periods,
RESYNC with it where it is marked. That the command emits the oldest strobe owed is the model's choice (DESIGN CHOICE,
log 5), and so is that a pulse not yet ended leaves its pin asserted, and that RESYNC keeps its gap where the own pin
is deasserted (DESIGN CHOICE, log 4). (No periodic copy is in BULK, where it could be shed: R84 places them in
EXPRESS.) -/
def Obligations.FrameStrobeReleasesDueEntries : Prop :=
  ∀ (s : State) (o : Owed) (rest : List Owed), s.hold = false → s.time.owedFrame = o :: rest →
    let goes := (dueAt s.toStation o.count).filter fun i =>
      !goneDest s.toStation (s.sched.periodic.get i).dest
    let released := if s.seat.state = .active then goes.take (16 - s.sched.express.length) else []
    ∃ t, exec .frameStrobe s = .next t ∧
      t.time =
        { s.time with
          lastFrame := some o.boundary, lastCount := some o.count, owedFrame := rest
          pulseFrame := some (pulseAt s.time.pulseFrame s.localTime)
          pulseResync := t.time.pulseResync } ∧
      ResyncWith s.time.pulseResync t.time.pulseResync (pulseAt s.time.pulseFrame s.localTime)
        s.localTime o.resync ∧
      (s.time.pulseFrame = none → t.outs.frameStb = true) ∧
      (s.time.pulseFrame ≠ none → t.outs.frameStb = false) ∧
      (s.seat.state = .active →
        t.sched.express = s.sched.express ++ released.map (copyOf s.toStation)) ∧
      (s.seat.state ≠ .active → t.sched.express = s.sched.express) ∧
      ((∀ e ∈ s.sched.bulk, e.periodic = none) →
        (∀ i ∈ dueAt s.toStation o.count, i ∉ released →
          t.sched.periodic.get i = { s.sched.periodic.get i with missed := true } ∧
            ((s.sched.periodic.get i).missed = false → t.port.missedCause = true)) ∧
        (∀ i, i ∉ dueAt s.toStation o.count ∨ i ∈ released →
          t.sched.periodic.get i = s.sched.periodic.get i)) ∧
      t.sched.timing = s.sched.timing ∧ t.sched.control = s.sched.control ∧
      t.toStation =
        { s.toStation with
          time := t.time, sched := t.sched, outs := t.outs
          port := { s.port with missedCause := t.port.missedCause } }

/-- R121, R122: a PPS strobe records its boundary and pulses its pin for 100 local periods, RESYNC with it where
it is marked; the end of a pulse deasserts its pin, and does nothing before 100 periods are over (DESIGN CHOICE,
log 3). That the command emits the oldest strobe owed (log 5), that an end that comes late acts, that a
pulse not yet ended leaves its pin asserted, and that RESYNC keeps its gap where the own pin is deasserted (log 4)
are the model's choices (DESIGN CHOICE). -/
def Obligations.PpsStrobePulsesItsPin : Prop :=
  ∀ s : State, s.hold = false →
    (∀ (o : Owed) (rest : List Owed), s.time.owedPps = o :: rest →
      ∃ t, exec .ppsStrobe s = .next t ∧
        t.time.lastPps = some o.boundary ∧ t.time.owedPps = rest ∧
        t.time.pulsePps = some (pulseAt s.time.pulsePps s.localTime) ∧
        (s.time.pulsePps = none → t.outs.ppsOut = true) ∧
        (s.time.pulsePps ≠ none → t.outs.ppsOut = false) ∧
        ResyncWith s.time.pulseResync t.time.pulseResync (pulseAt s.time.pulsePps s.localTime)
          s.localTime o.resync ∧
        (o.resync = true → s.time.pulseResync = none → s.time.pulsePps = none → t.outs.resync = true) ∧
        t.toStation =
          { s.toStation with
            outs := t.outs
            time :=
              { s.time with
                owedPps := rest, lastPps := some o.boundary, pulsePps := t.time.pulsePps
                pulseResync := t.time.pulseResync } }) ∧
    (∀ p : Pulse,
      (s.time.pulsePps = some p →
        (p.last ≤ s.localTime →
          ∃ t, exec (.strobePulseEnd .pps) s = .next t ∧ t.outs.ppsOut = false ∧
            t.time = { s.time with pulsePps := none }) ∧
        (s.localTime < p.last →
          exec (.strobePulseEnd .pps) s = .next { s with toStation := s.toStation.drive })) ∧
      (s.time.pulseFrame = some p →
        (p.last ≤ s.localTime →
          ∃ t, exec (.strobePulseEnd .frame) s = .next t ∧ t.outs.frameStb = false ∧
            t.time = { s.time with pulseFrame := none }) ∧
        (s.localTime < p.last →
          exec (.strobePulseEnd .frame) s = .next { s with toStation := s.toStation.drive })) ∧
      (s.time.pulseSub = some p →
        (p.last ≤ s.localTime →
          ∃ t, exec (.strobePulseEnd .subframe) s = .next t ∧ t.outs.subframeStb = false ∧
            t.time = { s.time with pulseSub := none }) ∧
        (s.localTime < p.last →
          exec (.strobePulseEnd .subframe) s = .next { s with toStation := s.toStation.drive })) ∧
      (s.time.pulseResync = some p →
        (p.last ≤ s.localTime →
          ∃ t, exec (.strobePulseEnd .resync) s = .next t ∧ t.outs.resync = false ∧
            t.time = { s.time with pulseResync := none }) ∧
        (s.localTime < p.last →
          exec (.strobePulseEnd .resync) s = .next { s with toStation := s.toStation.drive }))) ∧
    ∀ pin : StrobePin, ∃ t, exec (.strobePulseEnd pin) s = .next t ∧
      t.toStation =
        { s.toStation with
          outs := t.outs
          time :=
            { s.time with
              pulseSub := t.time.pulseSub, pulseFrame := t.time.pulseFrame, pulsePps := t.time.pulsePps
              pulseResync := t.time.pulseResync } }

/-! ### The lane: openings, contention, readback (R2 to R20, R69 to R75, R95, R97) -/

namespace Sys2Proof.Slice0

/-- R69: a head may be offered. -/
def MayGo (u : Station) (q : FrameClass) (e : Entry) : Prop :=
  e.onLane = false ∧
    match q with
    | .timing => u.seat.state = .active ∨ u.seat.state = .leaving
    | .control => u.seat.state = .joining ∨ u.seat.state = .active ∨ u.seat.state = .leaving
    | .express =>
      (u.seat.state = .active ∨ u.seat.state = .leaving ∧ u.seat.leavePlaced = false) ∧
        e.backoff = none ∧ (u.share.expressShare = 0 ∨ u.share.spentExpress < u.share.expressShare)
    | .bulk =>
      (u.seat.state = .active ∨ u.seat.state = .leaving ∧ u.seat.leavePlaced = false) ∧
        e.backoff = none ∧ e.tier ≤ u.share.tierLimit ∧ u.share.spentBulk < u.share.budget

/-- R70: the queue's head may be offered. -/
def HeadMayGo (u : Station) (q : FrameClass) : Prop := ∃ e, (u.sched.queue q).head? = some e ∧ MayGo u q e

/-- R97: BULK selection sheds this head. -/
def overTier (u : Station) (e : Entry) : Bool :=
  decide (u.share.tierLimit < e.tier) && !e.onLane && e.backoff.isNone

end Sys2Proof.Slice0

/-- R70, R97, R98: what renewing the offer does, after any event. With the lane not OPEN, an attempt in
progress or a reset hold there is no offer and nothing else changes. Otherwise the offer is the first
queue in the order TIMING, CONTROL, EXPRESS whose head may go; where none may, the BULK heads above the
tier limit are shed in ACTIVE, and in LEAVING before the LEAVE, each SEND frame of them with a record
SHED, and BULK is offered if its head may go. -/
def Obligations.TheOfferIsTheFirstHeadThatMayGo : Prop :=
  ∀ u : Station,
    (u.hold = true ∨ u.lane.line ≠ .opened ∨ u.lane.attempt ≠ none →
      (closing u).sched = { u.sched with offer := none } ∧ (closing u).port = u.port) ∧
    (u.hold = false → u.lane.line = .opened → u.lane.attempt = none →
      (HeadMayGo u .timing → (closing u).sched = { u.sched with offer := some .timing }) ∧
      (¬ HeadMayGo u .timing → HeadMayGo u .control →
        (closing u).sched = { u.sched with offer := some .control }) ∧
      (¬ HeadMayGo u .timing → ¬ HeadMayGo u .control → HeadMayGo u .express →
        (closing u).sched = { u.sched with offer := some .express }) ∧
      (¬ HeadMayGo u .timing → ¬ HeadMayGo u .control → ¬ HeadMayGo u .express →
        (u.seat.state = .active ∨ u.seat.state = .leaving ∧ u.seat.leavePlaced = false →
          (closing u).sched.bulk = u.sched.bulk.dropWhile (overTier u) ∧
          (closing u).sched.completions = u.sched.completions ++
            (u.sched.bulk.takeWhile (overTier u)).filterMap (recordOf .shed)) ∧
        (u.seat.state ≠ .active → (u.seat.state = .leaving → u.seat.leavePlaced = true) →
          (closing u).sched = { u.sched with offer := none }) ∧
        ((closing u).sched.offer = some .bulk ↔ HeadMayGo (closing u) .bulk) ∧
        ((closing u).sched.offer = none ∨ (closing u).sched.offer = some .bulk))) ∧
    closing u =
      { u with
        sched :=
          { u.sched with
            bulk := (closing u).sched.bulk, completions := (closing u).sched.completions
            periodic := (closing u).sched.periodic, offer := (closing u).sched.offer }
        port := { u.port with missedCause := (closing u).port.missedCause }
        outs := (closing u).outs }

namespace Sys2Proof.Slice0

/-- R2, R13: this cause loses the place in this line state. -/
def LosesPlace (line : LineState) (cause : LossCause) : Prop :=
  line = .opened ∧ cause = .strayDominant ∨
    line = .key ∧ (cause = .codeViolation ∨ cause = .idleInFrame) ∨
    line = .body ∧ (cause = .codeViolation ∨ cause = .idleInFrame ∨ cause = .lengthAbove256) ∨
    line = .gap ∧ cause = .dominantInGap

end Sys2Proof.Slice0

/-- R2, R3, R13, R19, R20: what opens the lane and what loses the place. Two idle byte times open it from
LISTENING, GAP and UNFRAMED, and from STUCK, where the stuck-clear timer starts at 100 ms; in the other states an
opening changes nothing (DESIGN CHOICE, log 3). A receiver that loses its place is UNFRAMED with no mark; the
line moves so while this station transmits too, and its attempt runs on (DESIGN CHOICE, log 28). The offer is renewed
at each.
R2, R11, R15, R203: the end field of an own frame begins when its bytes are out, with the delimiter driven dominant,
and with FLAW after a readback fault where the mark gate is open; at the end of an end field the delimiter and the
marks end and the line is in the gap. (The byte times
are counted in local periods from the command that begins them: DESIGN CHOICE, logs 7 and 8.) -/
def Obligations.OpeningsAndLostPlacesMoveTheLine : Prop :=
  ∀ s : State, s.hold = false →
    (s.lane.line = .listening ∨ s.lane.line = .gap ∨ s.lane.line = .unframed →
      exec .laneOpening s =
        .next { s with
          toStation :=
            closing { s.toStation with lane := { s.lane with line := .opened, rxKey := none } } }) ∧
    (s.lane.line = .opened ∨ s.lane.line = .key ∨ s.lane.line = .body ∨ s.lane.line = .endField ∨
        s.lane.line = .stuck →
      exec .laneOpening s = .next s) ∧
    (s.lane.line = .stuck →
      exec .stuckEnds s =
        .next { s with
          toStation := closing
            { s.toStation with
              lane :=
                { s.lane with
                  line := .opened, rxKey := none
                  stuckClear := some (s.localTime + 10000000) } } }) ∧
    (∀ cause : LossCause,
      (LosesPlace s.lane.line cause →
        exec (.frameAbandoned cause) s =
          .next { s with
            toStation := closing
              { s.toStation with
                lane :=
                  { s.lane with
                    line := .unframed, rxKey := none
                    marks := if s.lane.attempt = none then Marks.none else s.lane.marks } } }) ∧
      (¬ LosesPlace s.lane.line cause → exec (.frameAbandoned cause) s = .next s)) ∧
    ∀ level : LaneLevel, ∃ t, exec (.localPeriod level) s = .next t ∧
      ((∀ a, s.lane.attempt = some a → a.phase ≠ .sending) →
        t.lane.attempt = s.lane.attempt ∧
        (s.lane.endLeft = 0 →
          t.lane.endLeft = 0 ∧ t.lane.line = s.lane.line ∧ t.lane.marks = s.lane.marks ∧
            t.lane.delimiter = s.lane.delimiter) ∧
        (s.lane.endLeft = 1 →
          t.lane.endLeft = 0 ∧ t.lane.marks = Marks.none ∧ t.lane.delimiter = false ∧
            (s.lane.line = .endField → t.lane.line = .gap) ∧
            (s.lane.line ≠ .endField → t.lane.line = s.lane.line)) ∧
        (2 ≤ s.lane.endLeft →
          t.lane.endLeft = s.lane.endLeft - 1 ∧ t.lane.line = s.lane.line ∧
            t.lane.marks = s.lane.marks ∧ t.lane.delimiter = s.lane.delimiter)) ∧
      ∀ a, s.lane.attempt = some a → a.phase = .sending → s.lane.endLeft = 0 →
        (2 ≤ a.bodyLeft →
          t.lane.attempt = some { a with bodyLeft := a.bodyLeft - 1 } ∧ t.lane.endLeft = 0 ∧
            t.lane.line = s.lane.line ∧ t.lane.marks = s.lane.marks ∧
            t.lane.delimiter = s.lane.delimiter) ∧
        (a.bodyLeft ≤ 1 →
          t.lane.attempt = some { a with phase := .awaitMarks, bodyLeft := 0 } ∧
            t.lane.endLeft = 2 ∧ t.lane.delimiter = true ∧ t.lane.endCells.head? = some false ∧
            (s.lane.line = .body → t.lane.line = .endField) ∧
            (s.lane.line ≠ .body → t.lane.line = s.lane.line) ∧
            t.lane.marks =
              { Marks.none with
                flaw := a.readbackFault &&
                  (s.seat.state = .joining || s.seat.state = .active || s.seat.state = .leaving) })

/-- R2, R5, R8, R12: a start mark on the open lane makes the line KEY and takes the stamp. A station with an
offer whose head may go contends: the head is marked on the lane and becomes the attempt, with the key of
its class, patience and this slot. Without an offer no attempt begins. -/
def Obligations.StartMarkBeginsTheAttempt : Prop :=
  ∀ s : State, s.hold = false → s.lane.line = .opened →
    (∀ (q : FrameClass) (e : Entry) (rest : List Entry), s.sched.offer = some q →
      s.sched.queue q = e :: rest → MayGo s.toStation q e →
      exec .startMark s =
        .next { s with
          toStation := closing
            { s.toStation with
              sched := s.sched.setQueue q ({ e with onLane := true } :: rest)
              lane :=
                { s.lane with
                  line := .key, rxKey := none
                  rxStamp := some ⟨⟨s.time.sec, s.time.ns⟩, false⟩
                  attempt := some
                    { queue := q
                      key := BitVec.ofNat 8 (64 * q.number + 16 * e.patience + s.seat.slot.val)
                      group := e.kind.group, seq := e.seq, start := none, phase := .contending
                      readbackFault := false, sent := [], bodyLeft := 0, windowEnded := false } } } }) ∧
    (s.sched.offer = none →
      exec .startMark s =
        .next { s with
          toStation := closing
            { s.toStation with
              lane :=
                { s.lane with
                  line := .key, rxKey := none
                  rxStamp := some ⟨⟨s.time.sec, s.time.ns⟩, false⟩ } } })

/-- R4: a key is 64 × class + 16 × patience + slot; keys are ranked by class, then patience, then slot,
and keys of different slots differ; of two keys on the lane the lower wins and the other is lost; the
class and patience of a key sent are those of the offered frame. -/
def Obligations.KeysRankByClassPatienceSlot : Prop :=
  (∀ (q : FrameClass) (p : Nat) (slot : Slot), p ≤ 3 →
    (keyByte q p slot).toNat = 64 * q.number + 16 * p + slot.val ∧
      keyClass (keyByte q p slot) = q ∧ keySlot (keyByte q p slot) = slot) ∧
  (∀ (q q' : FrameClass) (p p' : Nat) (slot slot' : Slot), p ≤ 3 → p' ≤ 3 →
    ((keyByte q p slot).toNat < (keyByte q' p' slot').toNat ↔
      q.number < q'.number ∨ q = q' ∧ (p < p' ∨ p = p' ∧ slot < slot')) ∧
    (slot ≠ slot' → keyByte q p slot ≠ keyByte q' p' slot')) ∧
  (∀ a b : Byte, (contend a a = none) ∧ (a.toNat < b.toNat → contend b a = some .lost)) ∧
  ∀ (s : State) (q : FrameClass) (e : Entry) (rest : List Entry), s.hold = false →
    s.lane.line = .opened → s.sched.offer = some q → s.sched.queue q = e :: rest →
    MayGo s.toStation q e →
    ∃ t, exec .startMark s = .next t ∧ (t.lane.attempt.map Attempt.key) = some (keyByte q e.patience s.seat.slot)

namespace Sys2Proof.Slice0

/-- R2: what the end of the key byte makes of the line: BODY, where the line was in the key. -/
def keyLine (l : Lane) (key : Byte) : Lane :=
  if l.line = .key then { l with line := .body, rxKey := some key } else l

/-- R85, R86, R199: the missed flag of entry `i` set, and the MISSED cause where the flag was clear, unless the
entry has been cleared since its last SET PERIODIC (R82). -/
def withMissed (s : Station) (i : Fin 4) : Station :=
  let p := s.sched.periodic.get i
  if p.written = true ∧ p.missed = false then
    { s with
      sched := { s.sched with periodic := s.sched.periodic.set i { p with missed := true } }
      port := { s.port with missedCause := true } }
  else s

/-- R148: the selector when a beacon that has won is removed, and when one that has not is. -/
def beaconGone (c : Selector) : Selector :=
  if c.current.isSome then
    { c with previous := c.current, steppedPrevious := c.steppedCurrent, current := none }
  else c

end Sys2Proof.Slice0

namespace Sys2Proof.Slice0

/-- R204: a number in two bytes, high byte first. -/
def inTwo (n : Nat) : List Byte := [BitVec.ofNat 8 (n / 256), BitVec.ofNat 8 n]

/-- R205: a number in four bytes, the highest first. -/
def inFour (n : Nat) : List Byte := inTwo (n / 65536) ++ inTwo n

/-- R10: one bit of the message enters the check register: polynomial x^16 + x^12 + x^5 + 1. -/
def checkBit (r : Word16) (bit : Bool) : Word16 := if r.msb != bit then (r <<< 1) ^^^ 0x1021 else r <<< 1

/-- R10: the check of these bytes: all ones at first, each byte's most significant bit first. -/
def checkWord (l : List Byte) : Word16 :=
  (l.flatMap fun b => [7, 6, 5, 4, 3, 2, 1, 0].map b.getLsbD).foldl checkBit 0xFFFF

/-- R205: an entry of an ALARM payload. -/
def wireAlarm (e : AlarmEntry) : List Byte :=
  let sev : Nat := match e.sev with
    | .critical => 0
    | .major => 64
    | .minor => 128
    | .warning => 192
  let subject : Nat := match e.subject with
    | some p => p.val
    | none => 16
  inTwo e.code.toNat ++ [BitVec.ofNat 8 (sev + subject)] ++ inFour e.raised

/-- R173, R175, R205: the ALARM payload that carries the own list as it stands. -/
def wireAlarms (s : Station) : List Byte :=
  [s.alarm.ownSeq, BitVec.ofNat 8 s.alarm.own.length] ++ s.alarm.own.flatMap wireAlarm

/-- 1 in the place of a bit that is set. -/
def bitAt (b : Bool) (place : Nat) : Nat := if b then place else 0

/-- R204: the kind byte: 16 × kind, with the kind's flags. -/
def wireKind (s : Station) (e : Entry) : Byte :=
  BitVec.ofNat 8 (match e.kind with
    | .beacon =>
      16 + bitAt (s.sel.previous.isSome && s.sel.steppedPrevious) 1 + bitAt s.sel.previous.isSome 2
    | .rollcall => 32
    | .join => 48 + bitAt (!s.seat.reachedActive) 1
    | .leave => 64 + bitAt s.seat.handover 1 + bitAt (s.seat.leaveReason = some .release) 2
    | .alarm => 80
    | .data => 96 + e.tier % 4)

/-- R32, R36, R60, R147, R205: the payload that each kind carries at the win of its key. -/
def wirePayload (s : Station) (e : Entry) : List Byte :=
  match e.kind with
  | .beacon =>
    [BitVec.ofNat 8 s.sel.announced] ++
      match s.sel.previous with
      | some t => inFour t.sec ++ inFour t.ns
      | none => [0, 0, 0, 0, 0, 0, 0, 0]
  | .rollcall =>
    [s.roster.cardType, BitVec.ofNat 8 s.sel.announced, BitVec.ofNat 8 (bitAt s.port.cardOk 1),
      s.seat.generation, s.alarm.ownSeq]
  | .join =>
    let cause : Nat := match s.seat.cause with
      | .power => 0
      | .pin => 2
      | .restart => 4
    [s.seat.generation, s.roster.cardType, BitVec.ofNat 8 s.sel.announced,
      BitVec.ofNat 8 (cause + bitAt s.port.cardOk 1)]
  | .leave => [s.seat.generation]
  | .alarm | .data => e.payload

/-- R7, R10, R204: the frame from its key to its check. -/
def wireBytes (s : Station) (key : Byte) (e : Entry) (seq : Byte) : List Byte :=
  let dest : Nat := match e.dest with
    | .slot p => p.val
    | .all => 16
  let payload := wirePayload s e
  let covered := [key, wireKind s e, BitVec.ofNat 8 dest, seq] ++ inTwo payload.length ++ payload
  covered ++ inTwo (checkWord covered).toNat

end Sys2Proof.Slice0

/-- R6, R8, R9, R59, R71, R95: a key read as driven is won. The seq is the frame's own, or at its first win
the counter of its group, which then advances. The bytes sent are fixed: key, kind and flags, dest, seq, length, the
payload of the kind with the values of this instant, and the check over all of these (R7, R10, R32, R36, R60, R147,
R175, R204, R205); how long they last is the model's count of them (DEDUCED, log 8). The start stamp is that of the
start mark; patience returns to 3; the silence timer restarts where it runs; a card frame is charged to
its spent counter unless a window has started since the start mark. (A contender that lost its place in the key,
and is UNFRAMED, still settles its contention: DESIGN CHOICE, log 28.) -/
def Obligations.KeyWonFixesTheFrame : Prop :=
  ∀ (s : State) (a : Attempt) (e : Entry) (rest : List Entry), s.hold = false →
    s.lane.attempt = some a → a.phase = .contending → s.sched.queue a.queue = e :: rest →
    e.onLane = true →
    ∃ t a', exec (.keyComplete a.key) s = .next t ∧ t.lane.attempt = some a' ∧
      a'.phase = .sending ∧ a'.key = a.key ∧ a'.queue = a.queue ∧
      a'.seq = some (e.seq.getD (s.lane.counter a.group)) ∧ a'.start = some s.startStamp.stamp ∧
      a'.sent = wireBytes s.toStation a.key e (e.seq.getD (s.lane.counter a.group)) ∧
      a'.sent.length = 8 + (wirePayload s.toStation e).length ∧
      a'.bodyLeft = 2 * (7 + (wirePayload s.toStation e).length) ∧
      t.sched =
        { s.sched.setQueue a.queue
            ({ e with seq := some (e.seq.getD (s.lane.counter a.group)), patience := 3 } :: rest) with
          offer := none } ∧
      t.lane.line = (keyLine s.lane a.key).line ∧ t.lane.rxKey = (keyLine s.lane a.key).rxKey ∧
      (e.seq = none → t.lane.counter a.group = s.lane.counter a.group + 1) ∧
      (∀ g, g ≠ a.group ∨ e.seq ≠ none → t.lane.counter g = s.lane.counter g) ∧
      t.roster =
        { s.roster with silence := s.roster.silence.map fun _ => s.localTime + 10000000 } ∧
      t.share.spentBulk = s.share.spentBulk +
        (if a.queue = .bulk ∧ a.windowEnded = false then (wirePayload s.toStation e).length else 0) ∧
      (a.queue = .express → a.windowEnded = false →
        t.share.spentExpress = min 65790 (s.share.spentExpress + (wirePayload s.toStation e).length)) ∧
      (a.queue ≠ .express ∨ a.windowEnded = true → t.share.spentExpress = s.share.spentExpress) ∧
      (e.kind = .beacon → t.sel.current = some s.startStamp.stamp) ∧
      (e.kind = .alarm → e.seq = none → s.alarm.refresh ≠ none →
        t.alarm.refresh = some (s.localTime + 200000000)) ∧
      t.toStation =
        { s.toStation with
          lane := t.lane, sched := t.sched, roster := t.roster, outs := t.outs
          share := { s.share with spentBulk := t.share.spentBulk, spentExpress := t.share.spentExpress }
          sel := { s.sel with current := t.sel.current, steppedCurrent := t.sel.steppedCurrent }
          alarm := { s.alarm with refresh := t.alarm.refresh } }

namespace Sys2Proof.Slice0

/-- R43: the states in which readback reports are counted. -/
abbrev CountsReadback (s : Station) : Prop :=
  s.seat.state = .waitSeat ∨ s.seat.state = .listen ∨ s.seat.state = .joining ∨ s.seat.state = .active ∨
    s.seat.state = .leaving

/-- The station with these entries in one queue. -/
def withQueue (v : Station) (q : FrameClass) (l : List Entry) : Station :=
  { v with sched := v.sched.setQueue q l }

/-- R76: the station with one more completion record. -/
def recorded (v : Station) (c : Completion) : Station :=
  { v with sched := { v.sched with completions := v.sched.completions ++ [c] } }

/-- R68: a BEACON, JOIN or LEAVE that its owner has withdrawn. -/
def WithdrawnOwn (e : Entry) : Prop :=
  e.withdrawn = true ∧ e.tag = none ∧ e.periodic = none ∧ e.pending = none ∧
    (e.kind = .beacon ∨ e.kind = .join ∨ e.kind = .leave)

/-- R73: an internal frame at its fourth flaw. -/
def SpentOwn (e : Entry) : Prop :=
  e.withdrawn = false ∧ e.tag = none ∧ e.periodic = none ∧ e.pending = none ∧ 3 ≤ e.faults

/-- R68, R148: a withdrawn BEACON, JOIN or LEAVE removed: no effect but a beacon's on the two starts. -/
def withdrawnGone (v : Station) (e : Entry) : Station :=
  { v with sel := if e.kind = .beacon then beaconGone v.sel else v.sel }

/-- R71, R80, R86: from `v`, where the attempt is over, the station `u` that LOST leaves of the frame `e`: patience
falls by one; a frame with a pending disposition leaves with it, uncounted, and so does one that is withdrawn. -/
def AfterLost (v : Station) (q : FrameClass) (e : Entry) (rest : List Entry) (u : Station) : Prop :=
  (e.pending = none ∧ e.withdrawn = false ∧
      u = withQueue v q ({ e with patience := e.patience - 1, onLane := false } :: rest)) ∨
    (∃ tag o, e.kind = .data ∧ e.tag = some tag ∧ e.pending = some o ∧
      u = recorded (withQueue v q rest) ⟨tag, o, e.attempts, e.lastStart⟩) ∨
    (∃ i o, e.kind = .data ∧ e.tag = none ∧ e.periodic = some i ∧ e.pending = some o ∧ o ≠ .delivered ∧
      u = withMissed (withQueue v q rest) i) ∨
    (WithdrawnOwn e ∧ u = withdrawnGone (withQueue v q rest) e)

/-- R72, R73, R75, R80, R86: the same for a counted FLAW that has won nothing, but for the last flaw of a JOIN or a
LEAVE, which moves the seat state. -/
def AfterFlaw (v : Station) (q : FrameClass) (e : Entry) (rest : List Entry) (u : Station) : Prop :=
  (e.faults < 3 ∧ (e.periodic = none ∨ e.attempts < 3) ∧ e.pending = none ∧ e.withdrawn = false ∧
      u = withQueue v q
        ({ e with attempts := e.attempts + 1, faults := e.faults + 1, onLane := false } :: rest)) ∨
    (∃ tag o, e.kind = .data ∧ e.tag = some tag ∧ e.periodic = none ∧
      (e.pending = some o ∨ e.pending = none ∧ 3 ≤ e.faults ∧ o = .unheard) ∧
      u = recorded (withQueue v q rest) ⟨tag, o, e.attempts + 1, e.lastStart⟩) ∨
    (∃ i, e.kind = .data ∧ e.tag = none ∧ e.periodic = some i ∧
      ((∃ o, e.pending = some o ∧ o ≠ .delivered) ∨
        e.pending = none ∧ (3 ≤ e.faults ∨ 3 ≤ e.attempts)) ∧
      u = withMissed (withQueue v q rest) i) ∨
    (WithdrawnOwn e ∧ u = withdrawnGone (withQueue v q rest) e) ∨
    SpentOwn e ∧
      (e.kind = .rollcall ∧ u = withQueue v q rest ∨
        e.kind = .beacon ∧ u = { withQueue v q rest with sel := beaconGone v.sel } ∨
        e.kind = .alarm ∧
          u = { withQueue v q rest with
            alarm := { v.alarm with refresh := v.alarm.refresh.map fun _ => v.localTime + 10000000 } })

end Sys2Proof.Slice0

/-- R6, R14, R33, R37, R43, R71 to R76, R80, R86: a contender that reads a lower key has lost: the attempt ends
uncounted and patience falls by one, not below 0. One that reads a higher key has driven dominant and read recessive:
the attempt is counted as flawed, with last start as it was, and then a readback mismatch is reported (that order:
DESIGN CHOICE, log 26), which WAIT_SEAT, LISTEN, JOINING, ACTIVE and LEAVING count, and the second in a row of which
makes the station CLASHED. The fourth fault of a SEND frame removes it UNHEARD; a SEND frame with a pending
disposition leaves at either end with that outcome; a periodic copy leaves at its fourth attempt, and with a pending
disposition at either end, and marks its entry missed. The fourth flaw of an internal frame removes it with its
owner's effect; a BEACON, JOIN or LEAVE that its owner has withdrawn (R68) leaves with no effect but a beacon's on the
two starts (R148). A lower key of this station's own slot makes it CLASHED in LISTEN, JOINING, ACTIVE and LEAVING,
behind its own frame's end, with the listen count discarded (the worked sequence of 2.8); a higher one reports no own
key (DESIGN CHOICE, log 36). Where the station becomes CLASHED or GONE, its frames are flushed with their records
(R76, R81), EXPRESS before BULK (DESIGN CHOICE, log 39). (A contender that lost its place in the key, and is UNFRAMED,
still settles its contention, and hears no own key: DESIGN CHOICE, log 28; no contender is in BODY, where the key is
over.) (Outside LISTEN the listen count is 0: DESIGN CHOICE, log 37.) -/
def Obligations.KeyNotWonLosesOrFlaws : Prop :=
  ∀ (s : State) (a : Attempt) (e : Entry) (rest : List Entry) (key : Byte), s.hold = false →
    s.lane.attempt = some a → a.phase = .contending → a.start = none →
    s.sched.queue a.queue = e :: rest → e.onLane = true →
    let v : Station := { s.toStation with lane := { keyLine s.lane key with attempt := none } }
    let left : Station := withQueue v a.queue rest
    let answers (u : Station) : Prop := exec (.keyComplete key) s = .next { s with toStation := closing u }
    let clashed (t : State) (mismatch : Nat) : Prop :=
      t.seat = { s.seat with state := .clashed, listenCount := 0, mismatch := mismatch, drain := none } ∧
        t.lane.attempt = none ∧ t.alarm.has slotClash = true
    (key.toNat < a.key.toNat → keySlot key ≠ s.seat.slot ∨ s.lane.line ≠ .key ∧ s.lane.line ≠ .body →
      ∀ u, AfterLost v a.queue e rest u → answers u) ∧
    (key.toNat < a.key.toNat → keySlot key = s.seat.slot → s.lane.line = .key →
      (s.seat.state = .listen ∨ s.seat.state = .joining ∨ s.seat.state = .active ∨ s.seat.state = .leaving →
        e.pending = none ∨ e.kind = .data →
        ∃ t, exec (.keyComplete key) s = .next t ∧ clashed t s.seat.mismatch ∧
          ∀ u, AfterLost v a.queue e rest u → GateClosed u t.toStation ∧ SeatFrame u t.toStation) ∧
      (s.seat.state = .config ∨ s.seat.state = .waitSeat ∨ s.seat.state = .gone ∨ s.seat.state = .unseated ∨
          s.seat.state = .clashed →
        ∀ u, AfterLost v a.queue e rest u → answers u)) ∧
    (a.key.toNat < key.toNat →
      (¬ CountsReadback s.toStation ∨ s.seat.mismatch = 0 →
        ∀ u, AfterFlaw v a.queue e rest u →
          answers
            { u with
              seat := if CountsReadback s.toStation then { s.seat with mismatch := 1 } else s.seat }) ∧
      (CountsReadback s.toStation → 1 ≤ s.seat.mismatch →
        ∀ u, AfterFlaw v a.queue e rest u →
          ∃ t, exec (.keyComplete key) s = .next t ∧ clashed t 2 ∧ GateClosed u t.toStation ∧
            SeatFrame u t.toStation) ∧
      (SpentOwn e → e.kind = .join → s.seat.state = .joining →
        ∃ t, exec (.keyComplete key) s = .next t ∧ t.lane.attempt = none ∧
          t.alarm.has joinFailed = true ∧ SeatFrame left t.toStation ∧
          (s.seat.mismatch = 0 →
            t.seat = { s.seat with state := .listen, listenCount := 0, mismatch := 1, drain := none } ∧
              t.sched.express = left.sched.express ∧ t.sched.bulk = left.sched.bulk ∧
              t.sched.completions = left.sched.completions) ∧
          (1 ≤ s.seat.mismatch → clashed t 2 ∧ GateClosed left t.toStation)) ∧
      (SpentOwn e → e.kind = .leave → s.seat.state = .leaving →
        ∃ t, exec (.keyComplete key) s = .next t ∧
          t.seat = { s.seat with state := .gone, listenCount := 0, drain := none } ∧
          t.lane.attempt = none ∧ t.outs.safe = true ∧ GateClosed left t.toStation ∧
          SeatFrame left t.toStation))

/-- R17, R43: a readback mismatch in SENDING marks the attempt, whose contents stop behind the byte in which it was
read, with the abort symbol before the end field, and raises the mismatch count in the states that count it; the
second in a row makes the station CLASHED. Which byte that is, and how many local periods are left, is the model's own
count of the bytes (DEDUCED, log 8). At CLASHED the listen count of LISTEN is discarded (the worked sequence of 2.8);
outside LISTEN it is 0 (DESIGN CHOICE, log 37). The frames that the clash flushes write their records, the frame cut
first, then EXPRESS, then BULK (DESIGN CHOICE, log 39). -/
def Obligations.ReadbackMismatchCountsTowardsClash : Prop :=
  ∀ (s : State) (a : Attempt), s.hold = false → s.lane.attempt = some a → a.phase = .sending →
    a.readbackFault = false →
    ((s.seat.state = .waitSeat ∨ s.seat.state = .listen ∨ s.seat.state = .joining ∨
        s.seat.state = .active ∨ s.seat.state = .leaving) →
      (s.seat.mismatch = 0 →
        ∃ t a', exec .readbackMismatch s = .next t ∧
          t.seat = { s.seat with mismatch := 1 } ∧
          t.lane = { s.lane with attempt := some a' } ∧ a'.readbackFault = true ∧
          a' = { a with readbackFault := true, bodyLeft := a'.bodyLeft, sent := a'.sent } ∧
          3 ≤ a'.bodyLeft ∧ a'.bodyLeft ≤ 4 ∧
          a'.sent = a.sent.take (a.sent.length - (a.bodyLeft - 1) / 2) ∧
          (∀ k more d m, a'.sent = k :: more →
            a'.cells d m =
              keyCells k ++ more.flatMap dataCells ++
                [true, false, true, false, true, false, true, false, true, false] ++
                endFieldCells d m) ∧
          t.sched.express = s.sched.express ∧ t.sched.control = s.sched.control ∧
          t.sched.timing = s.sched.timing ∧ t.sched.bulk = s.sched.bulk) ∧
      (1 ≤ s.seat.mismatch →
        ∃ t, exec .readbackMismatch s = .next t ∧
          t.seat = { s.seat with state := .clashed, listenCount := 0, mismatch := 2, drain := none } ∧
          GateClosed s.toStation t.toStation ∧ SeatFrame s.toStation t.toStation ∧
          t.alarm.has slotClash = true)) ∧
    ((s.seat.state = .config ∨ s.seat.state = .gone ∨ s.seat.state = .unseated ∨
        s.seat.state = .clashed) →
      ∃ t, exec .readbackMismatch s = .next t ∧ t.seat = s.seat ∧
        (t.lane.attempt.map Attempt.readbackFault) = some true)

namespace Sys2Proof.Slice0

/-- R16: the result that the marks give. -/
def resultRead (fault broadcast flaw taken refused : Bool) : AttemptEnd :=
  if fault then .flaw
  else if flaw then .flaw
  else if broadcast then .delivered
  else if taken then .delivered
  else if refused then .refused
  else .unheard

/-- R72 to R74: what a counted attempt of a SEND frame comes to: the entry that stays, or the outcome with
which it leaves. -/
def sendFrameAfter (e : Entry) (r : AttemptEnd) (start : Option Stamp) (now : Nat) :
    Except (Entry × FrameOutcome) Entry :=
  let e := { e with attempts := e.attempts + 1, lastStart := start.or e.lastStart, onLane := false }
  match r with
  | .delivered => .error (e, .delivered)
  | .refused =>
    let e := { e with refusals := e.refusals + 1 }
    if 8 ≤ e.refusals then .error (e, .refused) else .ok { e with backoff := some (now + 10000) }
  | .flaw | .unheard =>
    let e := { e with faults := e.faults + 1 }
    if 4 ≤ e.faults then .error (e, .unheard) else .ok e
  | .lost | .cut => .error (e, .flushed)

/-- R2, R8, R17, R43: an attempt past its key is over: its record cleared, the end field over, and a clean
attempt clears the mismatch count in the states that count. -/
def ended (s : Station) (a : Attempt) : Station :=
  { s with
    lane :=
      { s.lane with
        line := if s.lane.line = .body ∨ s.lane.line = .endField then .gap else s.lane.line
        marks := Marks.none, delimiter := false, endLeft := 0, attempt := none }
    seat :=
      if a.readbackFault = false ∧
          (s.seat.state = .waitSeat ∨ s.seat.state = .listen ∨ s.seat.state = .joining ∨
            s.seat.state = .active ∨ s.seat.state = .leaving)
        then { s.seat with mismatch := 0 } else s.seat }

end Sys2Proof.Slice0

/-- R16, R17, R43, R72 to R74, R76, R80: the marks read at the end of a SEND frame's end field decide its
result; the frame leaves with its completion record, or stays with its counts, in back-off after REFUSED. A
frame with a pending disposition leaves with that outcome unless it was delivered. The attempt is over, the
line goes to GAP, and a clean attempt sets the mismatch count to 0. (The result is taken where the model still
counts the attempt as SENDING too: DEDUCED, log 8.) -/
def Obligations.AttemptResultOfASendFrame : Prop :=
  ∀ (s : State) (a : Attempt) (e : Entry) (rest : List Entry) (tag : Word16) (flaw taken refused : Bool),
    s.hold = false → s.lane.attempt = some a → a.phase ≠ .contending →
    (a.queue = .express ∨ a.queue = .bulk) → s.sched.queue a.queue = e :: rest → e.onLane = true →
    e.kind = .data → e.tag = some tag → e.periodic = none → e.withdrawn = false →
    let r := resultRead a.readbackFault (decide (e.dest = .all)) flaw taken refused
    let after (sched : Sched) : Station := { ended s.toStation a with sched := sched }
    let gone (e' : Entry) (o : FrameOutcome) : Sched :=
      { s.sched.setQueue a.queue rest with
        completions := s.sched.completions ++ [⟨tag, o, e'.attempts, e'.lastStart⟩] }
    (e.pending = none →
      exec (.attemptResult flaw taken refused) s =
        .next { s with
          toStation := closing
            (after
              (match sendFrameAfter e r a.start s.localTime with
                | .ok e' => s.sched.setQueue a.queue (e' :: rest)
                | .error (e', o) => gone e' o)) }) ∧
    (∀ o, e.pending = some o →
      exec (.attemptResult flaw taken refused) s =
        .next { s with
          toStation := closing
            (after
              (gone { e with attempts := e.attempts + 1, lastStart := a.start.or e.lastStart }
                (if r = .delivered then .delivered else o))) })

namespace Sys2Proof.Slice0

/-- R172, R180, R181: the own list seq, modulo 256, from `u` to `t`, with a change of the own list between them: it
rises by one for that change, and by one more for each raise and each clear of ALARM_VIEW_FULL that the change
brings, a clear coming first. -/
def ListSeqRose (u t : Station) : Prop :=
  (u.alarm.has alarmViewFull = t.alarm.has alarmViewFull →
    t.alarm.ownSeq = u.alarm.ownSeq + 1 ∨
      u.alarm.has alarmViewFull = true ∧ t.alarm.ownSeq = u.alarm.ownSeq + 3) ∧
    (u.alarm.has alarmViewFull ≠ t.alarm.has alarmViewFull → t.alarm.ownSeq = u.alarm.ownSeq + 2)

/-- R172: the own list seq from `u` to `t`, with `n` changes of the own list between them. -/
def ListSeqRoseBy : Nat → Station → Station → Prop
  | 0, u, t => t.alarm.own = u.alarm.own ∧ t.alarm.ownSeq = u.alarm.ownSeq
  | n + 1, u, t => ∃ m, ListSeqRoseBy n u m ∧ ListSeqRose m t

end Sys2Proof.Slice0

/-- R33, R34, R37, R38, R68, R75: the end of the station's own JOIN or LEAVE. A JOIN with no FLAW read makes the
station ACTIVE and clears JOIN_FAILED. The own list seq rises by one for the entry to ACTIVE (R172), and as for any
change for that clear and for a HOLDOVER_EXPIRED that the review raises; the card watchdog starts (R201). Its fourth
flawed attempt returns it to LISTEN with JOIN_FAILED raised and every card frame kept (R81); a LEAVE that ends, either
way, makes it GONE with SAFE asserted and its card frames flushed with their records (R76, R81), EXPRESS before BULK
(DESIGN CHOICE, log 39). An attempt with a readback fault is flawed (R17). A JOIN or LEAVE that its owner has
withdrawn is removed at any result, with no effect on the seat state. (The result is taken where the model still counts
the attempt as SENDING too: DEDUCED, log 8.) (A clean readback is reported before the result makes the state GONE, so
that the mismatch count there is 0: DESIGN CHOICE, log 26.) (The listen count outside LISTEN is 0: DESIGN CHOICE,
log 37.) -/
def Obligations.JoinAndLeaveEndsMoveTheSeat : Prop :=
  ∀ (s : State) (a : Attempt) (e : Entry) (rest : List Entry) (flaw taken refused : Bool), s.hold = false →
    s.lane.attempt = some a → a.phase ≠ .contending → a.queue = .control →
    s.sched.control = e :: rest → e.onLane = true → e.dest = .all → e.tag = none → e.periodic = none →
    e.pending = none →
    let clean := (ended s.toStation a).seat.mismatch
    ((e.kind = .join ∨ e.kind = .leave) → e.withdrawn = true →
      exec (.attemptResult flaw taken refused) s =
        .next { s with
          toStation := closing
            { ended s.toStation a with sched := s.sched.setQueue .control rest } }) ∧
    (e.kind = .join → s.seat.state = .joining → e.withdrawn = false →
      (a.readbackFault = false → flaw = false →
        ∃ t, exec (.attemptResult flaw taken refused) s = .next t ∧
          t.seat =
            { s.seat with
              state := .active, listenCount := 0, reachedActive := true, mismatch := 0, drain := none } ∧
          t.lane.attempt = none ∧ t.alarm.has joinFailed = false ∧
          t.roster.silence = some (s.localTime + 10000000) ∧
          t.alarm.refresh = some (s.localTime + 6000000) ∧ t.port.seatCause = true ∧
          (0 < s.port.timeout →
            t.port.watchdog = .running (s.localTime + s.port.timeout * 10000000)) ∧
          (s.port.timeout = 0 → t.port.watchdog = .stopped) ∧
          ListSeqRoseBy
            ((t.alarm.has holdoverExpired && !s.alarm.has holdoverExpired).toNat +
              (s.alarm.has joinFailed).toNat)
            { s.toStation with alarm := { s.alarm with ownSeq := s.alarm.ownSeq + 1 } } t.toStation ∧
          SeatFrame { s.toStation with lane := (ended s.toStation a).lane } t.toStation) ∧
      (a.readbackFault = true ∨ flaw = true → e.faults = 3 →
        ∃ t, exec (.attemptResult flaw taken refused) s = .next t ∧
          t.seat =
            { s.seat with state := .listen, listenCount := 0, mismatch := clean, drain := none } ∧
          t.lane.attempt = none ∧ t.alarm.has joinFailed = true ∧
          (∀ x ∈ t.sched.control, x ∈ rest ∨ x.kind = .alarm) ∧
          t.sched.express = s.sched.express ∧ t.sched.bulk = s.sched.bulk ∧
          t.sched.completions = s.sched.completions ∧
          SeatFrame { s.toStation with lane := (ended s.toStation a).lane } t.toStation)) ∧
    (e.kind = .leave → s.seat.state = .leaving → e.withdrawn = false →
      (a.readbackFault = false ∧ flaw = false ∨ e.faults = 3) →
      ∃ t, exec (.attemptResult flaw taken refused) s = .next t ∧
        t.seat = { s.seat with state := .gone, listenCount := 0, mismatch := clean, drain := none } ∧
        t.outs.safe = true ∧ t.lane.attempt = none ∧
        GateClosed { ended s.toStation a with sched := s.sched.setQueue .control rest } t.toStation ∧
        SeatFrame { s.toStation with lane := (ended s.toStation a).lane } t.toStation) ∧
    ((e.kind = .join ∧ s.seat.state = .joining ∨ e.kind = .leave ∧ s.seat.state = .leaving) →
      e.withdrawn = false → a.readbackFault = true ∨ flaw = true → e.faults < 3 →
      exec (.attemptResult flaw taken refused) s =
        .next { s with
          toStation := closing
            { ended s.toStation a with
              sched :=
                s.sched.setQueue .control
                  ({ e with
                      attempts := e.attempts + 1, faults := e.faults + 1
                      lastStart := a.start.or e.lastStart, onLane := false } :: rest) } })

/-- R75, R80, R86, R148, R174: the ends of the other frames that are no SEND frames. A BEACON, ROLLCALL or ALARM frame
stays after a FLAW, and leaves when delivered, at its fourth fault, or at any result once its owner has withdrawn it;
none writes a record. A beacon that leaves moves current start to previous start; an ALARM frame that leaves UNHEARD
restarts the refresh timer, where it runs (log 17), at 100 ms. A periodic copy leaves when delivered, and at its
fourth attempt whatever the result, which marks its entry missed; until then it stays, in back-off after REFUSED. One
with a pending disposition leaves at any result, and marks its entry missed unless it was delivered. (The result is
taken where the model still counts the attempt as SENDING too: DEDUCED, log 8.) -/
def Obligations.InternalFramesAndCopiesEndByTheirRule : Prop :=
  ∀ (s : State) (a : Attempt) (e : Entry) (rest : List Entry) (flaw taken refused : Bool),
    s.hold = false → s.lane.attempt = some a → a.phase ≠ .contending →
    s.sched.queue a.queue = e :: rest → e.onLane = true → e.tag = none →
    let r := resultRead a.readbackFault (decide (e.dest = .all)) flaw taken refused
    let counted : Entry :=
      { e with attempts := e.attempts + 1, lastStart := a.start.or e.lastStart, onLane := false }
    let stays (e' : Entry) : Station :=
      { ended s.toStation a with sched := s.sched.setQueue a.queue (e' :: rest) }
    let left : Station := { ended s.toStation a with sched := s.sched.setQueue a.queue rest }
    let answers (u : Station) : Prop :=
      exec (.attemptResult flaw taken refused) s = .next { s with toStation := closing u }
    (e.dest = .all → e.periodic = none → e.pending = none →
      (e.kind = .beacon ∨ e.kind = .rollcall ∨ e.kind = .alarm) →
      (r = .flaw ∨ r = .delivered) ∧
      (r = .flaw → e.withdrawn = false → e.faults < 3 →
        answers (stays { counted with faults := e.faults + 1 })) ∧
      (r = .delivered ∨ e.withdrawn = true ∨ 3 ≤ e.faults →
        (e.kind = .rollcall → answers left) ∧
        (e.kind = .beacon → answers { left with sel := beaconGone s.sel }) ∧
        (e.kind = .alarm → r = .delivered → answers left) ∧
        (e.kind = .alarm → r = .flaw →
          answers
            { left with
              alarm :=
                { s.alarm with
                  refresh := s.alarm.refresh.map fun _ => s.localTime + 10000000 } }))) ∧
    ∀ i, e.periodic = some i → e.kind = .data → e.withdrawn = false →
      (r = .delivered → answers left) ∧
      (∀ o, e.pending = some o → o ≠ .delivered → r ≠ .delivered → answers (withMissed left i)) ∧
      (r = .flaw ∨ r = .unheard → e.pending = none →
        (e.attempts < 3 → e.faults < 3 → answers (stays { counted with faults := e.faults + 1 })) ∧
        (3 ≤ e.attempts ∨ 3 ≤ e.faults → answers (withMissed left i))) ∧
      (r = .refused → e.pending = none →
        (e.attempts < 3 → e.refusals < 7 →
          answers
            (stays
              { counted with
                refusals := e.refusals + 1, backoff := some (s.localTime + 10000) })) ∧
        (3 ≤ e.attempts ∨ 7 ≤ e.refusals → answers (withMissed left i)))

/-! ### Frames received (R12 to R15, R46 to R64, R104 to R112) -/

namespace Sys2Proof.Slice0

/-- R12, R14: a frame from another slot is at its hand-over: the line is BODY, no own attempt runs, and the
key received names slot `p`. -/
structure Receiving (s : State) (key : Byte) (p : Slot) : Prop where
  running : s.hold = false
  line    : s.lane.line = .body
  silent  : s.lane.attempt = none
  keyRead : s.lane.rxKey = some key
  source  : keySlot key = p
  other   : p ≠ s.seat.slot

/-- R7, R10, R204: a good DATA frame: check equal, not aborted, kind 6, dest at most 16. -/
def GoodData (key : Byte) (f : RxFrame) : Prop :=
  f.aborted = false ∧ crc (coveredBytes key f.kind f.dest f.seq f.payload) = f.check ∧
    f.kind.toNat / 16 = 6 ∧ f.dest.toNat ≤ 16

/-- R26: the mark gate is open. -/
def GateOpen (u : Station) : Prop :=
  u.seat.state = .joining ∨ u.seat.state = .active ∨ u.seat.state = .leaving

/-- R106: the frame is for this station. -/
def ForUs (u : Station) (f : RxFrame) : Prop := f.dest.toNat = 16 ∨ f.dest.toNat = u.seat.slot.val

/-- R107: tests 1 to 3: the source is not barred, not LEFT, and the seat state takes DATA. -/
def Takes (u : Station) (p : Slot) : Prop :=
  (u.peer p).barredUntil = none ∧ (u.peer p).state ≠ .left ∧
    (u.seat.state = .active ∨ u.seat.state = .leaving)

/-- R107 tests 1 to 3 hold; the frame is for this station. -/
def Wanted (u : Station) (f : RxFrame) (p : Slot) : Prop := ForUs u f ∧ Takes u p

/-- R47: the source's record once a good DATA frame from it is heard. -/
def HeardNow (s t : Station) (p : Slot) : Prop :=
  (t.peer p).lastHeard = some s.localTime ∧
    ((s.peer p).state = .present ∨ (s.peer p).state = .absent ∨ (s.peer p).state = .silent →
      (t.peer p).state = .present)

/-- What a received frame leaves alone at the lane interface, the share and the window. -/
def RxFrameKept (s t : Station) : Prop :=
  t.share = s.share ∧ t.seat = s.seat ∧ t.pins.seatPresent = s.pins.seatPresent ∧ t.hold = s.hold ∧
    t.localTime = s.localTime ∧ t.lane = { s.lane with
      line := .endField, marks := t.lane.marks, rxStamp := t.lane.rxStamp, endLeft := t.lane.endLeft }

/-- The same, with an end field of two local periods begun (log 7). -/
def RxEnds (s t : Station) : Prop := RxFrameKept s t ∧ t.lane.endLeft = 2

end Sys2Proof.Slice0

/-- R104 to R109, R111: a good DATA frame for this station, from a source that is neither barred nor LEFT, in
ACTIVE or LEAVING, in an EXPRESS or BULK key, that repeats no held seq and finds room, goes to the tail of the
queue of its class with its arrival record; its seq becomes the source's last DATA seq, and TAKEN is the one
mark. -/
def Obligations.AcceptedDataIsQueuedAndMarkedTaken : Prop :=
  ∀ (s : State) (key : Byte) (p : Slot) (f : RxFrame) (air : Bool), Receiving s key p → GoodData key f →
    Wanted s.toStation f p → (s.peer p).lastSeq ≠ some f.seq →
    let arrival (q : CardQueue) : Arrival :=
      { source := p, broadcast := decide (f.dest.toNat = 16), queue := q, tier := f.kind.toNat % 4
        seq := f.seq, length := f.payload.length, stamp := s.startStamp.stamp
        stepped := s.startStamp.void }
    (key.toNat / 64 = 2 → s.rx.express.length < 16 →
      ∃ t, exec (.frameHandover f air) s = .next t ∧
        t.rx = { s.rx with express := s.rx.express ++ [⟨arrival .express, f.payload⟩] } ∧
        (t.peer p).lastSeq = some f.seq ∧ t.lane.marks = ⟨false, true, false⟩ ∧
        t.outs.rxReady = true ∧ HeardNow s.toStation t.toStation p ∧
        RxFrameKept s.toStation t.toStation) ∧
    (key.toNat / 64 = 3 → s.rx.bulk.length < 32 →
      ∃ t, exec (.frameHandover f air) s = .next t ∧
        t.rx = { s.rx with bulk := s.rx.bulk ++ [⟨arrival .bulk, f.payload⟩] } ∧
        (t.peer p).lastSeq = some f.seq ∧ t.lane.marks = ⟨false, true, false⟩ ∧
        t.outs.rxReady = true ∧ HeardNow s.toStation t.toStation p ∧
        RxFrameKept s.toStation t.toStation)

/-- R106 to R108, R110, R111: a good DATA frame that is not accepted is not queued and leaves the last DATA seq.
One for another slot, from a barred or LEFT source, in a seat state that takes none, or in a TIMING or CONTROL
key gets no mark; a duplicate gets TAKEN whatever room there is; on a full queue a unicast gets REFUSED, and a
broadcast no mark but the overrun flag and QUEUE_OVERRUN. R14: a frame of any kind, good or bad, whose key carries
this station's own slot is not handed to the receive filter: no mark is driven, nothing is queued, no record of the
roster moves and no flaw is counted; the line alone moves. (The end field begins with two local periods: DESIGN
CHOICE, log 7.) -/
def Obligations.OtherDataAndOwnKeysAreNotQueued : Prop :=
  (∀ (s : State) (key : Byte) (p : Slot) (f : RxFrame) (air : Bool), Receiving s key p → GoodData key f →
    (¬ ForUs s.toStation f ∨ ¬ Takes s.toStation p ∨ key.toNat / 64 < 2 →
      ∃ t, exec (.frameHandover f air) s = .next t ∧ t.rx = s.rx ∧
        (t.peer p).lastSeq = (s.peer p).lastSeq ∧ t.lane.marks = ⟨false, false, false⟩ ∧
        RxEnds s.toStation t.toStation) ∧
    (Wanted s.toStation f p → 2 ≤ key.toNat / 64 →
      ((s.peer p).lastSeq = some f.seq →
        ∃ t, exec (.frameHandover f air) s = .next t ∧ t.rx = s.rx ∧
          (t.peer p).lastSeq = some f.seq ∧ t.lane.marks = ⟨false, true, false⟩ ∧
          HeardNow s.toStation t.toStation p ∧ RxEnds s.toStation t.toStation) ∧
      ((s.peer p).lastSeq ≠ some f.seq →
        (key.toNat / 64 = 2 ∧ 16 ≤ s.rx.express.length ∨ key.toNat / 64 = 3 ∧ 32 ≤ s.rx.bulk.length) →
        (f.dest.toNat = s.seat.slot.val →
          ∃ t, exec (.frameHandover f air) s = .next t ∧ t.rx = s.rx ∧
            (t.peer p).lastSeq = (s.peer p).lastSeq ∧ t.lane.marks = ⟨false, false, true⟩ ∧
            HeardNow s.toStation t.toStation p ∧ RxEnds s.toStation t.toStation) ∧
        (f.dest.toNat = 16 →
          ∃ t, exec (.frameHandover f air) s = .next t ∧ t.rx = { s.rx with overrun := true } ∧
            (t.peer p).lastSeq = (s.peer p).lastSeq ∧ t.lane.marks = ⟨false, false, false⟩ ∧
            (s.rx.overrun = false → t.alarm.has queueOverrun = true) ∧
            HeardNow s.toStation t.toStation p ∧ RxEnds s.toStation t.toStation)))) ∧
  ∀ (s : State) (key : Byte) (f : RxFrame) (air : Bool), s.hold = false → s.lane.line = .body →
    s.lane.attempt = none → s.lane.rxKey = some key → keySlot key = s.seat.slot →
    exec (.frameHandover f air) s =
      .next { s with
        toStation := closing
          { s.toStation with
            lane := { s.lane with line := .endField, marks := ⟨false, false, false⟩, endLeft := 2 } } }

namespace Sys2Proof.Slice0

/-- A good frame that says `c` is at its hand-over from a source that is not barred. What it says leaves out the bits
to which R205 gives no meaning (DESIGN CHOICE, log 43). -/
structure Hears (s : State) (key : Byte) (p : Slot) (f : RxFrame) (c : Content) : Prop where
  receiving : Receiving s key p
  good      : goodContent key f = some c
  unbarred  : (s.peer p).barredUntil = none

/-- The records of all other peers are as they were. -/
def OthersKept (s t : Station) (p : Slot) : Prop := ∀ q : Slot, q ≠ p → t.peer q = s.peer q

/-- R26, R111: TAKEN is the one mark where the mark gate is open, and no mark is driven otherwise. -/
def MarkedTaken (s t : Station) : Prop :=
  (GateOpen s → t.lane.marks = ⟨false, true, false⟩) ∧
    (¬ GateOpen s → t.lane.marks = ⟨false, false, false⟩)

/-- R47, R48: the record as the hearing settles it, before the frame's kind takes effect. -/
def heardRecord (s : Station) (p : Slot) : Peer :=
  let r := { s.peer p with lastHeard := some s.localTime }
  if r.state = .absent ∨ r.state = .silent then { r with state := .present, since := s.localTime } else r

end Sys2Proof.Slice0

/-- R47, R50, R51, R55, R56, R111: what a membership frame makes of its source's record. A JOIN is taken in any
state, and starts the stagger timer in ACTIVE, and in LEAVING before the LEAVE (R174); a LEAVE, ROLLCALL or ALARM in
any but LEFT, where it is dropped without a mark. A heard one is marked TAKEN where the mark gate is open, and no mark
is driven otherwise. No DATA queue moves, and no other record. After a ROLLCALL the candidate set
follows the record at once (DESIGN CHOICE, log 22). (The end field begins with two local periods: DESIGN CHOICE,
log 7.) (Payload bits to which R205 gives no meaning are ignored: DESIGN CHOICE, log 43.) -/
def Obligations.MembershipFramesSetTheRecord : Prop :=
  ∀ (s : State) (key : Byte) (p : Slot) (f : RxFrame) (air : Bool),
    (∀ generation cardType cls cardOk cause first,
      Hears s key p f (.join generation cardType cls cardOk cause first) →
      ∃ t, exec (.frameHandover f air) s = .next t ∧
        t.peer p =
          { heardRecord s.toStation p with
            state := .present, since := s.localTime, generation := some generation
            cardType := some cardType, cls := some cls, cardOk := some cardOk
            lastJoin := some ⟨cause, first⟩, lastSeq := none, beacon := none
            alarms := { (s.peer p).alarms with stale := true } } ∧
        (s.seat.state = .active ∨ s.seat.state = .leaving ∧ s.seat.leavePlaced = false →
          t.alarm.stagger = some (s.localTime + (s.seat.slot.val + 1) * 400000)) ∧
        (s.seat.state ≠ .active → (s.seat.state = .leaving → s.seat.leavePlaced = true) →
          t.alarm.stagger = s.alarm.stagger) ∧
        OthersKept s.toStation t.toStation p ∧ t.rx = s.rx ∧
        MarkedTaken s.toStation t.toStation ∧
        RxEnds s.toStation t.toStation) ∧
    (∀ generation handover reason, Hears s key p f (.leave generation handover reason) →
      (s.peer p).state ≠ .left →
      ∃ t, exec (.frameHandover f air) s = .next t ∧
        t.peer p =
          { s.peer p with
            state := .left, since := s.localTime, lastHeard := none, lastSeq := none, beacon := none
            alarms := ⟨none, [], false⟩ } ∧
        (handover = true → t.sel.lastHandover = some ⟨p, s.localTime⟩) ∧
        OthersKept s.toStation t.toStation p ∧ t.rx = s.rx ∧
        MarkedTaken s.toStation t.toStation ∧
        RxEnds s.toStation t.toStation) ∧
    (∀ cardType cls cardOk generation listSeq,
      Hears s key p f (.rollcall cardType cls cardOk generation listSeq) → (s.peer p).state ≠ .left →
      ∃ t, exec (.frameHandover f air) s = .next t ∧
        t.peer p =
          { heardRecord s.toStation p with
            cardType := some cardType, cls := some cls, cardOk := some cardOk
            generation := some generation
            lastSeq :=
              if (s.peer p).generation = none ∨ (s.peer p).generation = some generation
                then (s.peer p).lastSeq else none
            beacon :=
              if (s.peer p).generation = none ∨ (s.peer p).generation = some generation
                then (s.peer p).beacon else none
            alarms :=
              { (s.peer p).alarms with stale := decide ((s.peer p).alarms.listSeq ≠ some listSeq) } } ∧
        (∀ c ∈ t.sel.cands, c.slot = p → c.cls = cls ∧ cls ≤ 13 ∧ (t.peer p).beacon.isSome = true) ∧
        OthersKept s.toStation t.toStation p ∧ t.rx = s.rx ∧
        MarkedTaken s.toStation t.toStation ∧
        RxEnds s.toStation t.toStation) ∧
    (∀ listSeq entries, Hears s key p f (.alarm listSeq entries) → (s.peer p).state ≠ .left →
      ∃ t, exec (.frameHandover f air) s = .next t ∧
        t.peer p = { heardRecord s.toStation p with alarms := ⟨some listSeq, entries, false⟩ } ∧
        OthersKept s.toStation t.toStation p ∧ t.rx = s.rx ∧
        MarkedTaken s.toStation t.toStation ∧
        RxEnds s.toStation t.toStation) ∧
    (∀ c, Hears s key p f c → c.isJoin = false → (s.peer p).state = .left →
      (∀ tier, c ≠ .data tier) →
      exec (.frameHandover f air) s =
        .next { s with
          toStation := closing
            { s.toStation with
              lane :=
                { s.lane with line := .endField, marks := ⟨false, false, false⟩, endLeft := 2 } } })

/-- R57, R58, R12, R111: a heard BEACON replaces its source's beacon record with its seq, its class and this station's
stamp of its start mark, void when a step has made it so, and the local time of arrival; the announced class
takes its class. No other record changes, but that a step the beacon's sample asks for makes the stamp of every
beacon record void. The frame is marked TAKEN where the mark gate is open (R111), and no mark is driven otherwise.
(The end field begins with two local periods: DESIGN CHOICE, log 7.)
(The bytes of a previous start that is absent are ignored: DESIGN CHOICE, log 43.) -/
def Obligations.BeaconsRefreshTheBeaconRecord : Prop :=
  ∀ (s : State) (key : Byte) (p : Slot) (f : RxFrame) (air : Bool) (cls : Nat) (previous : Option Stamp)
    (stepped : Bool), Hears s key p f (.beacon cls previous stepped) →
    (s.peer p).state ≠ .left → (s.peer p).state ≠ .self →
    ∃ t b, exec (.frameHandover f air) s = .next t ∧
      t.peer p =
        { heardRecord s.toStation p with cls := some cls, beacon := some b } ∧
      b = { seq := f.seq, sp := s.startStamp.stamp, void := b.void, cls := cls
            arrival := s.localTime } ∧
      (t.time.stepCount = s.time.stepCount → b.void = s.startStamp.void) ∧
      (t.time.stepCount ≠ s.time.stepCount →
        b.void = true ∧ air = false ∧
          ∀ q : Slot, q ≠ p →
            t.peer q =
              { s.peer q with
                beacon := (s.peer q).beacon.map fun r => { r with void := true } }) ∧
      (t.time.stepCount = s.time.stepCount → OthersKept s.toStation t.toStation p) ∧
      (∀ c ∈ t.sel.cands, c.slot = p → c.cls = cls ∧ c.deadline = s.localTime + 25000000) ∧
      (14 ≤ cls → ∀ c ∈ t.sel.cands, c.slot ≠ p) ∧ t.rx = s.rx ∧
      MarkedTaken s.toStation t.toStation ∧ RxEnds s.toStation t.toStation

/-- R61, R62, R105, R111, R137: a frame with a bad check is a flaw of the source in its key and gets FLAW where
the mark gate is open; with fewer than seven flaws within the last second the list takes the present time, and
the eighth bars the source for 10 s, empties the list, drops the beacon record and the candidate, and
TALKER_BARRED stands. A frame from a barred source, good or bad, changes no record and gets no mark. (The end
field begins with two local periods: DESIGN CHOICE, log 7.) -/
def Obligations.BadChecksCountAndBar : Prop :=
  ∀ (s : State) (key : Byte) (p : Slot) (f : RxFrame) (air : Bool), Receiving s key p →
    let recent := (s.peer p).flaws.filter fun x => decide (s.localTime ≤ x + 100000000)
    (goodContent key f = none → (s.peer p).barredUntil = none →
      (recent.length < 7 →
        exec (.frameHandover f air) s =
          .next { s with
            toStation := closing
              (({ s.toStation with
                  lane :=
                    { s.lane with
                      line := .endField, endLeft := 2
                      marks := ⟨markGate s.seat.state, false, false⟩ } } : Station).setPeer p
                { s.peer p with flaws := recent ++ [s.localTime] }) }) ∧
      (7 ≤ recent.length →
        ∃ t, exec (.frameHandover f air) s = .next t ∧
          t.peer p =
            { s.peer p with
              barredUntil := some (s.localTime + 1000000000), flaws := [], beacon := none } ∧
          OthersKept s.toStation t.toStation p ∧
          (∀ c ∈ t.sel.cands, c.slot ≠ p) ∧ t.sel.source ≠ .bus p ∧
          t.alarm.has talkerBarred = true ∧ t.rx = s.rx ∧
          t.lane.marks = ⟨markGate s.seat.state, false, false⟩ ∧
          RxEnds s.toStation t.toStation)) ∧
    ((s.peer p).barredUntil ≠ none →
      exec (.frameHandover f air) s =
        .next { s with
          toStation := closing
            { s.toStation with
              lane :=
                { s.lane with line := .endField, marks := ⟨false, false, false⟩, endLeft := 2 } } })

/-! ### The local timers of the roster, the scheduler and the selector -/

namespace Sys2Proof.Slice0

/-- What reviews of the selector and changes of the own list and the view leave alone: the seat, the lane
interface, the share, the receive filter, cabinet time but for A, the EXPRESS queue, and the servo's
integrator and last sample. -/
def BlocksKept (s t : Station) : Prop :=
  t.hold = s.hold ∧ t.localTime = s.localTime ∧ t.pins = s.pins ∧ t.seat = s.seat ∧ t.lane = s.lane ∧
    t.share = s.share ∧ t.rx = s.rx ∧ t.time = { s.time with a := t.time.a } ∧
    t.port = { s.port with timingCause := t.port.timingCause, missedCause := t.port.missedCause } ∧
    t.servo.i = s.servo.i ∧ t.servo.lastSample = s.servo.lastSample

/-- R49: the record emptied. -/
def emptiedRecord (r : Peer) (now : Nat) : Peer :=
  { freshPeer false with since := now, flaws := r.flaws, barredUntil := r.barredUntil }

/-- R79: the records of the card frames to slot `p` that are not on the lane, EXPRESS before BULK (log 39). -/
def goneRecords (s : Station) (p : Slot) : List Completion :=
  ((s.sched.express ++ s.sched.bulk).filter fun e => decide (e.dest = .slot p) && !e.onLane).filterMap
    (recordOf .destGone)

end Sys2Proof.Slice0

/-- R48, R49, R52, R79, R137, R179: a PRESENT peer unheard for 300 ms becomes SILENT with its set stale, and
leaves the candidates and the choice; a SILENT one unheard for 1,000 ms and a LEFT one after 60 s become
ABSENT: the record emptied, the card frames to it gone but one on the lane, each SEND frame of them with a record
DEST_GONE, EXPRESS before BULK (DESIGN CHOICE, log 39), its marker MISSING, or removed after LEFT. Before its
time nothing happens (DESIGN CHOICE, log 3); a timer that comes late acts (DESIGN CHOICE, log 4). -/
def Obligations.UnheardPeersFallSilentThenAbsent : Prop :=
  ∀ (s : State) (p : Slot), s.hold = false →
    (∀ h, (s.peer p).state = .present → (s.peer p).lastHeard = some h →
      (h + 30000000 ≤ s.localTime →
        ∃ t, exec (.silentTimeout p) s = .next t ∧
          t.peer p =
            { s.peer p with
              state := .silent, since := s.localTime
              alarms := { (s.peer p).alarms with stale := true } } ∧
          OthersKept s.toStation t.toStation p ∧ (∀ c ∈ t.sel.cands, c.slot ≠ p) ∧
          t.sel.source ≠ .bus p ∧ t.sched.express = s.sched.express ∧
          BlocksKept s.toStation t.toStation) ∧
      (s.localTime < h + 30000000 → exec (.silentTimeout p) s = .next s)) ∧
    (∀ h, (s.peer p).state = .silent → (s.peer p).lastHeard = some h →
      (h + 100000000 ≤ s.localTime →
        ∃ t, exec (.absentTimeout p) s = .next t ∧
          t.peer p = emptiedRecord (s.peer p) s.localTime ∧
          OthersKept s.toStation t.toStation p ∧ (∀ c ∈ t.sel.cands, c.slot ≠ p) ∧
          (∀ e ∈ t.sched.express ++ t.sched.bulk, e.dest = .slot p →
            e.onLane = true ∧ e.pending.isSome = true) ∧
          s.sched.completions ++ goneRecords s.toStation p <+: t.sched.completions ∧
          (t.alarm.markers.get p = .missing s.time.sec ∨
            t.alarm.markers.get p = s.alarm.markers.get p ∧
              ∃ since, s.alarm.markers.get p = .missing since) ∧
          BlocksKept s.toStation t.toStation) ∧
      (s.localTime < h + 100000000 → exec (.absentTimeout p) s = .next s)) ∧
    ((s.peer p).state = .left →
      ((s.peer p).since + 6000000000 ≤ s.localTime →
        ∃ t, exec (.leftExpiry p) s = .next t ∧
          t.peer p = emptiedRecord (s.peer p) s.localTime ∧
          OthersKept s.toStation t.toStation p ∧
          (∀ since, t.alarm.markers.get p ≠ .removed since) ∧
          (∀ e ∈ t.sched.express ++ t.sched.bulk, e.dest = .slot p →
            e.onLane = true ∧ e.pending.isSome = true) ∧
          s.sched.completions ++ goneRecords s.toStation p <+: t.sched.completions ∧
          BlocksKept s.toStation t.toStation) ∧
      (s.localTime < (s.peer p).since + 6000000000 → exec (.leftExpiry p) s = .next s))

/-- R61, R63, R170: flaw times more than 1 s old leave the list. At its time a bar is removed; with no slot
barred any more TALKER_BARRED clears, otherwise its subject is the lowest slot still barred. Before its
time nothing happens (DESIGN CHOICE, log 3); an end that comes late acts (DESIGN CHOICE, log 4). -/
def Obligations.FlawTimesAgeAndBarsEnd : Prop :=
  ∀ (s : State) (p : Slot), s.hold = false →
    exec (.flawTimeAged p) s =
      .next { s with
        toStation :=
          (s.toStation.setPeer p
            { s.peer p with
              flaws := (s.peer p).flaws.filter fun x => decide (s.localTime ≤ x + 100000000) }).drive } ∧
    (∀ d, (s.peer p).barredUntil = some d → d ≤ s.localTime →
      ∃ t, exec (.barEnds p) s = .next t ∧
        t.peer p = { s.peer p with barredUntil := none } ∧ OthersKept s.toStation t.toStation p ∧
        ((∀ q : Slot, q ≠ p → (s.peer q).barredUntil = none) → t.alarm.has talkerBarred = false) ∧
        (∀ q : Slot, q ≠ p → (s.peer q).barredUntil ≠ none →
          (∀ r : Slot, r < q → r ≠ p → (s.peer r).barredUntil = none) →
          ∃ e ∈ t.alarm.own, e.code = talkerBarred ∧ e.subject = some q) ∧
        t.sched.express = s.sched.express ∧ BlocksKept s.toStation t.toStation) ∧
    ((∀ d, (s.peer p).barredUntil = some d → s.localTime < d) → exec (.barEnds p) s = .next s)

/-- R59, R74: the silence timer restarts at 100 ms, and a ROLLCALL goes to the tail of CONTROL unless one is
there or CONTROL is full. At the end of a back-off the field is removed, and the frame stays in its place.
Before its time neither does anything (DESIGN CHOICE, log 3); one that comes late acts, and the silence timer
restarts from the present local time (DESIGN CHOICE, log 4). -/
def Obligations.SilenceTimerPlacesRollcallAndBackoffEnds : Prop :=
  ∀ s : State, s.hold = false →
    (∀ d, s.roster.silence = some d →
      (d ≤ s.localTime →
        exec .silenceTimerExpiry s =
          .next { s with
            toStation := closing
              { s.toStation with
                roster := { s.roster with silence := some (s.localTime + 10000000) }
                sched :=
                  { s.sched with
                    control :=
                      if (∀ e ∈ s.sched.control, e.kind ≠ .rollcall) ∧ s.sched.control.length < 8
                        then s.sched.control ++ [Entry.placed .rollcall .all 0 [] none none]
                        else s.sched.control } } }) ∧
      (s.localTime < d → exec .silenceTimerExpiry s = .next s)) ∧
    ∀ q : CardQueue,
      let l := s.sched.queue (cardClass q)
      ((∃ e ∈ l, ∃ d, e.backoff = some d ∧ d ≤ s.localTime) →
        exec (.backoffEnds q) s =
          .next { s with
            toStation := closing
              { s.toStation with
                sched :=
                  s.sched.setQueue (cardClass q)
                    (l.map fun e => { e with backoff := e.backoff.filter fun d => s.localTime < d }) } }) ∧
      ((∀ e ∈ l, ∀ d, e.backoff = some d → s.localTime < d) →
        exec (.backoffEnds q) s = .next s)

/-- R136, R137, R144, R145: at its freshness deadline a candidate leaves the set and the source. A claim
that expires with the beaconing condition holding turns beaconing ON with no start remembered, places the
first beacon when TIMING is empty, and starts the interval of 62.5 ms; at each expiry of the interval a
beacon is placed when TIMING is empty, and it restarts. An expiry that is not due changes nothing (DESIGN
CHOICE, log 3); one that comes late acts, and the interval restarts from the present local time (DESIGN CHOICE,
log 4). -/
def Obligations.CandidatesExpireAndBeaconsArePlaced : Prop :=
  ∀ s : State, s.hold = false →
    (∀ p : Slot, (∃ c ∈ s.sel.cands, c.slot = p ∧ c.deadline ≤ s.localTime) →
      ∃ t, exec (.candidateDeadline p) s = .next t ∧
        (∀ c ∈ t.sel.cands, c.slot ≠ p ∧
          ∃ c' ∈ s.sel.cands, c'.slot = c.slot ∧ c'.deadline = c.deadline) ∧
        t.sel.source ≠ .bus p ∧ t.roster = s.roster ∧ t.sched.express = s.sched.express ∧
        BlocksKept s.toStation t.toStation) ∧
    (∀ p : Slot, (∀ c ∈ s.sel.cands, c.slot = p → s.localTime < c.deadline) →
      exec (.candidateDeadline p) s = .next s) ∧
    (∀ d, s.sel.beaconing = .claiming → s.sel.claim = some d → d ≤ s.localTime →
      s.sel.eligible = true → s.seat.state = .active → (s.sel.source = .none ∨ s.sel.source = .external) →
      (∀ c ∈ s.sel.cands,
        ¬ (c.cls < s.sel.announced ∨ c.cls = s.sel.announced ∧ c.slot < s.seat.slot)) →
      exec .claimExpiry s =
        .next { s with
          toStation := closing
            { s.toStation with
              sel :=
                { s.sel with
                  beaconing := .on, claim := none, interval := some (s.localTime + 6250000)
                  previous := none, current := none, steppedPrevious := false, steppedCurrent := false }
              sched :=
                { s.sched with
                  timing :=
                    if s.sched.timing = [] then [Entry.placed .beacon .all 0 [] none none]
                      else s.sched.timing } } }) ∧
    (s.sel.beaconing ≠ .claiming ∨ (∀ d, s.sel.claim = some d → s.localTime < d) →
      exec .claimExpiry s = .next s) ∧
    (s.sel.beaconing ≠ .on → exec .beaconIntervalExpiry s = .next s) ∧
    (∀ d, s.sel.beaconing = .on → s.sel.interval = some d →
      (d ≤ s.localTime →
        exec .beaconIntervalExpiry s =
          .next { s with
            toStation := closing
              { s.toStation with
                sel := { s.sel with interval := some (s.localTime + 6250000) }
                sched :=
                  { s.sched with
                    timing :=
                      if s.sched.timing = [] then [Entry.placed .beacon .all 0 [] none none]
                        else s.sched.timing } } }) ∧
      (s.localTime < d → exec .beaconIntervalExpiry s = .next s))

namespace Sys2Proof.Slice0

/-- R134: the pair (c1, s1) ranks above (c2, s2). -/
def Above (c1 : Nat) (s1 : Slot) (c2 : Nat) (s2 : Slot) : Prop := c1 < c2 ∨ c1 = c2 ∧ s1 < s2

/-- R136: the conditions of a candidate, freshness aside, with its class. -/
def CandidateNow (u : Station) (p : Slot) (cls : Nat) : Prop :=
  (u.peer p).state = .present ∧ (u.peer p).barredUntil = none ∧ (u.peer p).beacon.isSome = true ∧
    (u.peer p).cls = some cls ∧ cls ≤ 13

/-- R138: the servo is taken as locked with source `src`. -/
def TakenLocked (u : Station) (src : Source) : Prop :=
  u.servo.state = .locked ∧ src ≠ .none ∧ u.sel.lockedSource = some src

/-- R138: the servo is taken as HOLDOVER with source `src`. -/
def TakenHoldover (u : Station) (src : Source) : Prop :=
  u.servo.state = .holdover ∨ src = .none ∧ (u.servo.state = .locked ∨ u.servo.state = .acquire)

/-- R143: the beaconing condition on the selector `c` just reviewed. -/
def MayBeacon (u : Station) (c : Selector) : Prop :=
  c.eligible = true ∧ u.seat.state = .active ∧ (c.source = .none ∨ c.source = .external) ∧
    ∀ x ∈ c.cands, ¬ Above x.cls x.slot c.announced u.seat.slot

/-- R163: the unlocked timer on a change of source: a move out of LOCKED starts it. -/
def unlockedFrom (u : Station) : Timer :=
  if u.servo.state = .locked then .running (u.localTime + 1000000000) else u.servo.unlocked

/-- R152, R162: the servo and the rate after a review that leaves the source `src`. -/
def ServoTakes (u t : Station) (src : Source) : Prop :=
  (src = u.sel.source → t.servo = u.servo ∧ t.time = u.time ∧ t.port = u.port) ∧
    (src ≠ u.sel.source →
      t.port.timingCause = true ∧
      (src ≠ .none →
        t.time = u.time ∧
        t.servo =
          { u.servo with
            source := src, state := .acquire, inCount := 0, outCount := 0, holdTimer := none
            expired := false, unlocked := unlockedFrom u }) ∧
      (src = .none →
        (u.servo.state = .free ∨ u.servo.state = .holdover →
          t.servo = { u.servo with source := .none } ∧ t.time = u.time) ∧
        (u.servo.state = .acquire ∨ u.servo.state = .locked →
          t.time = { u.time with a := u.servo.i } ∧
          t.servo =
            { u.servo with
              source := .none, state := .holdover, a := u.servo.i, unlocked := unlockedFrom u
              holdTimer :=
                if u.servo.holdLimit = 0 then none
                else some (u.localTime + u.servo.holdLimit * 100000000)
              expired := decide (u.servo.holdLimit = 0) } ∧
          (u.servo.holdLimit = 0 → t.alarm.has holdoverExpired = true))))

end Sys2Proof.Slice0

/-- R136, R138 to R144, R146, R152, R162, R163: one review. The candidates that the roster no longer holds as
such leave, the others take its class, best first; the source is EXTERNAL, the best candidate where it ranks
above (standing class, own slot), or NONE; the lock record, the announced and the standing class follow; the
beaconing decision is taken; a changed source is handed to the servo. And where a command brings reviews: with
the only candidate at its freshness deadline and the servo ACQUIRE or LOCKED, the source becomes NONE and the
servo enters HOLDOVER with A = I; where another candidate is left that ranks above the station, the source
becomes that one and the servo ACQUIRE. (A beacon that is withdrawn leaves current start: DESIGN CHOICE, log
40.) -/
def Obligations.ReviewChoosesTheSource : Prop :=
  (∀ u : Station,
    let t := u.review
    let src := t.sel.source
    (∀ c, c ∈ t.sel.cands ↔
      CandidateNow u c.slot c.cls ∧ ∃ x ∈ u.sel.cands, x.slot = c.slot ∧ x.deadline = c.deadline) ∧
    t.sel.cands.Pairwise (fun a b => a.cls < b.cls ∨ a.cls = b.cls ∧ a.slot ≤ b.slot) ∧
    (u.time.external = true ∧ u.sel.extPresent = true → src = .external) ∧
    (u.time.external = false ∨ u.sel.extPresent = false →
      (t.sel.cands = [] → src = .none) ∧
      ∀ b rest, t.sel.cands = b :: rest →
        (Above b.cls b.slot u.sel.standing u.seat.slot → src = .bus b.slot) ∧
        (¬ Above b.cls b.slot u.sel.standing u.seat.slot → src = .none)) ∧
    (u.sel.eligible = false → t.sel.announced = 15) ∧
    (u.sel.eligible = true →
      (TakenLocked u src →
        (src = .external → t.sel.announced = 1) ∧
        ∀ r k, src = .bus r → (u.peer r).cls = some k → t.sel.announced = min 12 (k + 1)) ∧
      (TakenHoldover u src →
        (u.servo.expired = true ∨ u.sel.lockRecord = none → t.sel.announced = 13) ∧
        ∀ r, u.servo.expired = false → u.sel.lockRecord = some r →
          t.sel.announced = min 12 (r.cls + 1)) ∧
      (¬ TakenLocked u src → ¬ TakenHoldover u src → t.sel.announced = 13)) ∧
    (∀ r, src = .bus r → t.sel.standing = if u.sel.eligible = true then 13 else 15) ∧
    (src = .none ∨ src = .external → t.sel.standing = t.sel.announced) ∧
    (TakenLocked u src → t.sel.lockRecord = some ⟨decide (src = .external), t.sel.announced⟩) ∧
    (¬ TakenLocked u src → t.sel.lockRecord = u.sel.lockRecord) ∧
    (u.sel.beaconing = .off → MayBeacon u t.sel →
      t.sel.beaconing = .claiming ∧
        t.sel.claim = some (u.localTime + (u.seat.slot.val + 1) * 800000)) ∧
    (u.sel.beaconing = .claiming → ¬ MayBeacon u t.sel →
      t.sel.beaconing = .off ∧ t.sel.claim = none) ∧
    (u.sel.beaconing = .on → ¬ MayBeacon u t.sel →
      t.sel.beaconing = .off ∧ t.sel.interval = none ∧
        ∀ e ∈ t.sched.timing, e.kind = .beacon → e.onLane = true ∧ e.withdrawn = true) ∧
    ((u.sel.beaconing = .off ↔ ¬ MayBeacon u t.sel) →
      t.sel.beaconing = u.sel.beaconing ∧ t.sel.claim = u.sel.claim ∧
        t.sel.interval = u.sel.interval ∧ t.sched.timing = u.sched.timing) ∧
    t.sel.eligible = u.sel.eligible ∧ t.sel.extPresent = u.sel.extPresent ∧
    t.sel.lockedSource = u.sel.lockedSource ∧ t.sel.previous = u.sel.previous ∧
    t.sel.current = u.sel.current ∧ t.sel.lastHandover = u.sel.lastHandover ∧
    ServoTakes u t src ∧ t.roster = u.roster ∧ t.seat = u.seat ∧ t.lane = u.lane ∧
    t.share = u.share ∧ t.rx = u.rx ∧ t.localTime = u.localTime) ∧
  ∀ (s : State) (p : Slot), s.hold = false → (∃ c ∈ s.sel.cands, c.slot = p ∧ c.deadline ≤ s.localTime) →
    s.time.external = false ∨ s.sel.extPresent = false → s.sel.source = .bus p →
    (s.servo.state = .acquire ∨ s.servo.state = .locked) →
    ((∀ c ∈ s.sel.cands, c.slot = p) →
      ∃ t, exec (.candidateDeadline p) s = .next t ∧ t.sel.cands = [] ∧ t.sel.source = .none ∧
        ServoTakes s.toStation t.toStation .none ∧ t.servo.state = .holdover ∧
        (s.sel.eligible = false → t.sel.announced = 15) ∧
        (s.sel.eligible = true → s.servo.holdLimit = 0 ∨ s.sel.lockRecord = none →
          t.sel.announced = 13) ∧
        (∀ r, s.sel.eligible = true → 0 < s.servo.holdLimit → s.sel.lockRecord = some r →
          t.sel.announced = min 12 (r.cls + 1)) ∧
        t.sel.standing = t.sel.announced ∧ t.sel.lockRecord = s.sel.lockRecord) ∧
    ∀ q k, q ≠ p → (∀ c ∈ s.sel.cands, c.slot = p ∨ c.slot = q) → (∃ c ∈ s.sel.cands, c.slot = q) →
      CandidateNow s.toStation q k → k < 13 → Above k q s.sel.standing s.seat.slot →
      ∃ t, exec (.candidateDeadline p) s = .next t ∧ t.sel.source = .bus q ∧
        ServoTakes s.toStation t.toStation (.bus q) ∧ t.servo.state = .acquire ∧
        (∀ c ∈ t.sel.cands, c.slot = q ∧ c.cls = k) ∧ t.sel.cands ≠ [] ∧
        t.sel.standing = (if s.sel.eligible = true then 13 else 15) ∧
        (s.servo.state = .acquire ∨ s.sel.lockedSource = some s.sel.source →
          t.sel.announced = t.sel.standing ∧ t.sel.lockRecord = s.sel.lockRecord)

/-! ### External time and the discipline servo (R129, R130, R152 to R163) -/

/-- R129, R130, R156: an edge is stamped only while the external flag is set. One that finds a valid
announcement uses it and restarts the loss timer at 3 s; the first one makes the signal present and the
source EXTERNAL, and forms no sample. An announcement more than 1.1 s old is discarded; at exactly 1.1 s no
edge pairs with it (DESIGN CHOICE, log 21). The loss timer's expiry makes the signal lost. An expiry that is
not due changes nothing (DESIGN CHOICE, log 3); one that comes late acts (DESIGN CHOICE, log 4). -/
def Obligations.ExternalEdgesPairWithAnnouncements : Prop :=
  ∀ (s : State) (air : Bool), s.hold = false →
    (s.time.external = false → exec (.extPpsEdge air) s = .next s) ∧
    (s.time.external = true → s.servo.announcement = none →
      exec (.extPpsEdge air) s = .next { s with toStation := closing s.toStation }) ∧
    (∀ x, s.servo.announcement = some x →
      (s.time.external = true → x.arrival + 110000000 = s.localTime →
        exec (.extPpsEdge air) s = .next { s with toStation := closing s.toStation }) ∧
      (s.time.external = true → x.arrival + 110000000 < s.localTime →
        exec (.extPpsEdge air) s =
          .next { s with
            toStation :=
              closing { s.toStation with servo := { s.servo with announcement := none } } }) ∧
      (s.time.external = true → s.localTime < x.arrival + 110000000 → s.servo.extPresent = false →
        ∃ t, exec (.extPpsEdge air) s = .next t ∧ t.servo.announcement = none ∧
          t.servo.extLoss = some (s.localTime + 300000000) ∧ t.servo.extPresent = true ∧
          t.sel.extPresent = true ∧ t.sel.source = .external ∧ t.roster = s.roster ∧
          t.sched.express = s.sched.express ∧ BlocksKept s.toStation t.toStation) ∧
      (x.arrival + 110000000 < s.localTime →
        exec .announcementStale s =
          .next { s with
            toStation :=
              ({ s.toStation with servo := { s.servo with announcement := none } } : Station).drive }) ∧
      (s.localTime ≤ x.arrival + 110000000 → exec .announcementStale s = .next s)) ∧
    ∀ d, s.servo.extLoss = some d →
      (d ≤ s.localTime →
        ∃ t, exec .extLossExpiry s = .next t ∧ t.servo.extLoss = none ∧ t.servo.extPresent = false ∧
          t.sel.extPresent = false ∧ t.sel.source ≠ .external ∧ t.roster = s.roster ∧
          t.sched.express = s.sched.express ∧ BlocksKept s.toStation t.toStation) ∧
      (s.localTime < d → exec .extLossExpiry s = .next s)

namespace Sys2Proof.Slice0

/-- R155: x modulo the range of T, read as signed: an odd half of the range is negative. -/
def asSigned (x : Int) : Int :=
  let m := x % 4294967296000000000
  if m < 2147483648000000000 then m else m - 4294967296000000000

/-- x brought into ±m. -/
def within (m x : Int) : Int := if x < -m then -m else if m < x then m else x

/-- R158: a sample of the difference `d` asks for a step in this state. -/
def WantsStep (s : Station) (d : Int) : Prop :=
  (s.servo.state = .free ∨ s.servo.state = .acquire) ∧ (d < -1000 ∨ 1000 < d)

/-- R125, R158: the step taken. -/
def SteppedBy (s t : Station) (d : Int) : Prop :=
  (t.time.total : Int) = (s.time.total + d) % 4294967296000000000 ∧ t.time.ns < 1000000000 ∧
    t.time.frac = s.time.frac ∧ t.time.stepCount = (s.time.stepCount + 1) % 65536 ∧
    t.time.lastStep = some d ∧ t.time.resyncSub = true ∧ t.time.resyncFrame = true ∧
    t.time.resyncPps = true ∧ t.time.a = s.servo.i ∧ t.servo.a = s.servo.i ∧ t.servo.i = s.servo.i ∧
    t.servo.inCount = 0 ∧ t.servo.lastSample = some ⟨d, none, .stepped⟩ ∧ t.servo.state = .acquire ∧
    t.port.timingCause = true ∧ t.sel.steppedPrevious = true ∧ t.sel.steppedCurrent = true ∧
    ∀ (q : Slot) (b : BeaconRec), (t.peer q).beacon = some b → b.void = true

/-- R161: the lock decision on a slewed sample with error `e`. -/
def LockDecided (s t : Station) (e : Int) : Prop :=
  (s.servo.state ≠ .locked → -100 ≤ e → e ≤ 100 →
    (s.servo.inCount + 1 < 4 → t.servo.state = .acquire ∧ t.servo.inCount = s.servo.inCount + 1) ∧
    (4 ≤ s.servo.inCount + 1 →
      t.servo.state = .locked ∧ t.servo.inCount = 0 ∧ t.servo.outCount = 0 ∧
        t.servo.unlocked = .stopped ∧ t.sel.lockedSource = some s.servo.source ∧
        t.alarm.has referenceLost = false ∧ t.alarm.has holdoverExpired = false)) ∧
  (s.servo.state ≠ .locked → e < -100 ∨ 100 < e → t.servo.state = .acquire ∧ t.servo.inCount = 0) ∧
  (s.servo.state = .locked → -500 ≤ e → e ≤ 500 → t.servo.state = .locked ∧ t.servo.outCount = 0) ∧
  (s.servo.state = .locked → e < -500 ∨ 500 < e →
    (s.servo.outCount + 1 < 2 →
      t.servo.state = .locked ∧ t.servo.outCount = s.servo.outCount + 1) ∧
    (2 ≤ s.servo.outCount + 1 →
      t.servo.state = .acquire ∧ t.servo.inCount = 0 ∧
        t.servo.unlocked = .running (s.localTime + 1000000000)))

/-- R158 to R161, R164: a sample of difference `d` with rate factor `f`, judged in FREE, ACQUIRE or LOCKED. -/
def Judged (s t : Station) (f d : Int) (air : Bool) : Prop :=
  (WantsStep s d → air = false → SteppedBy s t d) ∧
  (¬ WantsStep s d ∨ air = true →
    let limit : Int := if s.servo.state = .locked ∧ (d < -1000 ∨ 1000 < d) then 1000 else 1000000
    let e := within limit d
    let i := if e = d then within 100000 (s.servo.i + (f * e).tdiv 64) else s.servo.i
    let a := within 100000 (i + (f * e).tdiv 4)
    t.servo.i = i ∧ t.servo.a = a ∧ t.time = { s.time with a := a } ∧ LockDecided s t e ∧
      (¬ WantsStep s d → t.servo.lastSample = some ⟨d, some e, .slewed⟩) ∧
      (WantsStep s d → t.servo.lastSample = some ⟨d, some e, .deferred⟩) ∧
      (WantsStep s d → d ≤ -1500 ∨ 1500 ≤ d → t.alarm.has timeOffsetHigh = true) ∧
      (-500 ≤ e → e ≤ 500 → t.alarm.has timeOffsetHigh = false)) ∧
  (t.servo.state ≠ s.servo.state → t.port.timingCause = true) ∧ t.servo.source = s.servo.source

/-- R134, R136: every other candidate ranks below slot `p` with class `cls`. -/
def OthersBelow (s : Station) (cls : Nat) (p : Slot) : Prop :=
  ∀ c ∈ s.sel.cands, c.slot ≠ p → ∀ k, CandidateNow s c.slot k → Above cls p k c.slot

end Sys2Proof.Slice0

/-- R154, R155, R157 to R161: the samples. A valid edge with the signal present and the source EXTERNAL has D = S −
stamp and f = 1. A BEACON of the followed slot that follows its record by one seq, carries its previous start, is not
stepped and meets a record that is not void has D = Tp + delay − Sp and f = 16. Each steps the time or slews the rate,
and counts towards lock. Where one of these conditions fails no sample is formed, and the servo and the time stay as
they are, but that a valid edge uses its announcement and restarts the loss timer. (For a BUS pair whose review keeps
the source, the other candidates ranking below it: where it would move it, the order is a free value, log 9.) (The
nanoseconds of Tp are taken as spelled: DESIGN CHOICE, log 43.) -/
def Obligations.SamplesStepOrSlewTheTime : Prop :=
  ∀ (s : State) (air : Bool), s.hold = false →
    (∀ x, s.servo.state ≠ .holdover → s.time.external = true → s.sel.extPresent = true →
      s.servo.extPresent = true → s.sel.source = .external → s.servo.source = .external →
      s.servo.announcement = some x →
      s.localTime < x.arrival + 110000000 →
      ∃ t, exec (.extPpsEdge air) s = .next t ∧ t.servo.announcement = none ∧
        t.servo.extLoss = some (s.localTime + 300000000) ∧
        Judged s.toStation t.toStation 1
          (asSigned ((x.second : Int) * 1000000000 - s.time.total)) air) ∧
    (∀ x, s.time.external = true → s.servo.extPresent = true → s.servo.announcement = some x →
      s.localTime < x.arrival + 110000000 →
      (s.servo.source ≠ .external ∨ s.servo.state = .holdover) →
      exec (.extPpsEdge air) s =
        .next { s with
          toStation := closing
            { s.toStation with
              servo :=
                { s.servo with announcement := none, extLoss := some (s.localTime + 300000000) } } }) ∧
    (∀ (key : Byte) (p : Slot) (f : RxFrame) (cls : Nat) (tp : Stamp) (r : BeaconRec),
      s.servo.state ≠ .holdover → Hears s key p f (.beacon cls (some tp) false) → (s.peer p).state = .present →
      cls ≤ 12 →
      (s.peer p).beacon = some r → r.void = false → f.seq = r.seq + 1 →
      s.sel.source = .bus p → s.servo.source = .bus p → OthersBelow s.toStation cls p →
      13 ≤ s.sel.standing → (s.time.external = false ∨ s.sel.extPresent = false) →
      ∃ t, exec (.frameHandover f air) s = .next t ∧
        Judged s.toStation t.toStation 16
          (asSigned
            ((tp.total : Int) + ((p.val : Int) - s.seat.slot.val).natAbs * s.servo.pitch / 16 -
              r.sp.total)) air) ∧
    ∀ (key : Byte) (p : Slot) (f : RxFrame) (cls : Nat) (previous : Option Stamp) (stepped : Bool),
      Hears s key p f (.beacon cls previous stepped) → (s.peer p).state = .present →
      let noSample := ∃ t, exec (.frameHandover f air) s = .next t ∧ t.servo = s.servo ∧ t.time = s.time
      (s.sel.source = .bus p → s.servo.source = .bus p → cls ≤ 12 → OthersBelow s.toStation cls p →
        13 ≤ s.sel.standing → (s.time.external = false ∨ s.sel.extPresent = false) →
        (s.servo.state = .holdover ∨ previous = none ∨ stepped = true ∨
          ∀ r, (s.peer p).beacon = some r → r.void = true ∨ f.seq ≠ r.seq + 1) →
        noSample) ∧
      (s.servo.source ≠ .bus p →
        (s.time.external = true → s.sel.extPresent = true → s.sel.source = .external → noSample) ∧
        ∀ q k, q ≠ p → s.sel.source = .bus q → (s.time.external = false ∨ s.sel.extPresent = false) →
          (∀ c ∈ s.sel.cands, c.slot ≠ q → c.slot ≠ p →
            ∀ j, CandidateNow s.toStation c.slot j → Above k q j c.slot) →
          (∃ c ∈ s.sel.cands, c.slot = q) →
          CandidateNow s.toStation q k → Above k q s.sel.standing s.seat.slot → Above k q cls p →
          noSample)

/-- R19, R20, R162, R163, R201: the timers that raise or clear an internal condition: 20 µs of dominant
lane make it STUCK and raise LANE_STUCK, which clears 100 ms after the last stuck period; 10 s away from
LOCKED raise REFERENCE_LOST; the end of the holdover timer raises HOLDOVER_EXPIRED; the watchdog raises
CARD_UNRESPONSIVE and makes card_ok no. Before its time none does anything (DESIGN CHOICE, log 3); one that
comes late acts (DESIGN CHOICE, log 4). An own attempt in progress when a stuck period begins is kept (DESIGN CHOICE,
log 28). -/
def Obligations.TimersRaiseTheirAlarms : Prop :=
  ∀ s : State, s.hold = false →
    (s.lane.line ≠ .stuck →
      (2000 ≤ s.lane.domRun →
        ∃ t, exec .stuckBegins s = .next t ∧
          t.lane =
            { s.lane with
              line := .stuck, marks := ⟨false, false, false⟩, delimiter := false, endLeft := 0
              stuckClear := none } ∧
          Raised s.toStation t.toStation laneStuck .critical ∧
          t.seat = s.seat ∧ t.roster = s.roster ∧ t.time = s.time ∧ t.servo = s.servo) ∧
      (s.lane.domRun < 2000 → exec .stuckBegins s = .next s)) ∧
    (∀ d, s.lane.stuckClear = some d →
      (d ≤ s.localTime →
        ∃ t, exec .stuckClearExpiry s = .next t ∧ t.lane = { s.lane with stuckClear := none } ∧
          Cleared s.toStation t.toStation laneStuck ∧
          t.seat = s.seat ∧ t.roster = s.roster ∧ t.time = s.time ∧ t.servo = s.servo) ∧
      (s.localTime < d → exec .stuckClearExpiry s = .next s)) ∧
    (∀ d, s.servo.unlocked = .running d →
      (d ≤ s.localTime →
        ∃ t, exec .unlockedExpiry s = .next t ∧ t.servo = { s.servo with unlocked := .expired } ∧
          Raised s.toStation t.toStation referenceLost .major ∧ t.roster = s.roster ∧
          BlocksKept s.toStation t.toStation) ∧
      (s.localTime < d → exec .unlockedExpiry s = .next s)) ∧
    (∀ d, s.servo.state = .holdover → s.servo.holdTimer = some d →
      (d ≤ s.localTime →
        ∃ t, exec .holdoverExpiry s = .next t ∧ t.alarm.has holdoverExpired = true ∧
          t.port.timingCause = true ∧ t.roster = s.roster ∧
          (s.sel.cands = [] → s.time.external = false → s.sel.source = .none →
            t.servo = { s.servo with holdTimer := none, expired := true }) ∧
          BlocksKept s.toStation t.toStation) ∧
      (s.localTime < d → exec .holdoverExpiry s = .next s)) ∧
    ∀ d, s.port.watchdog = .running d →
      (d ≤ s.localTime →
        ∃ t, exec .watchdogExpiry s = .next t ∧
          t.port =
            { s.port with
              watchdog := .expired, cardOk := false, missedCause := t.port.missedCause } ∧
          Raised s.toStation t.toStation cardUnresponsive .major ∧ t.roster = s.roster ∧
          t.seat = s.seat ∧ t.lane = s.lane ∧ t.time = s.time ∧ t.servo = s.servo) ∧
      (s.localTime < d → exec .watchdogExpiry s = .next s)

namespace Sys2Proof.Slice0

/-- R173: an ALARM frame that has not yet won its key. -/
abbrev Unwon (e : Entry) : Prop := e.kind = .alarm ∧ e.seq = none

/-- R173, R174: the own list placed as an ALARM frame at the tail of CONTROL, where the seat state permits it
and no unwon ALARM frame is queued; with CONTROL full, the retry timer at 4 ms instead. -/
def withAlarmPlaced (s : Station) : Station :=
  if (s.seat.state = .active ∨ s.seat.state = .leaving ∧ s.seat.leavePlaced = false) ∧
      ∀ e ∈ s.sched.control, ¬ Unwon e then
    if s.sched.control.length < 8 then
      { s with
        sched :=
          { s.sched with
            control := s.sched.control ++
              [Entry.placed .alarm .all 0 (wireAlarms s) none none] }
        alarm := { s.alarm with retry := none } }
    else { s with alarm := { s.alarm with retry := some (s.localTime + 400000) } }
  else s

end Sys2Proof.Slice0

/-- R173 to R175: each of the three timers places the own list as it stands; the refresh timer restarts at
2 s, the stagger and the retry timer stop. Before its time none does anything (DESIGN CHOICE, log 3); one that
comes late acts, and the refresh timer restarts from the present local time (DESIGN CHOICE, log 4). -/
def Obligations.AlarmTimersPlaceTheOwnList : Prop :=
  ∀ (s : State) (d : Nat), s.hold = false →
    (s.alarm.refresh = some d →
      (d ≤ s.localTime →
        exec .refreshExpiry s =
          .next { s with
            toStation := closing
              (withAlarmPlaced
                { s.toStation with
                  alarm := { s.alarm with refresh := some (s.localTime + 200000000) } }) }) ∧
      (s.localTime < d → exec .refreshExpiry s = .next s)) ∧
    (s.alarm.stagger = some d →
      (d ≤ s.localTime →
        exec .staggerExpiry s =
          .next { s with
            toStation := closing
              (withAlarmPlaced { s.toStation with alarm := { s.alarm with stagger := none } }) }) ∧
      (s.localTime < d → exec .staggerExpiry s = .next s)) ∧
    (s.alarm.retry = some d →
      (d ≤ s.localTime →
        exec .placementRetryExpiry s =
          .next { s with
            toStation := closing
              (withAlarmPlaced { s.toStation with alarm := { s.alarm with retry := none } }) }) ∧
      (s.localTime < d → exec .placementRetryExpiry s = .next s))

/-! ### The cabinet view (R176 to R183) -/

namespace Sys2Proof.Slice0

/-- R176: the view entries of a received list: without the two synthetic codes, in the list's order. -/
def offeredBy (p : Slot) (entries : List AlarmEntry) : List ViewEntry :=
  (entries.filter fun e => e.code != 0x0010 && e.code != 0x0011).map fun e =>
    { source := p, code := e.code, sev := e.sev, subject := e.subject, raised := e.raised, stale := false }

/-- R176: `x` is the first entry of its identity. -/
def FirstOf (l : List ViewEntry) (x : ViewEntry) : Prop :=
  ∃ before after, l = before ++ x :: after ∧ ∀ y ∈ before, y.ident ≠ x.ident

/-- R176: an own entry in the view. -/
def ownShown (u : Station) (e : AlarmEntry) : ViewEntry :=
  { source := u.seat.slot, code := e.code, sev := e.sev, subject := e.subject, raised := e.raised
    stale := false }

/-- R183: the cursor after a change of the view: on its entry, or the first that followed it and remains, or
END. -/
def CursorFollows (s t : Station) : Prop :=
  (s.alarm.cursor = none → t.alarm.cursor = none) ∧
    ∀ before e after, s.alarm.view = before ++ e :: after → s.alarm.cursor = some e.ident →
      t.alarm.cursor =
        ((e :: after).find? fun x => t.alarm.view.any fun y => decide (y.ident = x.ident)).map
          ViewEntry.ident

/-- R177, R180: the entries of a list, offered one after the other to the full view `v`, leave `w`: each displaces
the last entry when it is the more severe, and is kept out otherwise. -/
def OfferedToFull : List ViewEntry → List ViewEntry → List ViewEntry → Prop
  | [], v, w => w = v
  | n :: more, v, w =>
    ∃ init last u, v = init ++ [last] ∧ OfferedToFull more u w ∧
      (n.sev.number < last.sev.number →
        (∀ x, x ∈ u ↔ x ∈ init ∨ x = n) ∧ u.Pairwise fun a b => a.before b = true) ∧
      (last.sev.number ≤ n.sev.number → u = v)

/-- The markers of all other slots are as they were. -/
def OtherMarkersKept (s t : Station) (p : Slot) : Prop :=
  ∀ q : Slot, q ≠ p → t.alarm.markers.get q = s.alarm.markers.get q

end Sys2Proof.Slice0

/-- R176, R178, R180, R181, R183, R185: the merge of an ALARM frame's list. With room, the sender's entries in the
view are then those of the list, the first of each identity and none with a synthetic code; all others stay, and the
cursor follows. In a view of 128 that lacks one entry of the list alone, that entry displaces the last when it is
the more severe and is kept out otherwise; either way ALARM_VIEW_FULL is raised where it does not stand, and then
every own entry that is not in the view, its own among them, is offered to the full view in the same way, best first,
and the cursor follows. A removal that leaves 96 entries or fewer clears it, and brings in, with room, every own entry
and every synthetic one. (Bits of an entry to which R205 gives no meaning are ignored: DESIGN CHOICE, log 43.) -/
def Obligations.AlarmFramesMergeIntoTheView : Prop :=
  ∀ (s : State) (key : Byte) (p : Slot) (f : RxFrame) (air : Bool) (listSeq : Byte)
    (entries : List AlarmEntry), Hears s key p f (.alarm listSeq entries) → (s.peer p).state = .present →
    OwnListBounded s.toStation → ViewBounded s.toStation → ViewOrdered s.toStation →
    CursorInView s.toStation →
    let offered := offeredBy p entries
    let full := s.alarm.has alarmViewFull
    (full = false →
      (s.alarm.view.filter fun x => x.source != p).length + offered.length ≤ 128 →
      ∃ t, exec (.frameHandover f air) s = .next t ∧
        (∀ x, x ∈ t.alarm.view ↔ x ∈ s.alarm.view ∧ x.source ≠ p ∨ FirstOf offered x) ∧
        t.alarm.own = s.alarm.own ∧ CursorFollows s.toStation t.toStation ∧
        t.alarm.viewChanged = (s.alarm.viewChanged || decide (t.alarm.view ≠ s.alarm.view))) ∧
    (∀ (init : List ViewEntry) (last n : ViewEntry), s.alarm.view = init ++ [last] →
      s.alarm.view.length = 128 → FirstOf offered n → (∀ x ∈ s.alarm.view, x.ident ≠ n.ident) →
      (∀ x ∈ s.alarm.view, x.source = p → FirstOf offered x) →
      (∀ x, FirstOf offered x → x = n ∨ x ∈ s.alarm.view) →
      ∃ t, exec (.frameHandover f air) s = .next t ∧
        (full = true →
          t.alarm.own = s.alarm.own ∧
          (n.sev.number < last.sev.number →
            (∀ x, x ∈ t.alarm.view ↔ x ∈ init ∨ x = n) ∧ CursorFollows s.toStation t.toStation) ∧
          (last.sev.number ≤ n.sev.number →
            t.alarm.view = s.alarm.view ∧ t.alarm.cursor = s.alarm.cursor)) ∧
        (full = false →
          t.alarm.own = s.alarm.own ++ [⟨alarmViewFull, .warning, none, s.time.sec⟩] ∧
          t.alarm.ownSeq = s.alarm.ownSeq + 1 ∧ CursorFollows s.toStation t.toStation ∧
          ∃ view own, OfferedToFull [n] s.alarm.view view ∧ OfferedToFull own view t.alarm.view ∧
            (∀ x, x ∈ own ↔
              (∃ e ∈ t.alarm.own, x = ownShown s.toStation e) ∧ ∀ y ∈ view, y.ident ≠ x.ident) ∧
            own.Pairwise fun a b => a.before b = true)) ∧
    (full = true →
      let kept := s.alarm.view.filter fun x =>
        x.source != p || offered.any fun y => decide (y.ident = x.ident)
      kept.length < s.alarm.view.length → kept.length ≤ 96 →
      kept.length + s.alarm.own.length + 16 + offered.length ≤ 128 →
      ∃ t, exec (.frameHandover f air) s = .next t ∧ t.alarm.ownSeq = s.alarm.ownSeq + 1 ∧
        t.alarm.own = (s.alarm.own.filter fun e => e.code != alarmViewFull) ∧
        (∀ x, x.source ≠ p → x.source ≠ s.seat.slot → (x ∈ t.alarm.view ↔ x ∈ s.alarm.view)) ∧
        (∀ x, x.source = p → (x ∈ t.alarm.view ↔ FirstOf offered x)) ∧
        (∀ e ∈ t.alarm.own, ∃ x ∈ t.alarm.view, x.ident = ⟨s.seat.slot, e.code, e.subject⟩) ∧
        (∀ q : Slot, s.alarm.markers.get q ≠ .none → ∃ x ∈ t.alarm.view, x.source = s.seat.slot ∧
          x.subject = some q ∧ (x.code = cardMissing ∨ x.code = cardRemoved)))

/-- R170 to R172, R176, R178, R179, R185: what else enters and leaves the view. A LEAVE makes its sender's marker
REMOVED, and, in a view with room, takes the sender's entries out and CARD_REMOVED in; a JOIN takes the marker away;
any other frame heard from an ABSENT or SILENT sender takes a marker MISSING away. A RAISE puts its entry into a
view with room, with the present second, and the cursor stays; a CLEAR takes its entry out. (In a review that the
LEAVE brings nothing moves, where there is no candidate and no source.) -/
def Obligations.MarkersAndOwnEntriesEnterTheView : Prop :=
  (∀ (s : State) (key : Byte) (p : Slot) (f : RxFrame) (air : Bool),
    (∀ generation handover reason, Hears s key p f (.leave generation handover reason) →
      (s.peer p).state ≠ .left → (∀ since, s.alarm.markers.get p ≠ .removed since) →
      ∃ t, exec (.frameHandover f air) s = .next t ∧
        t.alarm.markers.get p = .removed s.time.sec ∧ OtherMarkersKept s.toStation t.toStation p ∧
        (s.sel.cands = [] → s.sel.source = .none → s.time.external = false →
          s.alarm.has alarmViewFull = false → s.alarm.view.length < 128 →
          ∀ x, x ∈ t.alarm.view ↔
            x ∈ s.alarm.view ∧ x.source ≠ p ∧
                ¬ (x.source = s.seat.slot ∧ x.subject = some p ∧
                  (x.code = cardMissing ∨ x.code = cardRemoved)) ∨
              x = ⟨s.seat.slot, cardRemoved, .warning, some p, s.time.sec, false⟩)) ∧
    (∀ generation cardType cls cardOk cause first,
      Hears s key p f (.join generation cardType cls cardOk cause first) →
      ∃ t, exec (.frameHandover f air) s = .next t ∧ t.alarm.markers.get p = .none ∧
        OtherMarkersKept s.toStation t.toStation p) ∧
    ∀ c, Hears s key p f c → c.isJoin = false →
      (∀ generation handover reason, c ≠ .leave generation handover reason) →
      ((s.peer p).state = .absent ∨ (s.peer p).state = .silent) →
      ∃ t, exec (.frameHandover f air) s = .next t ∧ OtherMarkersKept s.toStation t.toStation p ∧
        (∀ since, s.alarm.markers.get p = .missing since → t.alarm.markers.get p = .none) ∧
        ((∀ since, s.alarm.markers.get p ≠ .missing since) →
          t.alarm.markers.get p = s.alarm.markers.get p)) ∧
  ∀ (s : State) (code : Word16) (sub : Option Byte) (subject : Option Slot), Serving s →
    4096 ≤ code.toNat → sub.map BitVec.toNat = subject.map Fin.val →
    s.alarm.has cardUnresponsive = false → s.alarm.has alarmViewFull = false →
    OwnListBounded s.toStation → ViewBounded s.toStation → ViewOrdered s.toStation →
    CursorInView s.toStation →
    (∀ e ∈ s.alarm.own, ownShown s.toStation e ∈ s.alarm.view) →
    (∀ x ∈ s.alarm.view, x.source = s.seat.slot → x.code ≠ cardMissing → x.code ≠ cardRemoved →
      ∃ e ∈ s.alarm.own, x = ownShown s.toStation e) →
    (∀ (sev : Byte) (severity : Severity), sev.toNat = severity.number →
      (∀ e ∈ s.alarm.own, e.code = code → e.subject ≠ subject) → s.alarm.cardEntries < 22 →
      s.alarm.view.length < 128 →
      ∃ t, exec (.raise code sev sub) s = .next t ∧
        (∀ x, x ∈ t.alarm.view ↔
          x ∈ s.alarm.view ∨ x = ⟨s.seat.slot, code, severity, subject, s.time.sec, false⟩) ∧
        t.alarm.viewChanged = true ∧ t.alarm.cursor = s.alarm.cursor ∧ t.outs.attn = true) ∧
    ((∃ e ∈ s.alarm.own, e.code = code ∧ e.subject = subject) →
      ∃ t, exec (.clear code sub) s = .next t ∧
        (∀ x, x ∈ t.alarm.view ↔ x ∈ s.alarm.view ∧ x.ident ≠ ⟨s.seat.slot, code, subject⟩) ∧
        t.alarm.viewChanged = true ∧ CursorFollows s.toStation t.toStation ∧ t.outs.attn = true)

/-! ### The card port (R28, R77, R78, R82, R113, R115, R130, R171, R184 to R201) -/

/-- R188, R189, R198, R201: every request that reaches the end of its request phase makes card_ok yes, clears
CARD_UNRESPONSIVE, restarts a watchdog in ACTIVE, and leaves its reply in the port. Bytes that spell no request
are refused BAD_ARGUMENT; RESTART waits for the end of its transaction; a transaction cut short has no reply. In
a reset hold, and while a RESTART waits, no request is served (DESIGN CHOICE, log 12). (CARD_UNRESPONSIVE is
cleared before the request's own effect: DESIGN CHOICE, log 42.) -/
def Obligations.RequestsKeepTheCardAlive : Prop :=
  (∀ (c : Instr) (s : State), isRequest c = true →
    (Serving s →
      ∃ t reply, exec c s = .next t ∧ t.port.cardOk = true ∧ t.alarm.has cardUnresponsive = false ∧
        t.port.request = some c ∧ t.port.reply = some reply ∧
        reply.wire = replyBytes reply.result reply.causes reply.body ∧ reply.causes = t.causes ∧
        (s.seat.state = .active → c ≠ .release → 0 < s.port.timeout →
          t.port.watchdog = .running (s.localTime + s.port.timeout * 10000000))) ∧
    (¬ Serving s → exec c s = .next s)) ∧
  ∀ s : State,
    (Serving s →
      (∀ code args, exec (.unknownRequest code args) s =
        .next { s with
          toStation := served s.cardAlive (.unknownRequest code args) .badArgument .empty }) ∧
      exec .restart s =
        .next { s with
          toStation :=
            served { s.cardAlive with port := { s.cardAlive.port with restartPending := true } }
              .restart .ok .empty } ∧
      exec .transactionDiscarded s =
        .next { s with
          toStation := { s.toStation with port := { s.port with request := none, reply := none } } }) ∧
    (¬ Serving s → exec .transactionDiscarded s = .next s)

namespace Sys2Proof.Slice0

/-- R205, R206: the operands that the bytes of a request carry. -/
def FitsItsBytes : Instr → Prop
  | .send _ _ _ _ payload => payload.length ≤ 256
  | .setPeriodic _ _ _ _ _ payload => payload.length ≤ 256
  | .raise _ severity subject => severity.toNat < 4 ∧ ∀ b ∈ subject, b.toNat < 16
  | .clear _ subject => ∀ b ∈ subject, b.toNat < 16
  | .unknownRequest code args => requestKnown code args = false
  | _ => True

/-- R206: the number of argument bytes of the codes whose number is fixed. -/
def fixedLength : Nat → Option Nat
  | 0x01 => some 22
  | 0x03 => some 1
  | 0x04 => some 0
  | 0x07 => some 1
  | 0x08 => some 3
  | 0x09 => some 3
  | 0x0A => some 0
  | 0x0B => some 4
  | 0x0C => some 0
  | 0x0E => some 0
  | 0x0F => some 0
  | 0x10 => some 0
  | 0x11 => some 0
  | _ => none

end Sys2Proof.Slice0

/-- R188, R206: the bytes of a request spell it, every operand at every value that they carry; every request whose
operands fit has bytes. A code outside the table, or a number of arguments that does not fit the code, spells none:
VIEW has a second byte for ROSTER alone, READ for PEEK alone. Neither does a selector, mode or place outside the table
(of VIEW, READ and SEEK: DESIGN CHOICE, log 31). The part returns 0xFF through the request phase, 0x00 until the reply
is ready, the reply, and 0xFF behind it; how many wait bytes there are is timing (log 24). -/
def Obligations.RequestBytesSpellTheirCommand : Prop :=
  (∀ (i : Instr) (code : Byte) (args : List Byte), requestBytes i = some (code, args) →
    isRequest i = true ∧ FitsItsBytes i ∧ decodeRequest code args = i) ∧
  (∀ i : Instr, isRequest i = true → FitsItsBytes i → ∃ x, requestBytes i = some x) ∧
  (∀ (code : Byte) (args : List Byte),
    (code.toNat = 0 ∨ 17 < code.toNat → requestKnown code args = false) ∧
    (∀ n, fixedLength code.toNat = some n → args.length ≠ n → requestKnown code args = false) ∧
    (code.toNat = 2 ∨ code.toNat = 13 → args.length < 5 ∨ 261 < args.length →
      requestKnown code args = false) ∧
    (code.toNat = 5 ∨ code.toNat = 6 → args.length = 0 ∨ 2 < args.length →
      requestKnown code args = false) ∧
    (∀ b more, args = b :: more →
      (code.toNat = 5 → (args.length = 2 ↔ b.toNat ≠ 1) → requestKnown code args = false) ∧
      (code.toNat = 6 → (args.length = 2 ↔ b.toNat ≠ 4) → requestKnown code args = false) ∧
      (code.toNat = 5 → 4 < b.toNat → requestKnown code args = false) ∧
      (code.toNat = 6 → 4 < b.toNat → requestKnown code args = false) ∧
      (code.toNat = 7 → 1 < b.toNat → requestKnown code args = false)) ∧
    (requestKnown code args = false → decodeRequest code args = .unknownRequest code args)) ∧
  ∀ (p : Port) (waits : Nat),
    (∀ k, p.reply = none → p.returned waits k = 0xFF) ∧
    ∀ (i : Instr) (code : Byte) (args : List Byte) (r : Reply), p.request = some i →
      requestBytes i = some (code, args) → p.reply = some r →
      (∀ k, k < 3 + args.length → p.returned waits k = 0xFF) ∧
      (∀ k, k < waits → p.returned waits (3 + args.length + k) = 0x00) ∧
      (∀ k b, r.wire[k]? = some b → p.returned waits (3 + args.length + waits + k) = b) ∧
      ∀ k, r.wire.length ≤ k → p.returned waits (3 + args.length + waits + k) = 0xFF

/-- R28, R90, R124, R163, R190: CONFIGURE in CONFIG gives every owner its fields, out-of-range ones clamped, the
tier targets by running maximum, the offset modulo 10 ms; it answers OK with the fields as held, and the station
goes to LISTEN with SEAT present and LATCH closed, otherwise to WAIT_SEAT. An offset that differs from the one
held re-aligns the subframe and frame grids: the next strobe of each is marked RESYNC, and the frame boundaries
up to the one that follows the latest count are passed over, unless none was emitted or a mark is pending
(the latest count is that of a frame strobe which is owed and not yet emitted, where there is one: DESIGN CHOICE,
log 5); cabinet time is as it was. In any other seat state it is refused NOT_NOW. (CARD_UNRESPONSIVE is cleared before
the request's own effect: DESIGN CHOICE, log 42.) (An unlocked timer that had expired starts afresh: DESIGN
CHOICE, log 41.) (The listen count outside LISTEN is 0: DESIGN CHOICE, log 37.) -/
def Obligations.ConfigureEndsConfig : Prop :=
  ∀ (s : State) (c : ConfigArgs), Serving s →
    (s.seat.state = .config →
      ∃ t h reply, exec (.configure c) s = .next t ∧
        t.seat =
          { s.seat with
            state := if s.pins.seatPresent ∧ s.pins.latchClosed then .listen else .waitSeat
            listenCount := 0, drain := none } ∧
        h.cardType = c.cardType ∧ t.roster.cardType = c.cardType ∧
        h.eligible = c.eligible ∧ t.sel.eligible = c.eligible ∧
        h.external = c.external ∧ t.time.external = c.external ∧
        h.relayCapable = c.relayCapable ∧ t.alarm.relayCapable = c.relayCapable ∧
        h.airOffset = c.airOffset.toNat % 10000000 ∧ t.time.offset = h.airOffset ∧
        (h.airOffset = s.time.offset →
          t.time = { s.time with a := t.time.a, external := c.external }) ∧
        (h.airOffset ≠ s.time.offset →
          t.time =
            { s.time with
              a := t.time.a, external := c.external, offset := h.airOffset
              resyncSub := true, resyncFrame := true
              passOver :=
                if s.time.resyncFrame = true then none
                else (s.time.owedFrame.getLast?.map fun o => o.count).or s.time.lastCount }) ∧
        h.pitch = c.pitch.toNat ∧ t.servo.pitch = h.pitch ∧
        h.holdLimit = c.holdLimit.toNat ∧ t.servo.holdLimit = h.holdLimit ∧
        h.t0 = c.t0.toNat ∧ h.t1 = max h.t0 c.t1.toNat ∧ h.t2 = max h.t1 c.t2.toNat ∧
        h.t3 = max h.t2 c.t3.toNat ∧ h.expressShare = c.expressShare.toNat ∧
        t.share =
          { s.share with
            t0 := h.t0, t1 := h.t1, t2 := h.t2, t3 := h.t3, expressShare := h.expressShare } ∧
        h.cardTimeout = min 100 c.cardTimeout.toNat ∧ t.port.timeout = h.cardTimeout ∧
        h.txRoom = min 48 (max 1 c.txRoom.toNat) ∧ t.port.txRoom = h.txRoom ∧
        h.reapLevel = min 48 (max 1 c.reapLevel.toNat) ∧ t.port.reapLevel = h.reapLevel ∧
        (s.servo.state ≠ .locked → t.servo.unlocked = .running (s.localTime + 1000000000)) ∧
        t.port.reply = some reply ∧ reply.result = .ok ∧ reply.body = .configured h ∧
        t.rx = s.rx ∧ t.pins = s.pins) ∧
    (s.seat.state ≠ .config →
      exec (.configure c) s =
        .next { s with toStation := served s.cardAlive (.configure c) .notNow .empty })

/-- R78, R189, R191: SEND. In ACTIVE, with class EXPRESS or BULK, tier at most 3, dest a slot or ALL but not the
latched slot, at most 256 bytes, fewer than 48 frames held and records not reaped, room in its queue and a
destination that is neither ABSENT nor LEFT, the frame goes to the tail of its queue and the reply is OK with
the new reservation count. Otherwise it is refused and nothing is queued: NOT_NOW outside ACTIVE, then
BAD_ARGUMENT, then DEST_GONE, then FULL. (CARD_UNRESPONSIVE is cleared before the request's own effect: DESIGN
CHOICE, log 42.) -/
def Obligations.SendIsQueuedOrRefusedInOrder : Prop :=
  ∀ (s : State) (tag : Word16) (cls tier dest : Byte) (payload : List Byte), Serving s →
    let u := s.cardAlive
    let req : Instr := .send tag cls tier dest payload
    let good := (cls.toNat = 2 ∨ cls.toNat = 3) ∧ tier.toNat ≤ 3 ∧ dest.toNat ≤ 16 ∧
      dest.toNat ≠ s.seat.slot.val ∧ payload.length ≤ 256
    let gone := ∃ p : Slot, dest.toNat = p.val ∧ ((s.peer p).state = .absent ∨ (s.peer p).state = .left)
    let refusedWith (r : Result) :=
      exec req s = .next { s with toStation := served u req r .empty }
    (s.seat.state = .active → good → ¬ gone → u.sched.reserved < 48 →
      (∀ (q : CardQueue) (d : Dest), cls.toNat = (cardClass q).number → dest.toNat = d.number →
        (u.sched.queue (cardClass q)).length < (cardClass q).capacity →
        exec req s =
          .next { s with
            toStation := served
              (({ u with
                  sched :=
                    u.sched.setQueue (cardClass q)
                      (u.sched.queue (cardClass q) ++
                        [Entry.placed .data d tier.toNat payload (some tag) none]) } :
                Station).renewOffer) req .ok (.reservation (u.sched.reserved + 1)) })) ∧
    (256 < payload.length → refusedWith .badArgument) ∧
    (payload.length ≤ 256 → s.seat.state ≠ .active → refusedWith .notNow) ∧
    (s.seat.state = .active → ¬ good → refusedWith .badArgument) ∧
    (s.seat.state = .active → good → gone → refusedWith .destGone) ∧
    (s.seat.state = .active → good → ¬ gone →
      (48 ≤ u.sched.reserved ∨
        ∃ q : CardQueue, cls.toNat = (cardClass q).number ∧
          (cardClass q).capacity ≤ (u.sched.queue (cardClass q)).length) →
      refusedWith .full)

/-- R77, R112, R113: TAKE hands the head of the queue that its selector names, with its arrival record, and
removes it; when that leaves both queues at most half full, the overrun flag and QUEUE_OVERRUN clear. An empty
queue answers EMPTY. REAP hands and removes up to eight records from the front, EMPTY without any.
(CARD_UNRESPONSIVE is cleared before the request's own effect: DESIGN CHOICE, log 42.) -/
def Obligations.TakeAndReapHandOverTheFront : Prop :=
  ∀ s : State, Serving s →
    let u := s.cardAlive
    (∀ (sel : Byte) (q : CardQueue),
      (sel.toNat = 0 ∧ q = .express ∨ sel.toNat = 1 ∧ q = .bulk ∨
        sel.toNat = 2 ∧ q = (if u.rx.express = [] then .bulk else .express)) →
      (∀ x rest, u.rx.queue q = x :: rest →
        ∃ t reply, exec (.take sel) s = .next t ∧ t.port.reply = some reply ∧ reply.result = .ok ∧
          reply.body = .taken x.arrival x.payload ∧
          t.rx =
            { u.rx.setQueue q rest with
              overrun :=
                u.rx.overrun &&
                  !(decide ((u.rx.setQueue q rest).express.length ≤ 8) &&
                    decide ((u.rx.setQueue q rest).bulk.length ≤ 16)) } ∧
          (u.rx.overrun = true → t.rx.overrun = false → t.alarm.has queueOverrun = false) ∧
          (t.rx.overrun = u.rx.overrun → t.alarm.own = u.alarm.own) ∧
          t.seat = s.seat ∧ t.lane = s.lane ∧ t.share = s.share ∧ t.roster = s.roster ∧
          t.time = s.time ∧ t.servo = s.servo) ∧
      (u.rx.queue q = [] →
        exec (.take sel) s = .next { s with toStation := served u (.take sel) .empty .empty })) ∧
    (∀ sel : Byte, 3 ≤ sel.toNat →
      exec (.take sel) s = .next { s with toStation := served u (.take sel) .badArgument .empty }) ∧
    (u.sched.completions ≠ [] →
      exec .reap s =
        .next { s with
          toStation := served
            { u with sched := { u.sched with completions := u.sched.completions.drop 8 } } .reap .ok
            (.reaped (u.sched.completions.take 8)) }) ∧
    (u.sched.completions = [] →
      exec .reap s = .next { s with toStation := served u .reap .empty .empty })

/-- R83, R193: SET PERIODIC writes one entry with its phase reduced modulo N + 1 and its missed flag kept, and
answers the entry as held; frames already queued keep theirs. Refused NOT_NOW in CONFIG, BAD_ARGUMENT for an
index or tier above 3, a dest above 16 or of the latched slot, or more than 256 bytes. (CARD_UNRESPONSIVE is
cleared before the request's own effect: DESIGN CHOICE, log 42.) -/
def Obligations.SetPeriodicWritesOneEntry : Prop :=
  ∀ (s : State) (index skip phase dest tier : Byte) (payload : List Byte), Serving s →
    let u := s.cardAlive
    let req : Instr := .setPeriodic index skip phase dest tier payload
    let good := index.toNat ≤ 3 ∧ tier.toNat ≤ 3 ∧ dest.toNat ≤ 16 ∧
      dest.toNat ≠ s.seat.slot.val ∧ payload.length ≤ 256
    (s.seat.state ≠ .config → good → ∀ (i : Fin 4) (d : Dest), index.toNat = i.val →
      dest.toNat = d.number →
      let e : PeriodicEntry :=
        { skip := skip.toNat, phase := phase.toNat % (skip.toNat + 1), dest := d, tier := tier.toNat
          payload := payload, missed := (u.sched.periodic.get i).missed, written := true }
      exec req s =
        .next { s with
          toStation := served
            { u with sched := { u.sched with periodic := u.sched.periodic.set i e } } req .ok
            (.periodic e) }) ∧
    (s.seat.state = .config → payload.length ≤ 256 →
      exec req s = .next { s with toStation := served u req .notNow .empty }) ∧
    (s.seat.state ≠ .config ∨ 256 < payload.length → ¬ good →
      exec req s = .next { s with toStation := served u req .badArgument .empty })

/-- R46, R103, R194, R199: the views report their block's state as it stands before the read. STATION clears the
SEAT cause, QUEUES every missed flag and the MISSED cause; the others change nothing more than every request
does. A roster slot above 15 is refused BAD_ARGUMENT. (CARD_UNRESPONSIVE is cleared before the request's own
effect: DESIGN CHOICE, log 42.) -/
def Obligations.ViewsReportAndClearTheirCause : Prop :=
  ∀ s : State, Serving s →
    let u := s.cardAlive
    exec .viewStation s =
      .next { s with
        toStation := served { u with port := { u.port with seatCause := false } } .viewStation .ok
          (.station
            { state := s.seat.state, slot := s.seat.slot, generation := s.seat.generation
              cause := s.seat.cause
              leaveReason := if s.seat.state = .leaving then s.seat.leaveReason else none
              cardOk := true, watchdog := u.port.watchdog, cardTimeout := s.port.timeout
              txRoom := s.port.txRoom, reapLevel := s.port.reapLevel, causes := u.causes }) } ∧
    (∀ (b : Byte) (p : Slot), b.toNat = p.val →
      exec (.viewRoster b) s =
        .next { s with
          toStation := served u (.viewRoster b) .ok
            (.roster
              (if p = s.seat.slot then .self s.seat.generation s.roster.cardType s.sel.announced
                else .peer (s.peer p))) }) ∧
    (∀ b : Byte, 16 ≤ b.toNat →
      exec (.viewRoster b) s =
        .next { s with toStation := served u (.viewRoster b) .badArgument .empty }) ∧
    exec .viewQueues s =
      .next { s with
        toStation := served
          { u with
            sched := { u.sched with periodic := u.sched.periodic.map fun e => { e with missed := false } }
            port := { u.port with missedCause := false } } .viewQueues .ok
          (.queues
            { timing := u.sched.timing.length, control := u.sched.control.length
              express := u.sched.express.length, bulk := u.sched.bulk.length
              reservation := u.sched.reserved, completions := u.sched.completions.length
              expressIn := s.rx.express.length, bulkIn := s.rx.bulk.length, overrun := s.rx.overrun
              periodic := u.sched.periodic.toList, share := s.share }) } ∧
    exec .viewReference s =
      .next { s with
        toStation := served u .viewReference .ok
          (.reference
            { eligible := s.sel.eligible, extPresent := s.sel.extPresent, source := s.sel.source
              standing := s.sel.standing, announced := s.sel.announced
              beaconing := s.sel.beaconing, cands := s.sel.cands, lockRecord := s.sel.lockRecord
              lastHandover := s.sel.lastHandover }) } ∧
    ∃ t reply report, exec .viewAlarms s = .next t ∧ t.toStation = served u .viewAlarms .ok reply.body ∧
      t.port.reply = some reply ∧ reply.body = .alarms report ∧
      report.view = u.alarm.view.length ∧ report.own = u.alarm.own.length ∧
      report.card = u.alarm.cardEntries ∧ report.ownSeq = u.alarm.ownSeq ∧
      report.relayCapable = s.alarm.relayCapable ∧ report.critRelay = t.outs.critRelay ∧
      report.majRelay = t.outs.majRelay ∧ (report.atEnd = true ↔ u.alarm.cursor = none)

/-- R184, R185, R195: the reads and seeks of the view. HOLD answers the cursor's entry and keeps the cursor,
NEXT and PREV answer it and move by one, ADVANCE moves and answers where it lands, PEEK looks up to eight
entries away without moving; past either end stands END, which answers the END record and stays. A SEEK places
the cursor on the first or last entry, answers it, and clears the view-changed cause. (CARD_UNRESPONSIVE is
cleared before the request's own effect: DESIGN CHOICE, log 42.) -/
def Obligations.ReadsAndSeeksMoveTheCursor : Prop :=
  ∀ s : State, Serving s →
    let u := s.cardAlive
    let moved (c : Option ViewEntry) : Station :=
      { u with alarm := { u.alarm with cursor := c.map ViewEntry.ident } }
    let sought (c : Option ViewEntry) : Station :=
      { u with alarm := { u.alarm with cursor := c.map ViewEntry.ident, viewChanged := false } }
    (∀ (before after : List ViewEntry) (e : ViewEntry), u.alarm.cursor = some e.ident →
      u.alarm.view = before ++ e :: after → (∀ x ∈ before, x.ident ≠ e.ident) →
      exec .readHold s =
        .next { s with toStation := served u .readHold .ok (.viewRecord (some e)) } ∧
      exec .readNext s =
        .next { s with
          toStation := served (moved after.head?) .readNext .ok (.viewRecord (some e)) } ∧
      exec .readPrev s =
        .next { s with
          toStation := served (moved before.getLast?) .readPrev .ok (.viewRecord (some e)) } ∧
      exec .readAdvance s =
        .next { s with
          toStation := served (moved after.head?) .readAdvance .ok (.viewRecord after.head?) } ∧
      ∀ k : Byte, -8 ≤ k.toInt → k.toInt ≤ 8 →
        exec (.readPeek k) s =
          .next { s with
            toStation := served u (.readPeek k) .ok
              (.viewRecord
                (if (before.length : Int) + k.toInt < 0 then none
                  else u.alarm.view[((before.length : Int) + k.toInt).toNat]?)) }) ∧
    (u.alarm.cursor = none →
      exec .readHold s = .next { s with toStation := served u .readHold .ok (.viewRecord none) } ∧
      exec .readNext s = .next { s with toStation := served u .readNext .ok (.viewRecord none) } ∧
      exec .readPrev s = .next { s with toStation := served u .readPrev .ok (.viewRecord none) } ∧
      exec .readAdvance s =
        .next { s with toStation := served u .readAdvance .ok (.viewRecord none) } ∧
      ∀ k : Byte, -8 ≤ k.toInt → k.toInt ≤ 8 →
        exec (.readPeek k) s =
          .next { s with toStation := served u (.readPeek k) .ok (.viewRecord none) }) ∧
    (∀ k : Byte, k.toInt < -8 ∨ 8 < k.toInt →
      exec (.readPeek k) s =
        .next { s with toStation := served u (.readPeek k) .badArgument .empty }) ∧
    exec .seekFirst s =
      .next { s with
        toStation := served (sought u.alarm.view.head?) .seekFirst .ok
          (.viewRecord u.alarm.view.head?) } ∧
    exec .seekLast s =
      .next { s with
        toStation := served (sought u.alarm.view.getLast?) .seekLast .ok
          (.viewRecord u.alarm.view.getLast?) }

namespace Sys2Proof.Slice0

/-- R173: the own list of `t` made known on the lane, from `u`: the unwon ALARM frame in CONTROL takes its seq and
its entries in place; without one, an ALARM frame is placed, or the retry timer starts. -/
def ListMadeKnown (u t : Station) : Prop :=
  ((∃ e ∈ u.sched.control, Unwon e) →
    t.sched.control =
        (u.sched.control.map fun e =>
          if Unwon e then { e with payload := wireAlarms t } else e) ∧
      t.alarm.retry = u.alarm.retry) ∧
    ((∀ e ∈ u.sched.control, ¬ Unwon e) →
      let placed := withAlarmPlaced
        { u with alarm := { u.alarm with own := t.alarm.own, ownSeq := t.alarm.ownSeq } }
      t.sched.control = placed.sched.control ∧ t.alarm.retry = placed.alarm.retry)

end Sys2Proof.Slice0

/-- R171, R172, R173, R197: RAISE adds an entry with the present second, changes the severity of one that stands, or
changes nothing when that is its severity; the 23rd card entry is refused FULL. CLEAR removes an entry, and
answers NO_SUCH without one. Each taken answers the list seq. At each change, an entry added, removed or of a new
severity, the list seq rises by one modulo 256, and by one more for each raise and clear of ALARM_VIEW_FULL that the
change brings; the list goes into the ALARM frame in CONTROL that has not won its key, or a new one at the tail where
the seat state permits it, or waits 4 ms where CONTROL is full. A code below 0x1000, a
severity above 3 or a subject above 15 is refused BAD_ARGUMENT. (CARD_UNRESPONSIVE is cleared before the
request's own effect: DESIGN CHOICE, log 42.) -/
def Obligations.RaiseAndClearEditTheOwnList : Prop :=
  ∀ (s : State) (code : Word16) (sub : Option Byte), Serving s →
    let u := s.cardAlive
    let answered (t : State) :=
      ∃ reply, t.port.reply = some reply ∧ reply.result = .ok ∧ reply.body = .listSeq t.alarm.ownSeq
    let rest (t : State) :=
      t.seat = s.seat ∧ t.lane = s.lane ∧ t.share = s.share ∧ t.rx = s.rx ∧ t.roster = s.roster ∧
        t.time = s.time ∧ t.servo = s.servo ∧ t.sched.express = u.sched.express ∧
        t.alarm.markers = s.alarm.markers ∧ t.alarm.refresh = s.alarm.refresh ∧
        t.alarm.stagger = s.alarm.stagger
    let changed (t : State) := ListSeqRose u t.toStation ∧ ListMadeKnown u t.toStation
    (∀ (sev : Byte) (severity : Severity) (subject : Option Slot), 4096 ≤ code.toNat →
      sev.toNat = severity.number → sub.map BitVec.toNat = subject.map Fin.val →
      (∀ e ∈ u.alarm.own, e.code = code → e.subject ≠ subject) →
      (u.alarm.cardEntries < 22 →
        ∃ t, exec (.raise code sev sub) s = .next t ∧ answered t ∧ rest t ∧
          ownBut t.toStation = ownBut u ++ [⟨code, severity, subject, s.time.sec⟩] ∧
          changed t) ∧
      (22 ≤ u.alarm.cardEntries →
        exec (.raise code sev sub) s =
          .next { s with toStation := served u (.raise code sev sub) .full .empty })) ∧
    (∀ (sev : Byte) (severity : Severity) (subject : Option Slot), 4096 ≤ code.toNat →
      sev.toNat = severity.number → sub.map BitVec.toNat = subject.map Fin.val →
      ∀ (before after : List AlarmEntry) (e : AlarmEntry), u.alarm.own = before ++ e :: after →
      e.code = code → e.subject = subject →
      (∀ x ∈ before ++ after, x.code = code → x.subject ≠ subject) →
      (e.sev = severity →
        exec (.raise code sev sub) s =
          .next { s with
            toStation := served u (.raise code sev sub) .ok (.listSeq u.alarm.ownSeq) }) ∧
      (e.sev ≠ severity →
        ∃ t, exec (.raise code sev sub) s = .next t ∧ answered t ∧ rest t ∧
          ownBut t.toStation =
            ((before ++ { e with sev := severity } :: after).filter
              fun x => x.code != alarmViewFull) ∧ changed t) ∧
      ∃ t, exec (.clear code sub) s = .next t ∧ answered t ∧ rest t ∧ changed t ∧
        ownBut t.toStation = (before ++ after).filter fun x => x.code != alarmViewFull) ∧
    (∀ subject : Option Slot, 4096 ≤ code.toNat → sub.map BitVec.toNat = subject.map Fin.val →
      (∀ e ∈ u.alarm.own, e.code = code → e.subject ≠ subject) →
      exec (.clear code sub) s =
        .next { s with toStation := served u (.clear code sub) .noSuch .empty }) ∧
    (∀ sev : Byte, code.toNat < 4096 ∨ 4 ≤ sev.toNat ∨ (∃ b, sub = some b ∧ 16 ≤ b.toNat) →
      exec (.raise code sev sub) s =
        .next { s with toStation := served u (.raise code sev sub) .badArgument .empty }) ∧
    (code.toNat < 4096 ∨ (∃ b, sub = some b ∧ 16 ≤ b.toNat) →
      exec (.clear code sub) s =
        .next { s with toStation := served u (.clear code sub) .badArgument .empty })

namespace Sys2Proof.Slice0

/-- `n` seconds differ from this many local periods by less than one second. -/
def WithinASecond (n periods : Nat) : Prop :=
  n * 100000000 < periods + 100000000 ∧ periods < n * 100000000 + 100000000

end Sys2Proof.Slice0

/-- R130, R131, R165, R196: TIME answers the time report and clears the TIMING cause. The seconds that remain of a
running holdover, and those since the unlocked timer's start, capped at 10, are true to within one second; how a part
of a second is rounded is left open (DESIGN CHOICE, log 10). EXTERNAL TIME with the
external flag set holds S with the present local time, in place of an older one; without it, NOT_NOW.
(CARD_UNRESPONSIVE is cleared before the request's own effect: DESIGN CHOICE, log 42.) -/
def Obligations.TimeRequestsReportAndAnnounce : Prop :=
  ∀ s : State, Serving s →
    let u := s.cardAlive
    (∃ t reply time servo, exec .time s = .next t ∧ t.port.reply = some reply ∧
      t.toStation =
        served { u with port := { u.port with timingCause := false } } .time .ok (.time time servo) ∧
      reply.result = .ok ∧ reply.body = .time time servo ∧
      time =
        { sec := s.time.sec, ns := s.time.ns, frac := s.time.frac, a := s.time.a
          offset := s.time.offset, lastCount := s.time.lastCount
          radioFrame := s.time.lastCount.map fun n => n % 1024
          lastFrame := s.time.lastFrame, lastPps := s.time.lastPps.map fun x => x.sec
          stepCount := s.time.stepCount, lastStep := s.time.lastStep
          external := s.time.external } ∧
      servo.state = s.servo.state ∧ servo.source = s.servo.source ∧ servo.i = s.servo.i ∧
      servo.a = s.servo.a ∧ servo.lastSample = s.servo.lastSample ∧
      servo.inCount = s.servo.inCount ∧ servo.outCount = s.servo.outCount ∧
      servo.extPresent = s.servo.extPresent ∧ servo.pitch = s.servo.pitch ∧
      servo.holdLimit = s.servo.holdLimit ∧
      servo.announcement = s.servo.announcement.map (fun x => x.second) ∧
      (s.servo.state ≠ .holdover → servo.holdover = none) ∧
      (s.servo.state = .holdover → s.servo.expired = true → servo.holdover = some .expired) ∧
      (∀ d, s.servo.state = .holdover → s.servo.expired = false → s.servo.holdTimer = some d →
        ∃ n, servo.holdover = some (.remaining n) ∧ WithinASecond n (d - s.localTime)) ∧
      (s.servo.unlocked = .stopped → servo.unlocked = none) ∧
      (s.servo.unlocked = .expired → servo.unlocked = some 10) ∧
      ∀ d, s.servo.unlocked = .running d →
        ∃ n, servo.unlocked = some (min 10 n) ∧ WithinASecond n (s.localTime + 1000000000 - d)) ∧
    ∀ second : Word32,
      (s.time.external = true →
        exec (.externalTime second) s =
          .next { s with
            toStation := served
              { u with
                servo := { s.servo with announcement := some ⟨second.toNat, s.localTime⟩ } }
              (.externalTime second) .ok .empty }) ∧
      (s.time.external = false →
        exec (.externalTime second) s =
          .next { s with toStation := served u (.externalTime second) .notNow .empty })

namespace Sys2Proof.Slice0

/-- R167: the servo as RESET TIMING leaves it, the source held and kept: FREE, with the unlocked timer started where
it was LOCKED. -/
def servoReset (s : Station) : Servo :=
  { s.servo with
    state := .free, i := 0, a := 0, lastSample := none, inCount := 0, outCount := 0, holdTimer := none
    expired := false, unlocked := unlockedFrom s }

end Sys2Proof.Slice0

/-- R58, R64, R82, R115, R150, R167, R186, R198: RESET TRAFFIC, refused NOT_NOW in CONFIG, clears the periodic
table, completes every card frame FLUSHED but one on the lane, and empties the receive queues; a set overrun flag is
cleared, and QUEUE_OVERRUN with it. RESET TIMING sets I and A to 0, forgets the lock and makes every beacon stamp void,
and leaves cabinet time; the announced class is 13, or 15 for a station that is not eligible, and the source is chosen
afresh against it (that the classes are so before the review: DEDUCED, log 20). The servo is FREE with the source it
held where that is chosen again; a source newly chosen makes it ACQUIRE, and NONE leaves it FREE (R152). A station that
beacons goes on where the beaconing condition holds. RESET VIEW empties the peers' alarm sets, leaves the station's own
entries and synthetic ones alone in the view, puts the cursor at END, clears ALARM_VIEW_FULL, and brings every own
entry and every synthetic one into the view, where those there and those to come are 128 or fewer (R186 has 47 at
most). (CARD_UNRESPONSIVE is cleared before the request's own effect: DESIGN CHOICE, log 42.) -/
def Obligations.ResetRequestsClearTheirBlock : Prop :=
  ∀ s : State, Serving s →
    let u := s.cardAlive
    let k := if s.sel.eligible = true then 13 else 15
    (s.seat.state ≠ .config →
      ∃ t, exec .resetTraffic s = .next t ∧ t.rx = { express := [], bulk := [], overrun := false } ∧
        (u.rx.overrun = true →
          t.alarm.has queueOverrun = false ∧ Cleared u t.toStation queueOverrun) ∧
        (u.rx.overrun = false → t.alarm = u.alarm) ∧
        (∀ i, t.sched.periodic.get i =
          { skip := 255, phase := 0, dest := .all, tier := 0, payload := [], missed := false
            written := false }) ∧
        (∀ e ∈ t.sched.express ++ t.sched.bulk, e.onLane = true ∧ e.pending.isSome = true) ∧
        t.sched.completions = u.sched.completions ++
          ((u.sched.express ++ u.sched.bulk).filter fun e => !e.onLane).filterMap
            (recordOf .flushed) ∧
        t.sched.timing = u.sched.timing ∧ t.seat = s.seat ∧ t.lane = s.lane ∧
        t.share = s.share ∧ t.roster = s.roster ∧ t.time = s.time ∧ t.servo = s.servo) ∧
    (s.seat.state = .config →
      exec .resetTraffic s =
        .next { s with toStation := served u .resetTraffic .notNow .empty }) ∧
    (∃ t, exec .resetTiming s = .next t ∧ t.servo.i = 0 ∧ t.servo.a = 0 ∧
      t.time = { s.time with a := 0 } ∧ t.servo.inCount = 0 ∧ t.servo.outCount = 0 ∧
      t.servo.lastSample = none ∧ t.sel.lockedSource = none ∧ t.sel.lockRecord = none ∧
      (∀ p, t.peer p =
        { s.peer p with beacon := (s.peer p).beacon.map fun b => { b with void := true } }) ∧
      t.alarm.has timeOffsetHigh = false ∧
      t.sel.announced = k ∧ t.sel.standing = k ∧
      (∀ c, c ∈ t.sel.cands ↔
        CandidateNow s.toStation c.slot c.cls ∧
          ∃ x ∈ s.sel.cands, x.slot = c.slot ∧ x.deadline = c.deadline) ∧
      (s.time.external = true → s.sel.extPresent = true → t.sel.source = .external) ∧
      (s.time.external = false ∨ s.sel.extPresent = false →
        (t.sel.cands = [] → t.sel.source = .none) ∧
        ∀ b rest, t.sel.cands = b :: rest →
          (Above b.cls b.slot k s.seat.slot → t.sel.source = .bus b.slot) ∧
          (¬ Above b.cls b.slot k s.seat.slot → t.sel.source = .none)) ∧
      (t.sel.source = s.sel.source → t.servo = servoReset s.toStation) ∧
      (t.sel.source ≠ s.sel.source →
        t.servo =
          { servoReset s.toStation with
            source := t.sel.source, state := if t.sel.source = .none then .free else .acquire }) ∧
      (s.servo.state ≠ .free ∨ t.sel.source ≠ s.sel.source → t.port.timingCause = true) ∧
      (s.sel.beaconing = .on → (t.sel.beaconing = .on ↔ MayBeacon s.toStation t.sel)) ∧
      t.sel.previous = s.sel.previous ∧ t.sel.current = s.sel.current ∧
      t.sel.steppedPrevious = s.sel.steppedPrevious ∧ t.sel.steppedCurrent = s.sel.steppedCurrent ∧
      t.sel.lastHandover = s.sel.lastHandover ∧ t.sel.extPresent = s.sel.extPresent ∧
      t.seat = s.seat ∧ t.lane = s.lane ∧ t.share = s.share ∧ t.rx = s.rx) ∧
    ∃ t, exec .resetView s = .next t ∧
      (∀ p, t.peer p = { s.peer p with alarms := ⟨none, [], false⟩ }) ∧
      t.alarm.cursor = none ∧ t.alarm.viewChanged = true ∧
      (∀ e ∈ t.alarm.view, e.source = s.seat.slot) ∧ ownBut t.toStation = ownBut u ∧
      ((u.alarm.view.filter fun x => decide (x.source = s.seat.slot)).length + u.alarm.own.length + 16 ≤ 128 →
        t.alarm.has alarmViewFull = false ∧
        (∀ e ∈ t.alarm.own, ∃ x ∈ t.alarm.view, x.ident = ⟨s.seat.slot, e.code, e.subject⟩) ∧
        ∀ p : Slot,
          (∀ since, s.alarm.markers.get p = .missing since →
            ∃ x ∈ t.alarm.view, x.ident = ⟨s.seat.slot, cardMissing, some p⟩) ∧
          (∀ since, s.alarm.markers.get p = .removed since →
            ∃ x ∈ t.alarm.view, x.ident = ⟨s.seat.slot, cardRemoved, some p⟩)) ∧
      t.alarm.markers = s.alarm.markers ∧ t.seat = s.seat ∧ t.lane = s.lane ∧
      t.share = s.share ∧ t.rx = s.rx ∧ t.time = s.time ∧ t.servo = s.servo

/-! ### What every step keeps -/

/-- The time, the rates, the seat counts and the receive queues stay in their ranges: cabinet time, the air offset and
the step count (R117, R120, R125); I and A within ±100,000 ppb, cabinet time running at the servo's A (R160, R118);
the mismatch count and the listen count, with the drain timer running in LEAVING alone (R30, R35, R43); the receive
queues within 16 and 32 (R109). -/
def Obligations.TimeRatesSeatAndReceiveStayInRange : Prop :=
  KeptByStep TimeInRange ∧ KeptByStep RatesBounded ∧ KeptByStep SeatCounts ∧ KeptByStep RxBounded

/-- R25, R39, R122, R182, R199, R200: after every step the output pins are those of the state: SAFE in GONE,
ATTN with a cause, RX_READY with a frame received, TX_ROOM with room to send, the strobes with their pulses,
the relays with the view in ACTIVE and LEAVING; none in a reset hold. -/
def Obligations.PinsFollowTheState : Prop :=
  KeptByStep PinsDriven ∧
    (∀ s : Station, PinsDriven s → s.hold = true →
      s.outs = ⟨false, false, false, false, false, false, false, false, false, false⟩) ∧
    ∀ s : Station, PinsDriven s → s.hold = false →
      (s.outs.safe = true ↔ s.seat.state = .gone) ∧
      (s.outs.attn = true ↔
        s.alarm.viewChanged = true ∨ s.port.seatCause = true ∨ s.port.timingCause = true ∨
          s.port.missedCause = true ∨ s.port.reapLevel ≤ s.sched.completions.length) ∧
      (s.outs.rxReady = true ↔ s.rx.express ≠ [] ∨ s.rx.bulk ≠ []) ∧
      (s.outs.txRoom = true ↔
        s.seat.state = .active ∧ s.sched.reserved ≤ 48 - s.port.txRoom ∧
          s.sched.express.length < 16 ∧ s.sched.bulk.length < 32) ∧
      (s.outs.critRelay = true ↔
        s.alarm.relayCapable = true ∧ (s.seat.state = .active ∨ s.seat.state = .leaving) ∧
          ∃ e ∈ s.alarm.view, e.sev = .critical) ∧
      (s.outs.majRelay = true ↔
        s.alarm.relayCapable = true ∧ (s.seat.state = .active ∨ s.seat.state = .leaving) ∧
          ∃ e ∈ s.alarm.view, e.sev = .critical ∨ e.sev = .major) ∧
      (s.outs.ppsOut = true ↔ ∃ p, s.time.pulsePps = some p ∧ p.first ≤ s.localTime) ∧
      (s.outs.frameStb = true ↔ ∃ p, s.time.pulseFrame = some p ∧ p.first ≤ s.localTime) ∧
      (s.outs.subframeStb = true ↔ ∃ p, s.time.pulseSub = some p ∧ p.first ≤ s.localTime) ∧
      (s.outs.resync = true ↔ ∃ p, s.time.pulseResync = some p ∧ p.first ≤ s.localTime)

/-- R141, R152: a BUS source stays a slot that is PRESENT and not barred, and the servo's source stays the
selector's. R143: the station claims or beacons only while the beaconing condition holds. -/
def Obligations.SourceAndBeaconingStayAllowed : Prop :=
  KeptByStep SourcePresent ∧ KeptByStep BeaconsOnlyWhenAllowed

/-- R66, R67, R70, R78: the queues stay within their capacities, SEND frames held plus records not reaped stay
at 48 or fewer, and at most the head of one queue is on the lane, with its attempt. -/
def Obligations.QueuesStayBounded : Prop := KeptByStep QueuesBounded

/-- R169, R176: the own list keeps at most 22 card entries and each internal code once, no identity stands
twice in it or in the view, and the view holds at most 128 entries. -/
def Obligations.AlarmListsStayBounded : Prop :=
  KeptByStep fun s => OwnListBounded s ∧ ViewBounded s

/-- R177, R183: the view stays in its order, and the cursor on one of its entries or at END, beside the bounds of
the own list and the view. -/
def Obligations.TheViewStaysInOrder : Prop :=
  KeptByStep fun s => OwnListBounded s ∧ ViewBounded s ∧ ViewOrdered s ∧ CursorInView s

/-- The invariants hold after reset, and there the station has the reset values of every chapter with cause
POWER. (The straps read 0 and the pins as named: DESIGN CHOICE, log 2.) -/
def Obligations.ResetMeetsEveryInvariant : Prop :=
  AtReset State.reset.toStation 0 .power ∧ State.reset.pending = [] ∧
    TimeInRange State.reset.toStation ∧ RatesBounded State.reset.toStation ∧
    PinsDriven State.reset.toStation ∧ SeatCounts State.reset.toStation ∧
    SourcePresent State.reset.toStation ∧ BeaconsOnlyWhenAllowed State.reset.toStation ∧
    QueuesBounded State.reset.toStation ∧ RxBounded State.reset.toStation ∧
    OwnListBounded State.reset.toStation ∧ ViewBounded State.reset.toStation ∧
    ViewOrdered State.reset.toStation ∧ CursorInView State.reset.toStation
end

