-- ==== Sys2Proof/Laws/State.lean ====
section
/-! SUPPORT. One lemma per field per update, true by `rfl`, so that no later proof unfolds a record
update; and the small lemmas of the peer table and the queues. -/

namespace Sys2Proof.Machine

/-! ### `Station.setPeer` -/

@[simp] theorem Station.setPeer_pins (s : Station) (p : Slot) (r : Peer) :
    (s.setPeer p r).pins = s.pins := rfl
@[simp] theorem Station.setPeer_hold (s : Station) (p : Slot) (r : Peer) :
    (s.setPeer p r).hold = s.hold := rfl
@[simp] theorem Station.setPeer_localTime (s : Station) (p : Slot) (r : Peer) :
    (s.setPeer p r).localTime = s.localTime := rfl
@[simp] theorem Station.setPeer_lane (s : Station) (p : Slot) (r : Peer) :
    (s.setPeer p r).lane = s.lane := rfl
@[simp] theorem Station.setPeer_seat (s : Station) (p : Slot) (r : Peer) :
    (s.setPeer p r).seat = s.seat := rfl
@[simp] theorem Station.setPeer_sched (s : Station) (p : Slot) (r : Peer) :
    (s.setPeer p r).sched = s.sched := rfl
@[simp] theorem Station.setPeer_share (s : Station) (p : Slot) (r : Peer) :
    (s.setPeer p r).share = s.share := rfl
@[simp] theorem Station.setPeer_rx (s : Station) (p : Slot) (r : Peer) :
    (s.setPeer p r).rx = s.rx := rfl
@[simp] theorem Station.setPeer_time (s : Station) (p : Slot) (r : Peer) :
    (s.setPeer p r).time = s.time := rfl
@[simp] theorem Station.setPeer_sel (s : Station) (p : Slot) (r : Peer) :
    (s.setPeer p r).sel = s.sel := rfl
@[simp] theorem Station.setPeer_servo (s : Station) (p : Slot) (r : Peer) :
    (s.setPeer p r).servo = s.servo := rfl
@[simp] theorem Station.setPeer_alarm (s : Station) (p : Slot) (r : Peer) :
    (s.setPeer p r).alarm = s.alarm := rfl
@[simp] theorem Station.setPeer_port (s : Station) (p : Slot) (r : Peer) :
    (s.setPeer p r).port = s.port := rfl
@[simp] theorem Station.setPeer_outs (s : Station) (p : Slot) (r : Peer) :
    (s.setPeer p r).outs = s.outs := rfl
@[simp] theorem Station.setPeer_freeIdx (s : Station) (p : Slot) (r : Peer) :
    (s.setPeer p r).freeIdx = s.freeIdx := rfl

/-! ### `Station.setQueue` -/

@[simp] theorem Station.setQueue_pins (s : Station) (q : FrameClass) (l : List Entry) :
    (s.setQueue q l).pins = s.pins := rfl
@[simp] theorem Station.setQueue_hold (s : Station) (q : FrameClass) (l : List Entry) :
    (s.setQueue q l).hold = s.hold := rfl
@[simp] theorem Station.setQueue_localTime (s : Station) (q : FrameClass) (l : List Entry) :
    (s.setQueue q l).localTime = s.localTime := rfl
@[simp] theorem Station.setQueue_lane (s : Station) (q : FrameClass) (l : List Entry) :
    (s.setQueue q l).lane = s.lane := rfl
@[simp] theorem Station.setQueue_seat (s : Station) (q : FrameClass) (l : List Entry) :
    (s.setQueue q l).seat = s.seat := rfl
@[simp] theorem Station.setQueue_roster (s : Station) (q : FrameClass) (l : List Entry) :
    (s.setQueue q l).roster = s.roster := rfl
@[simp] theorem Station.setQueue_share (s : Station) (q : FrameClass) (l : List Entry) :
    (s.setQueue q l).share = s.share := rfl
@[simp] theorem Station.setQueue_rx (s : Station) (q : FrameClass) (l : List Entry) :
    (s.setQueue q l).rx = s.rx := rfl
@[simp] theorem Station.setQueue_time (s : Station) (q : FrameClass) (l : List Entry) :
    (s.setQueue q l).time = s.time := rfl
@[simp] theorem Station.setQueue_sel (s : Station) (q : FrameClass) (l : List Entry) :
    (s.setQueue q l).sel = s.sel := rfl
@[simp] theorem Station.setQueue_servo (s : Station) (q : FrameClass) (l : List Entry) :
    (s.setQueue q l).servo = s.servo := rfl
@[simp] theorem Station.setQueue_alarm (s : Station) (q : FrameClass) (l : List Entry) :
    (s.setQueue q l).alarm = s.alarm := rfl
@[simp] theorem Station.setQueue_port (s : Station) (q : FrameClass) (l : List Entry) :
    (s.setQueue q l).port = s.port := rfl
@[simp] theorem Station.setQueue_outs (s : Station) (q : FrameClass) (l : List Entry) :
    (s.setQueue q l).outs = s.outs := rfl
@[simp] theorem Station.setQueue_freeIdx (s : Station) (q : FrameClass) (l : List Entry) :
    (s.setQueue q l).freeIdx = s.freeIdx := rfl

/-! ### `Station.setOffer` -/

@[simp] theorem Station.setOffer_pins (s : Station) (q : Option FrameClass) :
    (s.setOffer q).pins = s.pins := rfl
@[simp] theorem Station.setOffer_hold (s : Station) (q : Option FrameClass) :
    (s.setOffer q).hold = s.hold := rfl
@[simp] theorem Station.setOffer_localTime (s : Station) (q : Option FrameClass) :
    (s.setOffer q).localTime = s.localTime := rfl
@[simp] theorem Station.setOffer_lane (s : Station) (q : Option FrameClass) :
    (s.setOffer q).lane = s.lane := rfl
@[simp] theorem Station.setOffer_seat (s : Station) (q : Option FrameClass) :
    (s.setOffer q).seat = s.seat := rfl
@[simp] theorem Station.setOffer_roster (s : Station) (q : Option FrameClass) :
    (s.setOffer q).roster = s.roster := rfl
@[simp] theorem Station.setOffer_share (s : Station) (q : Option FrameClass) :
    (s.setOffer q).share = s.share := rfl
@[simp] theorem Station.setOffer_rx (s : Station) (q : Option FrameClass) :
    (s.setOffer q).rx = s.rx := rfl
@[simp] theorem Station.setOffer_time (s : Station) (q : Option FrameClass) :
    (s.setOffer q).time = s.time := rfl
@[simp] theorem Station.setOffer_sel (s : Station) (q : Option FrameClass) :
    (s.setOffer q).sel = s.sel := rfl
@[simp] theorem Station.setOffer_servo (s : Station) (q : Option FrameClass) :
    (s.setOffer q).servo = s.servo := rfl
@[simp] theorem Station.setOffer_alarm (s : Station) (q : Option FrameClass) :
    (s.setOffer q).alarm = s.alarm := rfl
@[simp] theorem Station.setOffer_port (s : Station) (q : Option FrameClass) :
    (s.setOffer q).port = s.port := rfl
@[simp] theorem Station.setOffer_outs (s : Station) (q : Option FrameClass) :
    (s.setOffer q).outs = s.outs := rfl
@[simp] theorem Station.setOffer_freeIdx (s : Station) (q : Option FrameClass) :
    (s.setOffer q).freeIdx = s.freeIdx := rfl

/-! ### `Station.setHead` -/

@[simp] theorem Station.setHead_pins (s : Station) (q : FrameClass) (e : Entry) :
    (s.setHead q e).pins = s.pins := rfl
@[simp] theorem Station.setHead_hold (s : Station) (q : FrameClass) (e : Entry) :
    (s.setHead q e).hold = s.hold := rfl
@[simp] theorem Station.setHead_localTime (s : Station) (q : FrameClass) (e : Entry) :
    (s.setHead q e).localTime = s.localTime := rfl
@[simp] theorem Station.setHead_lane (s : Station) (q : FrameClass) (e : Entry) :
    (s.setHead q e).lane = s.lane := rfl
@[simp] theorem Station.setHead_seat (s : Station) (q : FrameClass) (e : Entry) :
    (s.setHead q e).seat = s.seat := rfl
@[simp] theorem Station.setHead_roster (s : Station) (q : FrameClass) (e : Entry) :
    (s.setHead q e).roster = s.roster := rfl
@[simp] theorem Station.setHead_share (s : Station) (q : FrameClass) (e : Entry) :
    (s.setHead q e).share = s.share := rfl
@[simp] theorem Station.setHead_rx (s : Station) (q : FrameClass) (e : Entry) :
    (s.setHead q e).rx = s.rx := rfl
@[simp] theorem Station.setHead_time (s : Station) (q : FrameClass) (e : Entry) :
    (s.setHead q e).time = s.time := rfl
@[simp] theorem Station.setHead_sel (s : Station) (q : FrameClass) (e : Entry) :
    (s.setHead q e).sel = s.sel := rfl
@[simp] theorem Station.setHead_servo (s : Station) (q : FrameClass) (e : Entry) :
    (s.setHead q e).servo = s.servo := rfl
@[simp] theorem Station.setHead_alarm (s : Station) (q : FrameClass) (e : Entry) :
    (s.setHead q e).alarm = s.alarm := rfl
@[simp] theorem Station.setHead_port (s : Station) (q : FrameClass) (e : Entry) :
    (s.setHead q e).port = s.port := rfl
@[simp] theorem Station.setHead_outs (s : Station) (q : FrameClass) (e : Entry) :
    (s.setHead q e).outs = s.outs := rfl
@[simp] theorem Station.setHead_freeIdx (s : Station) (q : FrameClass) (e : Entry) :
    (s.setHead q e).freeIdx = s.freeIdx := rfl

/-! ### `Station.setTimingCause` -/

@[simp] theorem Station.setTimingCause_pins (s : Station) :
    (s.setTimingCause).pins = s.pins := rfl
@[simp] theorem Station.setTimingCause_hold (s : Station) :
    (s.setTimingCause).hold = s.hold := rfl
@[simp] theorem Station.setTimingCause_localTime (s : Station) :
    (s.setTimingCause).localTime = s.localTime := rfl
@[simp] theorem Station.setTimingCause_lane (s : Station) :
    (s.setTimingCause).lane = s.lane := rfl
@[simp] theorem Station.setTimingCause_seat (s : Station) :
    (s.setTimingCause).seat = s.seat := rfl
@[simp] theorem Station.setTimingCause_roster (s : Station) :
    (s.setTimingCause).roster = s.roster := rfl
@[simp] theorem Station.setTimingCause_sched (s : Station) :
    (s.setTimingCause).sched = s.sched := rfl
@[simp] theorem Station.setTimingCause_share (s : Station) :
    (s.setTimingCause).share = s.share := rfl
@[simp] theorem Station.setTimingCause_rx (s : Station) :
    (s.setTimingCause).rx = s.rx := rfl
@[simp] theorem Station.setTimingCause_time (s : Station) :
    (s.setTimingCause).time = s.time := rfl
@[simp] theorem Station.setTimingCause_sel (s : Station) :
    (s.setTimingCause).sel = s.sel := rfl
@[simp] theorem Station.setTimingCause_servo (s : Station) :
    (s.setTimingCause).servo = s.servo := rfl
@[simp] theorem Station.setTimingCause_alarm (s : Station) :
    (s.setTimingCause).alarm = s.alarm := rfl
@[simp] theorem Station.setTimingCause_outs (s : Station) :
    (s.setTimingCause).outs = s.outs := rfl
@[simp] theorem Station.setTimingCause_freeIdx (s : Station) :
    (s.setTimingCause).freeIdx = s.freeIdx := rfl

/-! ### `Station.stopDelimiter` -/

@[simp] theorem Station.stopDelimiter_pins (s : Station) :
    (s.stopDelimiter).pins = s.pins := rfl
@[simp] theorem Station.stopDelimiter_hold (s : Station) :
    (s.stopDelimiter).hold = s.hold := rfl
@[simp] theorem Station.stopDelimiter_localTime (s : Station) :
    (s.stopDelimiter).localTime = s.localTime := rfl
@[simp] theorem Station.stopDelimiter_seat (s : Station) :
    (s.stopDelimiter).seat = s.seat := rfl
@[simp] theorem Station.stopDelimiter_roster (s : Station) :
    (s.stopDelimiter).roster = s.roster := rfl
@[simp] theorem Station.stopDelimiter_sched (s : Station) :
    (s.stopDelimiter).sched = s.sched := rfl
@[simp] theorem Station.stopDelimiter_share (s : Station) :
    (s.stopDelimiter).share = s.share := rfl
@[simp] theorem Station.stopDelimiter_rx (s : Station) :
    (s.stopDelimiter).rx = s.rx := rfl
@[simp] theorem Station.stopDelimiter_time (s : Station) :
    (s.stopDelimiter).time = s.time := rfl
@[simp] theorem Station.stopDelimiter_sel (s : Station) :
    (s.stopDelimiter).sel = s.sel := rfl
@[simp] theorem Station.stopDelimiter_servo (s : Station) :
    (s.stopDelimiter).servo = s.servo := rfl
@[simp] theorem Station.stopDelimiter_alarm (s : Station) :
    (s.stopDelimiter).alarm = s.alarm := rfl
@[simp] theorem Station.stopDelimiter_port (s : Station) :
    (s.stopDelimiter).port = s.port := rfl
@[simp] theorem Station.stopDelimiter_outs (s : Station) :
    (s.stopDelimiter).outs = s.outs := rfl
@[simp] theorem Station.stopDelimiter_freeIdx (s : Station) :
    (s.stopDelimiter).freeIdx = s.freeIdx := rfl
@[simp] theorem Station.stopDelimiter_attempt (s : Station) :
    s.stopDelimiter.lane.attempt = s.lane.attempt := rfl
@[simp] theorem Station.stopDelimiter_line (s : Station) :
    s.stopDelimiter.lane.line = s.lane.line := rfl
@[simp] theorem Station.stopDelimiter_marks (s : Station) :
    s.stopDelimiter.lane.marks = s.lane.marks := rfl
@[simp] theorem Station.stopDelimiter_endLeft (s : Station) :
    s.stopDelimiter.lane.endLeft = s.lane.endLeft := rfl
@[simp] theorem Station.stopDelimiter_delimiter (s : Station) :
    s.stopDelimiter.lane.delimiter = false := rfl

/-! ### `Station.clearAttempt` -/

@[simp] theorem Station.clearAttempt_pins (s : Station) :
    (s.clearAttempt).pins = s.pins := rfl
@[simp] theorem Station.clearAttempt_hold (s : Station) :
    (s.clearAttempt).hold = s.hold := rfl
@[simp] theorem Station.clearAttempt_localTime (s : Station) :
    (s.clearAttempt).localTime = s.localTime := rfl
@[simp] theorem Station.clearAttempt_seat (s : Station) :
    (s.clearAttempt).seat = s.seat := rfl
@[simp] theorem Station.clearAttempt_roster (s : Station) :
    (s.clearAttempt).roster = s.roster := rfl
@[simp] theorem Station.clearAttempt_sched (s : Station) :
    (s.clearAttempt).sched = s.sched := rfl
@[simp] theorem Station.clearAttempt_share (s : Station) :
    (s.clearAttempt).share = s.share := rfl
@[simp] theorem Station.clearAttempt_rx (s : Station) :
    (s.clearAttempt).rx = s.rx := rfl
@[simp] theorem Station.clearAttempt_time (s : Station) :
    (s.clearAttempt).time = s.time := rfl
@[simp] theorem Station.clearAttempt_sel (s : Station) :
    (s.clearAttempt).sel = s.sel := rfl
@[simp] theorem Station.clearAttempt_servo (s : Station) :
    (s.clearAttempt).servo = s.servo := rfl
@[simp] theorem Station.clearAttempt_alarm (s : Station) :
    (s.clearAttempt).alarm = s.alarm := rfl
@[simp] theorem Station.clearAttempt_port (s : Station) :
    (s.clearAttempt).port = s.port := rfl
@[simp] theorem Station.clearAttempt_outs (s : Station) :
    (s.clearAttempt).outs = s.outs := rfl
@[simp] theorem Station.clearAttempt_freeIdx (s : Station) :
    (s.clearAttempt).freeIdx = s.freeIdx := rfl

/-! ### `Station.handRate` -/

@[simp] theorem Station.handRate_pins (s : Station) (a : Int) :
    (s.handRate a).pins = s.pins := rfl
@[simp] theorem Station.handRate_hold (s : Station) (a : Int) :
    (s.handRate a).hold = s.hold := rfl
@[simp] theorem Station.handRate_localTime (s : Station) (a : Int) :
    (s.handRate a).localTime = s.localTime := rfl
@[simp] theorem Station.handRate_lane (s : Station) (a : Int) :
    (s.handRate a).lane = s.lane := rfl
@[simp] theorem Station.handRate_seat (s : Station) (a : Int) :
    (s.handRate a).seat = s.seat := rfl
@[simp] theorem Station.handRate_roster (s : Station) (a : Int) :
    (s.handRate a).roster = s.roster := rfl
@[simp] theorem Station.handRate_sched (s : Station) (a : Int) :
    (s.handRate a).sched = s.sched := rfl
@[simp] theorem Station.handRate_share (s : Station) (a : Int) :
    (s.handRate a).share = s.share := rfl
@[simp] theorem Station.handRate_rx (s : Station) (a : Int) :
    (s.handRate a).rx = s.rx := rfl
@[simp] theorem Station.handRate_sel (s : Station) (a : Int) :
    (s.handRate a).sel = s.sel := rfl
@[simp] theorem Station.handRate_alarm (s : Station) (a : Int) :
    (s.handRate a).alarm = s.alarm := rfl
@[simp] theorem Station.handRate_port (s : Station) (a : Int) :
    (s.handRate a).port = s.port := rfl
@[simp] theorem Station.handRate_outs (s : Station) (a : Int) :
    (s.handRate a).outs = s.outs := rfl
@[simp] theorem Station.handRate_freeIdx (s : Station) (a : Int) :
    (s.handRate a).freeIdx = s.freeIdx := rfl

/-! ### `Station.setView` -/

@[simp] theorem Station.setView_pins (s : Station) (l : List ViewEntry) :
    (s.setView l).pins = s.pins := rfl
@[simp] theorem Station.setView_hold (s : Station) (l : List ViewEntry) :
    (s.setView l).hold = s.hold := rfl
@[simp] theorem Station.setView_localTime (s : Station) (l : List ViewEntry) :
    (s.setView l).localTime = s.localTime := rfl
@[simp] theorem Station.setView_lane (s : Station) (l : List ViewEntry) :
    (s.setView l).lane = s.lane := rfl
@[simp] theorem Station.setView_seat (s : Station) (l : List ViewEntry) :
    (s.setView l).seat = s.seat := rfl
@[simp] theorem Station.setView_roster (s : Station) (l : List ViewEntry) :
    (s.setView l).roster = s.roster := rfl
@[simp] theorem Station.setView_sched (s : Station) (l : List ViewEntry) :
    (s.setView l).sched = s.sched := rfl
@[simp] theorem Station.setView_share (s : Station) (l : List ViewEntry) :
    (s.setView l).share = s.share := rfl
@[simp] theorem Station.setView_rx (s : Station) (l : List ViewEntry) :
    (s.setView l).rx = s.rx := rfl
@[simp] theorem Station.setView_time (s : Station) (l : List ViewEntry) :
    (s.setView l).time = s.time := rfl
@[simp] theorem Station.setView_sel (s : Station) (l : List ViewEntry) :
    (s.setView l).sel = s.sel := rfl
@[simp] theorem Station.setView_servo (s : Station) (l : List ViewEntry) :
    (s.setView l).servo = s.servo := rfl
@[simp] theorem Station.setView_port (s : Station) (l : List ViewEntry) :
    (s.setView l).port = s.port := rfl
@[simp] theorem Station.setView_outs (s : Station) (l : List ViewEntry) :
    (s.setView l).outs = s.outs := rfl
@[simp] theorem Station.setView_freeIdx (s : Station) (l : List ViewEntry) :
    (s.setView l).freeIdx = s.freeIdx := rfl

/-! ### `Station.setCursor` -/

@[simp] theorem Station.setCursor_pins (s : Station) (c : Option ViewEntry) :
    (s.setCursor c).pins = s.pins := rfl
@[simp] theorem Station.setCursor_hold (s : Station) (c : Option ViewEntry) :
    (s.setCursor c).hold = s.hold := rfl
@[simp] theorem Station.setCursor_localTime (s : Station) (c : Option ViewEntry) :
    (s.setCursor c).localTime = s.localTime := rfl
@[simp] theorem Station.setCursor_lane (s : Station) (c : Option ViewEntry) :
    (s.setCursor c).lane = s.lane := rfl
@[simp] theorem Station.setCursor_seat (s : Station) (c : Option ViewEntry) :
    (s.setCursor c).seat = s.seat := rfl
@[simp] theorem Station.setCursor_roster (s : Station) (c : Option ViewEntry) :
    (s.setCursor c).roster = s.roster := rfl
@[simp] theorem Station.setCursor_sched (s : Station) (c : Option ViewEntry) :
    (s.setCursor c).sched = s.sched := rfl
@[simp] theorem Station.setCursor_share (s : Station) (c : Option ViewEntry) :
    (s.setCursor c).share = s.share := rfl
@[simp] theorem Station.setCursor_rx (s : Station) (c : Option ViewEntry) :
    (s.setCursor c).rx = s.rx := rfl
@[simp] theorem Station.setCursor_time (s : Station) (c : Option ViewEntry) :
    (s.setCursor c).time = s.time := rfl
@[simp] theorem Station.setCursor_sel (s : Station) (c : Option ViewEntry) :
    (s.setCursor c).sel = s.sel := rfl
@[simp] theorem Station.setCursor_servo (s : Station) (c : Option ViewEntry) :
    (s.setCursor c).servo = s.servo := rfl
@[simp] theorem Station.setCursor_port (s : Station) (c : Option ViewEntry) :
    (s.setCursor c).port = s.port := rfl
@[simp] theorem Station.setCursor_outs (s : Station) (c : Option ViewEntry) :
    (s.setCursor c).outs = s.outs := rfl
@[simp] theorem Station.setCursor_freeIdx (s : Station) (c : Option ViewEntry) :
    (s.setCursor c).freeIdx = s.freeIdx := rfl

/-! ### `Station.updateAlarm` -/

@[simp] theorem Station.updateAlarm_pins (s : Station) :
    (s.updateAlarm).pins = s.pins := rfl
@[simp] theorem Station.updateAlarm_hold (s : Station) :
    (s.updateAlarm).hold = s.hold := rfl
@[simp] theorem Station.updateAlarm_localTime (s : Station) :
    (s.updateAlarm).localTime = s.localTime := rfl
@[simp] theorem Station.updateAlarm_lane (s : Station) :
    (s.updateAlarm).lane = s.lane := rfl
@[simp] theorem Station.updateAlarm_seat (s : Station) :
    (s.updateAlarm).seat = s.seat := rfl
@[simp] theorem Station.updateAlarm_roster (s : Station) :
    (s.updateAlarm).roster = s.roster := rfl
@[simp] theorem Station.updateAlarm_share (s : Station) :
    (s.updateAlarm).share = s.share := rfl
@[simp] theorem Station.updateAlarm_rx (s : Station) :
    (s.updateAlarm).rx = s.rx := rfl
@[simp] theorem Station.updateAlarm_time (s : Station) :
    (s.updateAlarm).time = s.time := rfl
@[simp] theorem Station.updateAlarm_sel (s : Station) :
    (s.updateAlarm).sel = s.sel := rfl
@[simp] theorem Station.updateAlarm_servo (s : Station) :
    (s.updateAlarm).servo = s.servo := rfl
@[simp] theorem Station.updateAlarm_alarm (s : Station) :
    (s.updateAlarm).alarm = s.alarm := rfl
@[simp] theorem Station.updateAlarm_port (s : Station) :
    (s.updateAlarm).port = s.port := rfl
@[simp] theorem Station.updateAlarm_outs (s : Station) :
    (s.updateAlarm).outs = s.outs := rfl
@[simp] theorem Station.updateAlarm_freeIdx (s : Station) :
    (s.updateAlarm).freeIdx = s.freeIdx := rfl

/-! ### `Station.drive` -/

@[simp] theorem Station.drive_pins (s : Station) :
    (s.drive).pins = s.pins := rfl
@[simp] theorem Station.drive_hold (s : Station) :
    (s.drive).hold = s.hold := rfl
@[simp] theorem Station.drive_localTime (s : Station) :
    (s.drive).localTime = s.localTime := rfl
@[simp] theorem Station.drive_lane (s : Station) :
    (s.drive).lane = s.lane := rfl
@[simp] theorem Station.drive_seat (s : Station) :
    (s.drive).seat = s.seat := rfl
@[simp] theorem Station.drive_roster (s : Station) :
    (s.drive).roster = s.roster := rfl
@[simp] theorem Station.drive_sched (s : Station) :
    (s.drive).sched = s.sched := rfl
@[simp] theorem Station.drive_share (s : Station) :
    (s.drive).share = s.share := rfl
@[simp] theorem Station.drive_rx (s : Station) :
    (s.drive).rx = s.rx := rfl
@[simp] theorem Station.drive_time (s : Station) :
    (s.drive).time = s.time := rfl
@[simp] theorem Station.drive_sel (s : Station) :
    (s.drive).sel = s.sel := rfl
@[simp] theorem Station.drive_servo (s : Station) :
    (s.drive).servo = s.servo := rfl
@[simp] theorem Station.drive_alarm (s : Station) :
    (s.drive).alarm = s.alarm := rfl
@[simp] theorem Station.drive_port (s : Station) :
    (s.drive).port = s.port := rfl
@[simp] theorem Station.drive_freeIdx (s : Station) :
    (s.drive).freeIdx = s.freeIdx := rfl

/-! ### `Station.clearPeriodic` -/

@[simp] theorem Station.clearPeriodic_pins (s : Station) :
    (s.clearPeriodic).pins = s.pins := rfl
@[simp] theorem Station.clearPeriodic_hold (s : Station) :
    (s.clearPeriodic).hold = s.hold := rfl
@[simp] theorem Station.clearPeriodic_localTime (s : Station) :
    (s.clearPeriodic).localTime = s.localTime := rfl
@[simp] theorem Station.clearPeriodic_lane (s : Station) :
    (s.clearPeriodic).lane = s.lane := rfl
@[simp] theorem Station.clearPeriodic_seat (s : Station) :
    (s.clearPeriodic).seat = s.seat := rfl
@[simp] theorem Station.clearPeriodic_roster (s : Station) :
    (s.clearPeriodic).roster = s.roster := rfl
@[simp] theorem Station.clearPeriodic_share (s : Station) :
    (s.clearPeriodic).share = s.share := rfl
@[simp] theorem Station.clearPeriodic_rx (s : Station) :
    (s.clearPeriodic).rx = s.rx := rfl
@[simp] theorem Station.clearPeriodic_time (s : Station) :
    (s.clearPeriodic).time = s.time := rfl
@[simp] theorem Station.clearPeriodic_sel (s : Station) :
    (s.clearPeriodic).sel = s.sel := rfl
@[simp] theorem Station.clearPeriodic_servo (s : Station) :
    (s.clearPeriodic).servo = s.servo := rfl
@[simp] theorem Station.clearPeriodic_alarm (s : Station) :
    (s.clearPeriodic).alarm = s.alarm := rfl
@[simp] theorem Station.clearPeriodic_port (s : Station) :
    (s.clearPeriodic).port = s.port := rfl
@[simp] theorem Station.clearPeriodic_outs (s : Station) :
    (s.clearPeriodic).outs = s.outs := rfl
@[simp] theorem Station.clearPeriodic_freeIdx (s : Station) :
    (s.clearPeriodic).freeIdx = s.freeIdx := rfl

/-! ### `Station.pairEdge` -/

@[simp] theorem Station.pairEdge_pins (s : Station) :
    (s.pairEdge).pins = s.pins := rfl
@[simp] theorem Station.pairEdge_hold (s : Station) :
    (s.pairEdge).hold = s.hold := rfl
@[simp] theorem Station.pairEdge_localTime (s : Station) :
    (s.pairEdge).localTime = s.localTime := rfl
@[simp] theorem Station.pairEdge_lane (s : Station) :
    (s.pairEdge).lane = s.lane := rfl
@[simp] theorem Station.pairEdge_seat (s : Station) :
    (s.pairEdge).seat = s.seat := rfl
@[simp] theorem Station.pairEdge_roster (s : Station) :
    (s.pairEdge).roster = s.roster := rfl
@[simp] theorem Station.pairEdge_sched (s : Station) :
    (s.pairEdge).sched = s.sched := rfl
@[simp] theorem Station.pairEdge_share (s : Station) :
    (s.pairEdge).share = s.share := rfl
@[simp] theorem Station.pairEdge_rx (s : Station) :
    (s.pairEdge).rx = s.rx := rfl
@[simp] theorem Station.pairEdge_time (s : Station) :
    (s.pairEdge).time = s.time := rfl
@[simp] theorem Station.pairEdge_sel (s : Station) :
    (s.pairEdge).sel = s.sel := rfl
@[simp] theorem Station.pairEdge_alarm (s : Station) :
    (s.pairEdge).alarm = s.alarm := rfl
@[simp] theorem Station.pairEdge_port (s : Station) :
    (s.pairEdge).port = s.port := rfl
@[simp] theorem Station.pairEdge_outs (s : Station) :
    (s.pairEdge).outs = s.outs := rfl
@[simp] theorem Station.pairEdge_freeIdx (s : Station) :
    (s.pairEdge).freeIdx = s.freeIdx := rfl

/-! ### `Station.startUnlocked` -/

@[simp] theorem Station.startUnlocked_pins (s : Station) :
    (s.startUnlocked).pins = s.pins := rfl
@[simp] theorem Station.startUnlocked_hold (s : Station) :
    (s.startUnlocked).hold = s.hold := rfl
@[simp] theorem Station.startUnlocked_localTime (s : Station) :
    (s.startUnlocked).localTime = s.localTime := rfl
@[simp] theorem Station.startUnlocked_lane (s : Station) :
    (s.startUnlocked).lane = s.lane := rfl
@[simp] theorem Station.startUnlocked_seat (s : Station) :
    (s.startUnlocked).seat = s.seat := rfl
@[simp] theorem Station.startUnlocked_roster (s : Station) :
    (s.startUnlocked).roster = s.roster := rfl
@[simp] theorem Station.startUnlocked_sched (s : Station) :
    (s.startUnlocked).sched = s.sched := rfl
@[simp] theorem Station.startUnlocked_share (s : Station) :
    (s.startUnlocked).share = s.share := rfl
@[simp] theorem Station.startUnlocked_rx (s : Station) :
    (s.startUnlocked).rx = s.rx := rfl
@[simp] theorem Station.startUnlocked_time (s : Station) :
    (s.startUnlocked).time = s.time := rfl
@[simp] theorem Station.startUnlocked_sel (s : Station) :
    (s.startUnlocked).sel = s.sel := rfl
@[simp] theorem Station.startUnlocked_alarm (s : Station) :
    (s.startUnlocked).alarm = s.alarm := rfl
@[simp] theorem Station.startUnlocked_port (s : Station) :
    (s.startUnlocked).port = s.port := rfl
@[simp] theorem Station.startUnlocked_outs (s : Station) :
    (s.startUnlocked).outs = s.outs := rfl
@[simp] theorem Station.startUnlocked_freeIdx (s : Station) :
    (s.startUnlocked).freeIdx = s.freeIdx := rfl

/-! ### `Station.removeCandidate` -/

@[simp] theorem Station.removeCandidate_pins (s : Station) (p : Slot) :
    (s.removeCandidate p).pins = s.pins := rfl
@[simp] theorem Station.removeCandidate_hold (s : Station) (p : Slot) :
    (s.removeCandidate p).hold = s.hold := rfl
@[simp] theorem Station.removeCandidate_localTime (s : Station) (p : Slot) :
    (s.removeCandidate p).localTime = s.localTime := rfl
@[simp] theorem Station.removeCandidate_lane (s : Station) (p : Slot) :
    (s.removeCandidate p).lane = s.lane := rfl
@[simp] theorem Station.removeCandidate_seat (s : Station) (p : Slot) :
    (s.removeCandidate p).seat = s.seat := rfl
@[simp] theorem Station.removeCandidate_roster (s : Station) (p : Slot) :
    (s.removeCandidate p).roster = s.roster := rfl
@[simp] theorem Station.removeCandidate_sched (s : Station) (p : Slot) :
    (s.removeCandidate p).sched = s.sched := rfl
@[simp] theorem Station.removeCandidate_share (s : Station) (p : Slot) :
    (s.removeCandidate p).share = s.share := rfl
@[simp] theorem Station.removeCandidate_rx (s : Station) (p : Slot) :
    (s.removeCandidate p).rx = s.rx := rfl
@[simp] theorem Station.removeCandidate_time (s : Station) (p : Slot) :
    (s.removeCandidate p).time = s.time := rfl
@[simp] theorem Station.removeCandidate_servo (s : Station) (p : Slot) :
    (s.removeCandidate p).servo = s.servo := rfl
@[simp] theorem Station.removeCandidate_alarm (s : Station) (p : Slot) :
    (s.removeCandidate p).alarm = s.alarm := rfl
@[simp] theorem Station.removeCandidate_port (s : Station) (p : Slot) :
    (s.removeCandidate p).port = s.port := rfl
@[simp] theorem Station.removeCandidate_outs (s : Station) (p : Slot) :
    (s.removeCandidate p).outs = s.outs := rfl
@[simp] theorem Station.removeCandidate_freeIdx (s : Station) (p : Slot) :
    (s.removeCandidate p).freeIdx = s.freeIdx := rfl

/-! ### `Station.renewCandidate` -/

@[simp] theorem Station.renewCandidate_pins (s : Station) (p : Slot) :
    (s.renewCandidate p).pins = s.pins := rfl
@[simp] theorem Station.renewCandidate_hold (s : Station) (p : Slot) :
    (s.renewCandidate p).hold = s.hold := rfl
@[simp] theorem Station.renewCandidate_localTime (s : Station) (p : Slot) :
    (s.renewCandidate p).localTime = s.localTime := rfl
@[simp] theorem Station.renewCandidate_lane (s : Station) (p : Slot) :
    (s.renewCandidate p).lane = s.lane := rfl
@[simp] theorem Station.renewCandidate_seat (s : Station) (p : Slot) :
    (s.renewCandidate p).seat = s.seat := rfl
@[simp] theorem Station.renewCandidate_roster (s : Station) (p : Slot) :
    (s.renewCandidate p).roster = s.roster := rfl
@[simp] theorem Station.renewCandidate_sched (s : Station) (p : Slot) :
    (s.renewCandidate p).sched = s.sched := rfl
@[simp] theorem Station.renewCandidate_share (s : Station) (p : Slot) :
    (s.renewCandidate p).share = s.share := rfl
@[simp] theorem Station.renewCandidate_rx (s : Station) (p : Slot) :
    (s.renewCandidate p).rx = s.rx := rfl
@[simp] theorem Station.renewCandidate_time (s : Station) (p : Slot) :
    (s.renewCandidate p).time = s.time := rfl
@[simp] theorem Station.renewCandidate_servo (s : Station) (p : Slot) :
    (s.renewCandidate p).servo = s.servo := rfl
@[simp] theorem Station.renewCandidate_alarm (s : Station) (p : Slot) :
    (s.renewCandidate p).alarm = s.alarm := rfl
@[simp] theorem Station.renewCandidate_port (s : Station) (p : Slot) :
    (s.renewCandidate p).port = s.port := rfl
@[simp] theorem Station.renewCandidate_outs (s : Station) (p : Slot) :
    (s.renewCandidate p).outs = s.outs := rfl
@[simp] theorem Station.renewCandidate_freeIdx (s : Station) (p : Slot) :
    (s.renewCandidate p).freeIdx = s.freeIdx := rfl

/-! ### `Station.stopBeaconing` -/

@[simp] theorem Station.stopBeaconing_pins (s : Station) :
    (s.stopBeaconing).pins = s.pins := rfl
@[simp] theorem Station.stopBeaconing_hold (s : Station) :
    (s.stopBeaconing).hold = s.hold := rfl
@[simp] theorem Station.stopBeaconing_localTime (s : Station) :
    (s.stopBeaconing).localTime = s.localTime := rfl
@[simp] theorem Station.stopBeaconing_lane (s : Station) :
    (s.stopBeaconing).lane = s.lane := rfl
@[simp] theorem Station.stopBeaconing_seat (s : Station) :
    (s.stopBeaconing).seat = s.seat := rfl
@[simp] theorem Station.stopBeaconing_roster (s : Station) :
    (s.stopBeaconing).roster = s.roster := rfl
@[simp] theorem Station.stopBeaconing_share (s : Station) :
    (s.stopBeaconing).share = s.share := rfl
@[simp] theorem Station.stopBeaconing_rx (s : Station) :
    (s.stopBeaconing).rx = s.rx := rfl
@[simp] theorem Station.stopBeaconing_time (s : Station) :
    (s.stopBeaconing).time = s.time := rfl
@[simp] theorem Station.stopBeaconing_servo (s : Station) :
    (s.stopBeaconing).servo = s.servo := rfl
@[simp] theorem Station.stopBeaconing_alarm (s : Station) :
    (s.stopBeaconing).alarm = s.alarm := rfl
@[simp] theorem Station.stopBeaconing_port (s : Station) :
    (s.stopBeaconing).port = s.port := rfl
@[simp] theorem Station.stopBeaconing_outs (s : Station) :
    (s.stopBeaconing).outs = s.outs := rfl
@[simp] theorem Station.stopBeaconing_freeIdx (s : Station) :
    (s.stopBeaconing).freeIdx = s.freeIdx := rfl

/-! ### `Station.placeBeacon` -/

@[simp] theorem Station.placeBeacon_pins (s : Station) :
    (s.placeBeacon).pins = s.pins := rfl
@[simp] theorem Station.placeBeacon_hold (s : Station) :
    (s.placeBeacon).hold = s.hold := rfl
@[simp] theorem Station.placeBeacon_localTime (s : Station) :
    (s.placeBeacon).localTime = s.localTime := rfl
@[simp] theorem Station.placeBeacon_lane (s : Station) :
    (s.placeBeacon).lane = s.lane := rfl
@[simp] theorem Station.placeBeacon_seat (s : Station) :
    (s.placeBeacon).seat = s.seat := rfl
@[simp] theorem Station.placeBeacon_roster (s : Station) :
    (s.placeBeacon).roster = s.roster := rfl
@[simp] theorem Station.placeBeacon_share (s : Station) :
    (s.placeBeacon).share = s.share := rfl
@[simp] theorem Station.placeBeacon_rx (s : Station) :
    (s.placeBeacon).rx = s.rx := rfl
@[simp] theorem Station.placeBeacon_time (s : Station) :
    (s.placeBeacon).time = s.time := rfl
@[simp] theorem Station.placeBeacon_servo (s : Station) :
    (s.placeBeacon).servo = s.servo := rfl
@[simp] theorem Station.placeBeacon_alarm (s : Station) :
    (s.placeBeacon).alarm = s.alarm := rfl
@[simp] theorem Station.placeBeacon_port (s : Station) :
    (s.placeBeacon).port = s.port := rfl
@[simp] theorem Station.placeBeacon_outs (s : Station) :
    (s.placeBeacon).outs = s.outs := rfl
@[simp] theorem Station.placeBeacon_freeIdx (s : Station) :
    (s.placeBeacon).freeIdx = s.freeIdx := rfl

/-! ### The fields that the updates do change -/

@[simp] theorem Station.setPeer_silence (s : Station) (p : Slot) (r : Peer) :
    (s.setPeer p r).roster.silence = s.roster.silence := rfl
@[simp] theorem Station.setPeer_cardType (s : Station) (p : Slot) (r : Peer) :
    (s.setPeer p r).roster.cardType = s.roster.cardType := rfl
@[simp] theorem Station.setOffer_offer (s : Station) (q : Option FrameClass) :
    (s.setOffer q).sched.offer = q := rfl
@[simp] theorem Station.setOffer_queue (s : Station) (o : Option FrameClass) (q : FrameClass) :
    (s.setOffer o).sched.queue q = s.sched.queue q := by cases q <;> rfl
@[simp] theorem Station.setOffer_completions (s : Station) (q : Option FrameClass) :
    (s.setOffer q).sched.completions = s.sched.completions := rfl
@[simp] theorem Station.setTimingCause_set (s : Station) : s.setTimingCause.port.timingCause = true := rfl
@[simp] theorem Station.clearAttempt_attempt (s : Station) : s.clearAttempt.lane.attempt = none := rfl
@[simp] theorem Station.clearAttempt_delimiter (s : Station) :
    s.clearAttempt.lane.delimiter = s.lane.delimiter := rfl
@[simp] theorem Station.clearAttempt_line (s : Station) : s.clearAttempt.lane.line = s.lane.line := rfl
@[simp] theorem Station.handRate_servoA (s : Station) (a : Int) : (s.handRate a).servo.a = a := rfl
@[simp] theorem Station.handRate_timeA (s : Station) (a : Int) : (s.handRate a).time.a = a := rfl
@[simp] theorem Station.handRate_servoState (s : Station) (a : Int) :
    (s.handRate a).servo.state = s.servo.state := rfl
@[simp] theorem Station.handRate_servoI (s : Station) (a : Int) : (s.handRate a).servo.i = s.servo.i := rfl
@[simp] theorem Station.setView_view (s : Station) (l : List ViewEntry) : (s.setView l).alarm.view = l := rfl
@[simp] theorem Station.setView_own (s : Station) (l : List ViewEntry) :
    (s.setView l).alarm.own = s.alarm.own := rfl
@[simp] theorem Station.setView_ownSeq (s : Station) (l : List ViewEntry) :
    (s.setView l).alarm.ownSeq = s.alarm.ownSeq := rfl
@[simp] theorem Station.setView_markers (s : Station) (l : List ViewEntry) :
    (s.setView l).alarm.markers = s.alarm.markers := rfl
@[simp] theorem Station.setView_relayCapable (s : Station) (l : List ViewEntry) :
    (s.setView l).alarm.relayCapable = s.alarm.relayCapable := rfl
@[simp] theorem Station.setCursor_view (s : Station) (c : Option ViewEntry) :
    (s.setCursor c).alarm.view = s.alarm.view := rfl
@[simp] theorem Station.setCursor_own (s : Station) (c : Option ViewEntry) :
    (s.setCursor c).alarm.own = s.alarm.own := rfl
@[simp] theorem Station.drive_outs (s : Station) : s.drive.outs = s.outputsNow := rfl
@[simp] theorem Station.drive_outputsNow (s : Station) : s.drive.outputsNow = s.outputsNow := rfl
@[simp] theorem Station.drive_drive (s : Station) : s.drive.drive = s.drive := rfl

/-! ### The peer table -/

@[simp] theorem Station.peer_setPeer_same (s : Station) (p : Slot) (r : Peer) : (s.setPeer p r).peer p = r :=
  Vector.getElem_set_self p.isLt

theorem Station.peer_setPeer_other (s : Station) (r : Peer) (p q : Slot) (h : q ≠ p) :
    (s.setPeer p r).peer q = s.peer q :=
  Vector.getElem_set_ne p.isLt q.isLt fun e => h (Fin.ext e.symm)

theorem Station.peer_setPeer (s : Station) (r : Peer) (p q : Slot) :
    (s.setPeer p r).peer q = if q = p then r else s.peer q := by
  by_cases h : q = p
  · subst h
    simp
  · simp [h, s.peer_setPeer_other r p q h]

/-- A station with the same roster has the same records. -/
theorem Station.peer_of_roster (s t : Station) (h : t.roster = s.roster) (p : Slot) : t.peer p = s.peer p := by
  simp [Station.peer, h]

/-! ### The queues -/

@[simp] theorem Sched.queue_setQueue_same (c : Sched) (q : FrameClass) (l : List Entry) :
    (c.setQueue q l).queue q = l := by cases q <;> rfl

theorem Sched.queue_setQueue_other (c : Sched) (q r : FrameClass) (l : List Entry) (h : r ≠ q) :
    (c.setQueue q l).queue r = c.queue r := by
  cases q <;> cases r <;> simp_all [Sched.setQueue, Sched.queue]

@[simp] theorem Sched.setQueue_queue (c : Sched) (q : FrameClass) : c.setQueue q (c.queue q) = c := by
  cases q <;> rfl

@[simp] theorem Sched.setQueue_setQueue (c : Sched) (q : FrameClass) (l m : List Entry) :
    (c.setQueue q l).setQueue q m = c.setQueue q m := by cases q <;> rfl

@[simp] theorem Sched.setQueue_completions (c : Sched) (q : FrameClass) (l : List Entry) :
    (c.setQueue q l).completions = c.completions := by cases q <;> rfl

@[simp] theorem Sched.setQueue_periodic (c : Sched) (q : FrameClass) (l : List Entry) :
    (c.setQueue q l).periodic = c.periodic := by cases q <;> rfl

@[simp] theorem Sched.setQueue_offer (c : Sched) (q : FrameClass) (l : List Entry) :
    (c.setQueue q l).offer = c.offer := by cases q <;> rfl

@[simp] theorem Station.setQueue_sched (s : Station) (q : FrameClass) (l : List Entry) :
    (s.setQueue q l).sched = s.sched.setQueue q l := rfl

@[simp] theorem Station.setHead_sched (s : Station) (q : FrameClass) (e : Entry) :
    (s.setHead q e).sched = s.sched.setQueue q (e :: (s.sched.queue q).tail) := rfl

/-- The head on the lane, and the queue it stands in. -/
theorem Sched.onLaneHead_eq_some (c : Sched) (q : FrameClass) (e : Entry) :
    c.onLaneHead q = some e ↔ e.onLane = true ∧ c.queue q = e :: c.behindHead q := by
  unfold Sched.onLaneHead Sched.behindHead
  cases c.queue q with
  | nil => simp
  | cons h t =>
    by_cases hl : h.onLane
    · simp only [hl, if_true, Option.some.injEq, List.tail_cons, List.cons.injEq, and_true]
      constructor
      · rintro rfl
        exact ⟨hl, rfl⟩
      · exact fun g => g.2
    · simp only [hl, List.tail_cons, List.cons.injEq, and_true]
      constructor
      · intro g
        cases g
      · rintro ⟨g, rfl⟩
        exact absurd g hl

end Sys2Proof.Machine
end

