-- ==== Sys2Proof/Laws/Alarms.lean ====
section
/-! SUPPORT. What the alarm unit's operations can do: they touch the alarm unit and CONTROL alone, CONTROL
as `ControlTold` says; and what they do to the own list. -/

namespace Sys2Proof.Machine

/-! ### Order by insertion -/

theorem insertView_perm (e : ViewEntry) (l : List ViewEntry) : (insertView e l).Perm (e :: l) := by
  induction l with
  | nil => exact .refl _
  | cons h t ih =>
    unfold insertView
    split
    · exact .refl _
    · exact (ih.cons h).trans (.swap _ _ _)

theorem insertView_length (e : ViewEntry) (l : List ViewEntry) : (insertView e l).length = l.length + 1 :=
  (insertView_perm e l).length_eq

theorem foldl_insertView_perm (l acc : List ViewEntry) :
    (l.foldl (fun a e => insertView e a) acc).Perm (l ++ acc) := by
  induction l generalizing acc with
  | nil => exact .refl _
  | cons h t ih =>
    exact (ih _).trans (((insertView_perm h acc).append_left t).trans List.perm_middle)

theorem sortView_perm (l : List ViewEntry) : (sortView l).Perm l := by
  simpa [sortView] using foldl_insertView_perm l []

/-- R180: an offer adds one entry, displaces one, or changes nothing. -/
theorem offerEntry_length (view : List ViewEntry) (e : ViewEntry) :
    (offerEntry view e).length ≤ max view.length Config.viewSize := by
  unfold offerEntry
  split
  · rw [insertView_length]
    omega
  · split
    · split
      · have : view ≠ [] := by rintro rfl; simp_all
        have := List.length_pos_iff.2 this
        rw [insertView_length, List.length_dropLast]
        omega
      · omega
    · omega

/-! ### CONTROL as the alarm unit leaves it -/

/-- R173: unwon ALARM frames may carry new contents, and ALARM frames may stand behind the rest, where there
was room for them. -/
def ControlTold (l m : List Entry) : Prop :=
  ∃ (f : Entry → Entry) (tail : List Entry), m = l.map f ++ tail ∧
    (∀ e, ∃ p, f e = { e with payload := p }) ∧ (∀ e, e.isUnwonAlarm = false → f e = e) ∧
    (∀ e ∈ tail, ∃ p, e = Entry.internal .alarm p) ∧ m.length ≤ max l.length FrameClass.control.capacity

theorem ControlTold.refl (l : List Entry) : ControlTold l l :=
  ⟨id, [], by simp, fun e => ⟨e.payload, rfl⟩, fun _ _ => rfl, by simp, by omega⟩

theorem ControlTold.of_eq {l m : List Entry} (h : m = l) : ControlTold l m := h ▸ ControlTold.refl l

theorem ControlTold.trans {l m n : List Entry} : ControlTold l m → ControlTold m n → ControlTold l n := by
  rintro ⟨f, a, rfl, hf, hf', ha, hl⟩ ⟨g, b, rfl, hg, hg', hb, hm⟩
  refine ⟨g ∘ f, a.map g ++ b, by simp, fun e => ?_, fun e he => ?_, fun e he => ?_, by omega⟩
  · obtain ⟨p, hp⟩ := hf e
    obtain ⟨q, hq⟩ := hg (f e)
    exact ⟨q, by rw [Function.comp, hq, hp]⟩
  · rw [Function.comp, hf' e he, hg' e he]
  · rcases List.mem_append.1 he with he | he
    · obtain ⟨x, hx, rfl⟩ := List.mem_map.1 he
      obtain ⟨p, rfl⟩ := ha x hx
      obtain ⟨q, hq⟩ := hg (Entry.internal .alarm p)
      exact ⟨q, hq⟩
    · exact hb e he

/-! ### The frame -/

/-- What an operation of the alarm unit leaves as it is: every other block, the other queues, and the
records of the scheduler. -/
structure AlarmFrame (s t : Station) : Prop where
  pins : t.pins = s.pins
  hold : t.hold = s.hold
  localTime : t.localTime = s.localTime
  lane : t.lane = s.lane
  seat : t.seat = s.seat
  roster : t.roster = s.roster
  share : t.share = s.share
  rx : t.rx = s.rx
  time : t.time = s.time
  sel : t.sel = s.sel
  servo : t.servo = s.servo
  port : t.port = s.port
  outs : t.outs = s.outs
  freeIdx : t.freeIdx = s.freeIdx
  timing : t.sched.timing = s.sched.timing
  express : t.sched.express = s.sched.express
  bulk : t.sched.bulk = s.sched.bulk
  completions : t.sched.completions = s.sched.completions
  periodic : t.sched.periodic = s.sched.periodic
  offer : t.sched.offer = s.sched.offer
  control : ControlTold s.sched.control t.sched.control
  relayCapable : t.alarm.relayCapable = s.alarm.relayCapable

/-- A change of the alarm unit alone that keeps `relayCapable`. -/
theorem AlarmFrame.ofAlarm (s : Station) (a : AlarmUnit) (h : a.relayCapable = s.alarm.relayCapable) :
    AlarmFrame s { s with alarm := a } := by
  constructor <;> first | rfl | exact h | exact ControlTold.refl _

theorem AlarmFrame.refl (s : Station) : AlarmFrame s s := AlarmFrame.ofAlarm s s.alarm rfl

theorem AlarmFrame.trans {s t u : Station} (h : AlarmFrame s t) (g : AlarmFrame t u) : AlarmFrame s u :=
  ⟨g.pins.trans h.pins, g.hold.trans h.hold, g.localTime.trans h.localTime, g.lane.trans h.lane,
    g.seat.trans h.seat, g.roster.trans h.roster, g.share.trans h.share, g.rx.trans h.rx,
    g.time.trans h.time, g.sel.trans h.sel, g.servo.trans h.servo, g.port.trans h.port,
    g.outs.trans h.outs, g.freeIdx.trans h.freeIdx, g.timing.trans h.timing,
    g.express.trans h.express, g.bulk.trans h.bulk, g.completions.trans h.completions,
    g.periodic.trans h.periodic, g.offer.trans h.offer, h.control.trans g.control,
    g.relayCapable.trans h.relayCapable⟩

theorem Station.setView_frame (s : Station) (l : List ViewEntry) : AlarmFrame s (s.setView l) :=
  AlarmFrame.ofAlarm s _ rfl

theorem Station.updateAlarm_frame (s : Station) : AlarmFrame s s.updateAlarm := by
  constructor <;> try rfl
  refine ⟨fun e => if e.isUnwonAlarm then { e with payload := s.listPayload } else e, [],
    by simp [Station.updateAlarm], fun e => ?_, fun e he => by simp [he], by simp,
    by simp [Station.updateAlarm]⟩
  by_cases h : e.isUnwonAlarm
  · exact ⟨s.listPayload, by simp [h]⟩
  · exact ⟨e.payload, by simp [h]⟩

theorem Station.placeAlarm_frame (s : Station) : AlarmFrame s s.placeAlarm := by
  unfold Station.placeAlarm
  split
  next h =>
    constructor <;> try rfl
    refine ⟨id, [Entry.internal .alarm s.listPayload], by simp [Sched.append, Sched.setQueue, Sched.queue],
      fun e => ⟨e.payload, rfl⟩, fun _ _ => rfl, by simp, ?_⟩
    have : s.sched.control.length < FrameClass.control.capacity := by
      exact of_decide_eq_true h
    simp [Sched.append, Sched.setQueue, Sched.queue]
    omega
  · exact AlarmFrame.ofAlarm s _ rfl

theorem Station.placeAlarmIfPermitted_frame (s : Station) : AlarmFrame s s.placeAlarmIfPermitted := by
  unfold Station.placeAlarmIfPermitted
  split
  · exact s.placeAlarm_frame
  · exact AlarmFrame.refl s

theorem Station.announceList_frame (s : Station) : AlarmFrame s s.announceList := by
  unfold Station.announceList
  split
  · exact s.updateAlarm_frame
  · exact s.placeAlarmIfPermitted_frame

theorem Station.setOwn_frame (s : Station) (l : List AlarmEntry) : AlarmFrame s (s.setOwn l) :=
  AlarmFrame.trans (t := { s with alarm := { s.alarm with own := l, ownSeq := s.alarm.ownSeq + 1 } })
    (AlarmFrame.ofAlarm s _ rfl) (Station.announceList_frame _)

theorem Station.offerEach_frame (s : Station) (l : List ViewEntry) : AlarmFrame s (s.offerEach l) := by
  induction l generalizing s with
  | nil => exact AlarmFrame.refl s
  | cons h t ih => exact (s.setView_frame _).trans (ih _)

theorem Station.raiseViewFull_frame (s : Station) : AlarmFrame s s.raiseViewFull := by
  unfold Station.raiseViewFull
  split
  · exact AlarmFrame.refl s
  · exact (s.setOwn_frame _).trans (Station.offerEach_frame _ _)

theorem Station.offer_frame (s : Station) (l : List ViewEntry) : AlarmFrame s (s.offer l) := by
  unfold Station.offer
  dsimp only
  split
  · exact (s.offerEach_frame _).trans (Station.raiseViewFull_frame _)
  · exact s.offerEach_frame _

theorem Station.clearViewFull_frame (s : Station) : AlarmFrame s s.clearViewFull :=
  ((s.setOwn_frame _).trans (Station.setView_frame _ _)).trans (Station.offer_frame _ _)

theorem Station.clearViewFullIfLow_frame (s : Station) (l : List ViewEntry) :
    AlarmFrame s (s.clearViewFullIfLow l) := by
  unfold Station.clearViewFullIfLow
  split
  · exact s.clearViewFull_frame
  · exact AlarmFrame.refl s

/-- R178: everything a merge can do outside the alarm unit. -/
theorem Station.merge_frame (s : Station) (mine : Station → ViewEntry → Bool)
    (entries : Station → List ViewEntry) : AlarmFrame s (s.merge mine entries) :=
  (((s.setView_frame _).trans (Station.clearViewFullIfLow_frame _ _)).trans
    (Station.setView_frame _ _)).trans (Station.offer_frame _ _)

theorem Station.mergeOwn_frame (s : Station) : AlarmFrame s s.mergeOwn := s.merge_frame _ _

theorem Station.mergePeer_frame (s : Station) (p : Slot) : AlarmFrame s (s.mergePeer p) := s.merge_frame _ _

theorem Station.changeOwn_frame (s : Station) (l : List AlarmEntry) : AlarmFrame s (s.changeOwn l) :=
  (s.setOwn_frame l).trans (Station.mergeOwn_frame _)

theorem Station.raiseInternal_frame (s : Station) (code : Word16) : AlarmFrame s (s.raiseInternal code) := by
  unfold Station.raiseInternal
  split
  · exact AlarmFrame.refl s
  · exact s.changeOwn_frame _

theorem Station.clearInternal_frame (s : Station) (code : Word16) : AlarmFrame s (s.clearInternal code) := by
  unfold Station.clearInternal
  split
  · exact s.changeOwn_frame _
  · exact AlarmFrame.refl s

theorem Station.keepTalker_frame (s : Station) : AlarmFrame s s.keepTalker := by
  unfold Station.keepTalker
  split
  · exact s.changeOwn_frame _
  · split
    · exact AlarmFrame.refl s
    · exact s.changeOwn_frame _
  · exact s.clearInternal_frame _
  · exact AlarmFrame.refl s

theorem Station.setMarker_frame (s : Station) (p : Slot) (m : Marker) : AlarmFrame s (s.setMarker p m) :=
  AlarmFrame.trans (t := { s with alarm := { s.alarm with markers := s.alarm.markers.set p m } })
    (AlarmFrame.ofAlarm s _ rfl) (Station.merge_frame _ _ _)

theorem Station.markMissing_frame (s : Station) (p : Slot) : AlarmFrame s (s.markMissing p) := by
  unfold Station.markMissing
  split <;> first | exact AlarmFrame.refl s | exact s.setMarker_frame _ _

theorem Station.unmarkRemoved_frame (s : Station) (p : Slot) : AlarmFrame s (s.unmarkRemoved p) := by
  unfold Station.unmarkRemoved
  split <;> first | exact AlarmFrame.refl s | exact s.setMarker_frame _ _

theorem Station.markRemoved_frame (s : Station) (p : Slot) : AlarmFrame s (s.markRemoved p) := by
  unfold Station.markRemoved
  split <;> first | exact AlarmFrame.refl s | exact s.setMarker_frame _ _

theorem Station.unmarkMissing_frame (s : Station) (p : Slot) : AlarmFrame s (s.unmarkMissing p) := by
  unfold Station.unmarkMissing
  split <;> first | exact AlarmFrame.refl s | exact s.setMarker_frame _ _

theorem Station.unmark_frame (s : Station) (p : Slot) : AlarmFrame s (s.unmark p) := by
  unfold Station.unmark
  split <;> first | exact AlarmFrame.refl s | exact s.setMarker_frame _ _

theorem Station.startStagger_frame (s : Station) : AlarmFrame s s.startStagger := by
  unfold Station.startStagger
  split
  · exact AlarmFrame.ofAlarm s _ rfl
  · exact AlarmFrame.refl s

theorem Station.startAlarms_frame (s : Station) : AlarmFrame s s.startAlarms :=
  AlarmFrame.trans
    (t := { s with
      alarm :=
        { s.alarm with
          ownSeq := s.alarm.ownSeq + 1
          refresh := some (s.localTime + Config.refreshFirst) } })
    (AlarmFrame.ofAlarm s _ rfl) (Station.updateAlarm_frame _)

theorem Station.resetView_frame (s : Station) : AlarmFrame s s.resetView := by
  unfold Station.resetView
  refine AlarmFrame.trans ?_ (Station.offer_frame _ _)
  refine AlarmFrame.trans (t := { s.setView (s.alarm.view.filter fun e => e.source = s.seat.slot) with
    alarm :=
      { (s.setView (s.alarm.view.filter fun e => e.source = s.seat.slot)).alarm with
        cursor := none, viewChanged := true } }) ?_ ?_
  · exact (s.setView_frame _).trans (AlarmFrame.ofAlarm _ _ rfl)
  · split
    · exact Station.clearViewFull_frame _
    · exact AlarmFrame.refl _

/-! ### The own list -/

/-- The own list without ALARM_VIEW_FULL, which merges raise and clear on their own (R180, R181). -/
def AlarmUnit.ownRest (a : AlarmUnit) : List AlarmEntry := a.own.filter fun e => e.code != alarmViewFull

/-- For every other code it tells what stands. -/
theorem AlarmUnit.has_eq_rest (a : AlarmUnit) (code : Word16) (h : code ≠ alarmViewFull) :
    a.has code = a.ownRest.any fun e => e.code = code := by
  unfold AlarmUnit.has AlarmUnit.ownRest
  rw [List.any_filter]
  congr 1
  funext e
  by_cases hc : e.code = code
  · simp [hc, h]
  · simp [hc]

@[simp] theorem Station.updateAlarm_own (s : Station) : s.updateAlarm.alarm.own = s.alarm.own := rfl

@[simp] theorem Station.placeAlarm_own (s : Station) : s.placeAlarm.alarm.own = s.alarm.own := by
  unfold Station.placeAlarm
  split <;> rfl

@[simp] theorem Station.placeAlarmIfPermitted_own (s : Station) :
    s.placeAlarmIfPermitted.alarm.own = s.alarm.own := by
  unfold Station.placeAlarmIfPermitted
  split <;> simp

@[simp] theorem Station.announceList_own (s : Station) : s.announceList.alarm.own = s.alarm.own := by
  unfold Station.announceList
  split <;> simp

/-- R172: the own list after a change. -/
@[simp] theorem Station.setOwn_own (s : Station) (l : List AlarmEntry) : (s.setOwn l).alarm.own = l := by
  simp [Station.setOwn]

@[simp] theorem Station.offerEach_own (s : Station) (l : List ViewEntry) :
    (s.offerEach l).alarm.own = s.alarm.own := by
  induction l generalizing s with
  | nil => rfl
  | cons h t ih => exact (ih _).trans rfl

theorem Station.raiseViewFull_rest (s : Station) : s.raiseViewFull.alarm.ownRest = s.alarm.ownRest := by
  unfold Station.raiseViewFull
  split
  · rfl
  · simp [AlarmUnit.ownRest]

theorem Station.offer_rest (s : Station) (l : List ViewEntry) :
    (s.offer l).alarm.ownRest = s.alarm.ownRest := by
  unfold Station.offer
  dsimp only
  split
  · rw [Station.raiseViewFull_rest]
    simp [AlarmUnit.ownRest]
  · simp [AlarmUnit.ownRest]

theorem Station.clearViewFull_rest (s : Station) : s.clearViewFull.alarm.ownRest = s.alarm.ownRest := by
  unfold Station.clearViewFull
  rw [Station.offer_rest]
  simp [AlarmUnit.ownRest, bne, BEq.beq]

theorem Station.clearViewFullIfLow_rest (s : Station) (l : List ViewEntry) :
    (s.clearViewFullIfLow l).alarm.ownRest = s.alarm.ownRest := by
  unfold Station.clearViewFullIfLow
  split
  · exact s.clearViewFull_rest
  · rfl

/-- R178: a merge leaves the own list alone, ALARM_VIEW_FULL aside. -/
theorem Station.merge_rest (s : Station) (mine : Station → ViewEntry → Bool)
    (entries : Station → List ViewEntry) : (s.merge mine entries).alarm.ownRest = s.alarm.ownRest := by
  unfold Station.merge
  rw [Station.offer_rest]
  exact Station.clearViewFullIfLow_rest _ _

/-- R172, R178: the own list after a change and its merge. -/
theorem Station.changeOwn_rest (s : Station) (l : List AlarmEntry) :
    (s.changeOwn l).alarm.ownRest = l.filter fun e => e.code != alarmViewFull := by
  unfold Station.changeOwn Station.mergeOwn
  rw [Station.merge_rest]
  simp [AlarmUnit.ownRest]

theorem Station.setMarker_rest (s : Station) (p : Slot) (m : Marker) :
    (s.setMarker p m).alarm.ownRest = s.alarm.ownRest := by
  unfold Station.setMarker
  rw [Station.merge_rest]
  rfl

end Sys2Proof.Machine
end

