-- ==== Sys2Proof/Laws/Reviews.lean ====
section
/-! SUPPORT. What the servo's changes of source and state, and the reviews of the selector, can do. -/

namespace Sys2Proof.Machine

/-- R68: entries withdrawn: those not on the lane are gone, those on it may carry the mark. -/
def Withdrawn (l m : List Entry) : Prop :=
  ∃ (keep : Entry → Bool) (f : Entry → Entry), m = (l.filter keep).map f ∧
    (∀ e, ∃ w, f e = { e with withdrawn := w }) ∧ ∀ e, e.onLane = true → keep e = true

theorem Withdrawn.refl (l : List Entry) : Withdrawn l l :=
  ⟨fun _ => true, id, by simp, fun e => ⟨e.withdrawn, rfl⟩, fun _ _ => rfl⟩

theorem Withdrawn.of_eq {l m : List Entry} (h : m = l) : Withdrawn l m := h ▸ Withdrawn.refl l

theorem Withdrawn.trans {l m n : List Entry} : Withdrawn l m → Withdrawn m n → Withdrawn l n := by
  rintro ⟨k, f, rfl, hf, hk⟩ ⟨k', g, rfl, hg, hk'⟩
  refine ⟨fun e => k e && k' (f e), g ∘ f, ?_, fun e => ?_, fun e he => ?_⟩
  · rw [List.filter_map, List.map_map, List.filter_filter]
    congr 2
    funext e
    exact Bool.and_comm _ _
  · obtain ⟨w, hw⟩ := hf e
    obtain ⟨w', hw'⟩ := hg (f e)
    exact ⟨w', by rw [Function.comp, hw', hw]⟩
  · obtain ⟨w, hw⟩ := hf e
    have : (f e).onLane = true := by rw [hw]; exact he
    simp [hk e he, hk' _ this]

theorem Withdrawn.length_le {l m : List Entry} (h : Withdrawn l m) : m.length ≤ l.length := by
  obtain ⟨k, f, rfl, -, -⟩ := h
  simpa using List.length_filter_le k l

/-- What reviews and the servo's source changes leave as it is. -/
structure ReviewFrame (s t : Station) : Prop where
  pins : t.pins = s.pins
  hold : t.hold = s.hold
  localTime : t.localTime = s.localTime
  lane : t.lane = s.lane
  seat : t.seat = s.seat
  roster : t.roster = s.roster
  share : t.share = s.share
  rx : t.rx = s.rx
  outs : t.outs = s.outs
  freeIdx : t.freeIdx = s.freeIdx
  time : t.time = { s.time with a := t.time.a }
  port : t.port = { s.port with timingCause := t.port.timingCause }
  timing : Withdrawn s.sched.timing t.sched.timing
  control : ControlTold s.sched.control t.sched.control
  express : t.sched.express = s.sched.express
  bulk : t.sched.bulk = s.sched.bulk
  completions : t.sched.completions = s.sched.completions
  periodic : t.sched.periodic = s.sched.periodic
  offer : t.sched.offer = s.sched.offer
  i : t.servo.i = s.servo.i
  lastSample : t.servo.lastSample = s.servo.lastSample
  announcement : t.servo.announcement = s.servo.announcement
  extPresent : t.servo.extPresent = s.servo.extPresent
  extLoss : t.servo.extLoss = s.servo.extLoss
  pitch : t.servo.pitch = s.servo.pitch
  holdLimit : t.servo.holdLimit = s.servo.holdLimit
  eligible : t.sel.eligible = s.sel.eligible
  selExt : t.sel.extPresent = s.sel.extPresent
  handover : t.sel.lastHandover = s.sel.lastHandover
  relayCapable : t.alarm.relayCapable = s.alarm.relayCapable

theorem AlarmFrame.toReview {s t : Station} (h : AlarmFrame s t) : ReviewFrame s t where
  pins := h.pins
  hold := h.hold
  localTime := h.localTime
  lane := h.lane
  seat := h.seat
  roster := h.roster
  share := h.share
  rx := h.rx
  outs := h.outs
  freeIdx := h.freeIdx
  time := by rw [h.time]
  port := by rw [h.port]
  timing := Withdrawn.of_eq h.timing
  control := h.control
  express := h.express
  bulk := h.bulk
  completions := h.completions
  periodic := h.periodic
  offer := h.offer
  i := by rw [h.servo]
  lastSample := by rw [h.servo]
  announcement := by rw [h.servo]
  extPresent := by rw [h.servo]
  extLoss := by rw [h.servo]
  pitch := by rw [h.servo]
  holdLimit := by rw [h.servo]
  eligible := by rw [h.sel]
  selExt := by rw [h.sel]
  handover := by rw [h.sel]
  relayCapable := h.relayCapable

theorem ReviewFrame.refl (s : Station) : ReviewFrame s s := (AlarmFrame.refl s).toReview

theorem ReviewFrame.trans {s t u : Station} (h : ReviewFrame s t) (g : ReviewFrame t u) :
    ReviewFrame s u where
  pins := g.pins.trans h.pins
  hold := g.hold.trans h.hold
  localTime := g.localTime.trans h.localTime
  lane := g.lane.trans h.lane
  seat := g.seat.trans h.seat
  roster := g.roster.trans h.roster
  share := g.share.trans h.share
  rx := g.rx.trans h.rx
  outs := g.outs.trans h.outs
  freeIdx := g.freeIdx.trans h.freeIdx
  time := g.time.trans (by rw [h.time])
  port := g.port.trans (by rw [h.port])
  timing := h.timing.trans g.timing
  control := h.control.trans g.control
  express := g.express.trans h.express
  bulk := g.bulk.trans h.bulk
  completions := g.completions.trans h.completions
  periodic := g.periodic.trans h.periodic
  offer := g.offer.trans h.offer
  i := g.i.trans h.i
  lastSample := g.lastSample.trans h.lastSample
  announcement := g.announcement.trans h.announcement
  extPresent := g.extPresent.trans h.extPresent
  extLoss := g.extLoss.trans h.extLoss
  pitch := g.pitch.trans h.pitch
  holdLimit := g.holdLimit.trans h.holdLimit
  eligible := g.eligible.trans h.eligible
  selExt := g.selExt.trans h.selExt
  handover := g.handover.trans h.handover
  relayCapable := g.relayCapable.trans h.relayCapable

/-! ### The servo -/

/-- A change of the servo's state, source, counts and timers alone. -/
theorem ReviewFrame.ofServo (s : Station) (state : ServoState) (source : Source) (a : Int)
    (inCount outCount : Nat) (holdTimer : Option Nat) (expired : Bool) (unlocked : Timer) :
    ReviewFrame s
      { s with
        servo :=
          { s.servo with
            state := state, source := source, a := a, inCount := inCount, outCount := outCount
            holdTimer := holdTimer, expired := expired, unlocked := unlocked } } := by
  constructor <;> first | rfl | exact Withdrawn.refl _ | exact ControlTold.refl _

theorem Station.setTimingCause_frame (s : Station) : ReviewFrame s s.setTimingCause := by
  constructor <;> first | rfl | exact Withdrawn.refl _ | exact ControlTold.refl _

theorem Station.handRate_frame (s : Station) (a : Int) : ReviewFrame s (s.handRate a) := by
  constructor <;> first | rfl | exact Withdrawn.refl _ | exact ControlTold.refl _

theorem Station.setServoState_frame (s : Station) (state : ServoState) :
    ReviewFrame s (s.setServoState state) := by
  unfold Station.setServoState
  split
  · exact ReviewFrame.refl s
  · exact (ReviewFrame.ofServo s state _ _ _ _ _ _ _).trans (Station.setTimingCause_frame _)

/-- R152: the state asked for stands afterwards, and nothing else of the servo moves. -/
theorem Station.setServoState_servo (s : Station) (state : ServoState) :
    (s.setServoState state).servo = { s.servo with state := state } := by
  unfold Station.setServoState
  split
  next h => rw [← h]
  · rfl

theorem Station.startUnlocked_frame (s : Station) : ReviewFrame s s.startUnlocked :=
  ReviewFrame.ofServo s _ _ _ _ _ _ _ _

theorem Station.startUnlockedIfLocked_frame (s : Station) : ReviewFrame s s.startUnlockedIfLocked := by
  unfold Station.startUnlockedIfLocked
  split
  · exact s.startUnlocked_frame
  · exact ReviewFrame.refl s

theorem Station.expireHoldover_frame (s : Station) : ReviewFrame s s.expireHoldover :=
  ((ReviewFrame.ofServo s _ _ _ _ _ none true _).trans (Station.setTimingCause_frame _)).trans
    (Station.raiseInternal_frame _ _).toReview

theorem Station.enterHoldover_frame (s : Station) : ReviewFrame s s.enterHoldover := by
  have h : ReviewFrame s
      (({ s.startUnlockedIfLocked.handRate s.startUnlockedIfLocked.servo.i with
          servo :=
            { (s.startUnlockedIfLocked.handRate s.startUnlockedIfLocked.servo.i).servo with
              holdTimer :=
                some
                  ((s.startUnlockedIfLocked.handRate s.startUnlockedIfLocked.servo.i).localTime +
                    Config.seconds
                      (s.startUnlockedIfLocked.handRate s.startUnlockedIfLocked.servo.i).servo.holdLimit)
              expired := false } } : Station).setServoState .holdover) :=
    ((s.startUnlockedIfLocked_frame.trans (Station.handRate_frame _ _)).trans
      (ReviewFrame.ofServo _ _ _ _ _ _ _ false _)).trans (Station.setServoState_frame _ _)
  unfold Station.enterHoldover
  dsimp only
  split
  · exact h.trans (Station.expireHoldover_frame _)
  · exact h

theorem Station.acquireSource_frame (s : Station) : ReviewFrame s s.acquireSource :=
  (s.startUnlockedIfLocked_frame.trans (ReviewFrame.ofServo _ _ _ _ 0 0 none false _)).trans
    (Station.setServoState_frame _ _)

theorem Station.takeSource_frame (s : Station) (new : Source) : ReviewFrame s (s.takeSource new) := by
  have h := (ReviewFrame.ofServo s s.servo.state new s.servo.a s.servo.inCount s.servo.outCount
    s.servo.holdTimer s.servo.expired s.servo.unlocked).trans (Station.setTimingCause_frame _)
  unfold Station.takeSource
  dsimp only
  split
  · split
    · exact h.trans (Station.enterHoldover_frame _)
    · exact h.trans (Station.enterHoldover_frame _)
    · exact h
    · exact h
  · exact h.trans (Station.acquireSource_frame _)

theorem Station.enterLocked_frame (s : Station) : ReviewFrame s s.enterLocked := by
  have h : ReviewFrame s
      { s with
        servo := { s.servo with inCount := 0, outCount := 0, unlocked := .stopped }
        sel := { s.sel with lockedSource := some s.sel.source } } := by
    constructor <;> first | rfl | exact Withdrawn.refl _ | exact ControlTold.refl _
  exact ((h.trans (Station.setServoState_frame _ _)).trans
    (Station.clearInternal_frame _ _).toReview).trans (Station.clearInternal_frame _ _).toReview

theorem Station.countSample_frame (s : Station) (e : Int) : ReviewFrame s (s.countSample e) := by
  have h : ReviewFrame s (if s.servo.state = .free then s.setServoState .acquire else s) := by
    split
    · exact s.setServoState_frame _
    · exact ReviewFrame.refl s
  unfold Station.countSample
  dsimp only
  refine h.trans ?_
  generalize (if s.servo.state = .free then s.setServoState .acquire else s) = u
  split
  · split
    · split
      · exact (ReviewFrame.ofServo u _ _ _ _ _ _ _ _).trans (Station.enterLocked_frame _)
      · exact ReviewFrame.ofServo u _ _ _ _ _ _ _ _
    · exact ReviewFrame.ofServo u _ _ _ _ _ _ _ _
  · split
    · exact ReviewFrame.ofServo u _ _ _ _ _ _ _ _
    · split
      · exact ((ReviewFrame.ofServo u u.servo.state u.servo.source u.servo.a 0 (u.servo.outCount + 1)
          u.servo.holdTimer u.servo.expired u.servo.unlocked).trans
            (Station.startUnlocked_frame _)).trans (Station.setServoState_frame _ _)
      · exact ReviewFrame.ofServo u _ _ _ _ _ _ _ _
  · exact ReviewFrame.refl u
  · exact ReviewFrame.refl u

/-! ### The selector -/

/-- A change of the selector alone that keeps its settings. -/
theorem ReviewFrame.ofSel (s : Station) (c : Selector) (h1 : c.eligible = s.sel.eligible)
    (h2 : c.extPresent = s.sel.extPresent) (h3 : c.lastHandover = s.sel.lastHandover) :
    ReviewFrame s { s with sel := c } := by
  constructor <;>
    first | rfl | exact h1 | exact h2 | exact h3 | exact Withdrawn.refl _ | exact ControlTold.refl _

theorem Station.stopBeaconing_frame (s : Station) : ReviewFrame s s.stopBeaconing := by
  constructor <;> try first | rfl | exact ControlTold.refl _
  refine ⟨fun e => !(e.kind = .beacon && !e.onLane),
    fun e => if e.kind = .beacon then { e with withdrawn := true } else e, rfl, fun e => ?_,
    fun e he => by simp [he]⟩
  by_cases hk : e.kind = .beacon
  · exact ⟨true, by simp [hk]⟩
  · exact ⟨e.withdrawn, by simp [hk]⟩

theorem Station.decideBeaconing_frame (s : Station) : ReviewFrame s s.decideBeaconing := by
  unfold Station.decideBeaconing
  split
  · exact ReviewFrame.ofSel s _ rfl rfl rfl
  · exact ReviewFrame.ofSel s _ rfl rfl rfl
  · exact s.stopBeaconing_frame
  all_goals exact ReviewFrame.refl s

/-- R142: everything one review can do outside the selector, the servo's source and the alarm unit. -/
theorem Station.review_frame (s : Station) : ReviewFrame s s.review := by
  have h := (ReviewFrame.ofSel s s.chosen rfl rfl rfl).trans (Station.decideBeaconing_frame _)
  unfold Station.review
  dsimp only
  split
  · exact h
  · exact h.trans (Station.takeSource_frame _ _)

theorem reviewLoop_frame (fuel events : Nat) (s : Station) : ReviewFrame s (reviewLoop fuel events s) := by
  induction fuel generalizing events s with
  | zero => exact ReviewFrame.refl s
  | succ fuel ih =>
    cases events with
    | zero => exact ReviewFrame.refl s
    | succ events => exact s.review_frame.trans (ih _ _)

/-- R142: everything the reviews of a command can do. -/
theorem Station.reviews_frame (s : Station) (events : Nat) : ReviewFrame s (s.reviews events) :=
  reviewLoop_frame 8 events s

/-- A property that one review keeps, all the reviews of a command keep. -/
theorem reviews_keep (p : Station → Prop) (h : ∀ s : Station, p s → p s.review) (s : Station) (events : Nat)
    (hs : p s) : p (s.reviews events) := by
  have loop : ∀ (fuel events : Nat) (s : Station), p s → p (reviewLoop fuel events s) := by
    intro fuel
    induction fuel with
    | zero => exact fun _ _ hs => hs
    | succ fuel ih =>
      intro events s hs
      cases events with
      | zero => exact hs
      | succ events => exact ih _ _ (h s hs)
  exact loop 8 events s hs

/-- A property that holds after any review, whatever stood before, holds after at least one. -/
theorem reviews_reach (p : Station → Prop) (h : ∀ s : Station, p s.review) (s : Station) (events : Nat) :
    p (s.reviews (events + 1)) := by
  have loop : ∀ (fuel events : Nat) (s : Station), p s → p (reviewLoop fuel events s) := by
    intro fuel
    induction fuel with
    | zero => exact fun _ _ hs => hs
    | succ fuel ih =>
      intro events s hs
      cases events with
      | zero => exact hs
      | succ events => exact ih _ _ (h s)
  exact loop 7 _ _ (h s)

/-! ### Rank order -/

theorem insertCandidate_perm (c : Candidate) (l : List Candidate) :
    (insertCandidate c l).Perm (c :: l) := by
  induction l with
  | nil => exact .refl _
  | cons h t ih =>
    unfold insertCandidate
    split
    · exact .refl _
    · exact (ih.cons h).trans (.swap _ _ _)

theorem sortCandidates_perm (l : List Candidate) : (sortCandidates l).Perm l := by
  have go : ∀ (l acc : List Candidate),
      (l.foldl (fun a c => insertCandidate c a) acc).Perm (l ++ acc) := by
    intro l
    induction l with
    | nil => exact fun _ => .refl _
    | cons h t ih =>
      exact fun acc => (ih _).trans (((insertCandidate_perm h acc).append_left t).trans List.perm_middle)
  simpa [sortCandidates] using go l []

/-- R136: a candidate that a review keeps satisfies the conditions on the roster. -/
theorem Station.mem_refreshed (s : Station) (l : List Candidate) (c : Candidate) :
    c ∈ s.refreshed l ↔ ∃ d ∈ l, ∃ k, s.candidateClass d.slot = some k ∧ c = { d with cls := k } := by
  unfold Station.refreshed
  rw [(sortCandidates_perm _).mem_iff, List.mem_filterMap]
  constructor
  · rintro ⟨d, hd, h⟩
    obtain ⟨k, hk, rfl⟩ := Option.map_eq_some_iff.1 h
    exact ⟨d, hd, k, hk, rfl⟩
  · rintro ⟨d, hd, k, hk, rfl⟩
    exact ⟨d, hd, by simp [hk]⟩

/-- R136: the class of a candidate comes from a PRESENT record that is not barred. -/
theorem Station.candidateClass_some (s : Station) (p : Slot) (k : Nat) (h : s.candidateClass p = some k) :
    (s.peer p).state = .present ∧ (s.peer p).barred = false ∧ (s.peer p).beacon.isSome = true ∧
      (s.peer p).cls = some k ∧ k ≤ 13 := by
  unfold Station.candidateClass at h
  dsimp only at h
  split at h
  next hc =>
    simp only [Bool.and_eq_true, decide_eq_true_eq, Bool.not_eq_true'] at hc
    split at h
    next c hcls =>
      split at h
      next hle =>
        cases h
        exact ⟨hc.1.1, hc.1.2, hc.2, hcls, hle⟩
      · cases h
    · cases h
  · cases h

end Sys2Proof.Machine
end

