-- ==== Sys2Proof/Laws/Scheduler.lean ====
section
/-! SUPPORT. What the scheduler's operations can do: retiring a frame, flushes, renewing the offer, acting
on a result. -/

namespace Sys2Proof.Machine

/-- Some queues, the completion records, the periodic table, the offer and the MISSED cause may have changed,
nothing else. -/
structure QueueFrame (s t : Station) : Prop where
  pins : t.pins = s.pins
  hold : t.hold = s.hold
  localTime : t.localTime = s.localTime
  lane : t.lane = s.lane
  seat : t.seat = s.seat
  roster : t.roster = s.roster
  share : t.share = s.share
  rx : t.rx = s.rx
  time : t.time = s.time
  sel : t.sel = s.sel
  servo : t.servo = s.servo
  alarm : t.alarm = s.alarm
  outs : t.outs = s.outs
  freeIdx : t.freeIdx = s.freeIdx
  port : t.port = { s.port with missedCause := t.port.missedCause }
  completions : s.sched.completions <+: t.sched.completions

theorem QueueFrame.refl (s : Station) : QueueFrame s s := by
  constructor <;> rfl

theorem QueueFrame.trans {s t u : Station} (h : QueueFrame s t) (g : QueueFrame t u) : QueueFrame s u where
  pins := g.pins.trans h.pins
  hold := g.hold.trans h.hold
  localTime := g.localTime.trans h.localTime
  lane := g.lane.trans h.lane
  seat := g.seat.trans h.seat
  roster := g.roster.trans h.roster
  share := g.share.trans h.share
  rx := g.rx.trans h.rx
  time := g.time.trans h.time
  sel := g.sel.trans h.sel
  servo := g.servo.trans h.servo
  alarm := g.alarm.trans h.alarm
  outs := g.outs.trans h.outs
  freeIdx := g.freeIdx.trans h.freeIdx
  port := g.port.trans (by rw [h.port])
  completions := h.completions.trans g.completions

/-- A change of queues and offer that keeps the records. -/
theorem QueueFrame.ofSched (s : Station) (c : Sched) (h : c.completions = s.sched.completions) :
    QueueFrame s { s with sched := c } := by
  constructor <;> first | rfl | exact h ▸ List.prefix_refl _

theorem Station.setQueue_queueFrame (s : Station) (q : FrameClass) (l : List Entry) :
    QueueFrame s (s.setQueue q l) := QueueFrame.ofSched s _ (Sched.setQueue_completions _ _ _)

theorem Station.setOffer_queueFrame (s : Station) (q : Option FrameClass) : QueueFrame s (s.setOffer q) :=
  QueueFrame.ofSched s _ rfl

theorem Station.setMissed_queueFrame (s : Station) (i : Fin 4) : QueueFrame s (s.setMissed i) := by
  unfold Station.setMissed
  dsimp only
  split
  · exact QueueFrame.refl s
  · constructor <;> rfl

@[simp] theorem Station.setMissed_queue (s : Station) (i : Fin 4) (q : FrameClass) :
    (s.setMissed i).sched.queue q = s.sched.queue q := by
  unfold Station.setMissed
  dsimp only
  split <;> cases q <;> rfl

@[simp] theorem Station.setMissed_completions (s : Station) (i : Fin 4) :
    (s.setMissed i).sched.completions = s.sched.completions := by
  unfold Station.setMissed
  dsimp only
  split <;> rfl

/-- R76, R86: the record that a frame leaves behind. -/
def Entry.record (e : Entry) (o : FrameOutcome) : Option Completion :=
  e.tag.map fun tag => { tag := tag, outcome := o, attempts := e.attempts, lastStart := e.lastStart }

theorem Station.retire_queueFrame (s : Station) (e : Entry) (o : FrameOutcome) :
    QueueFrame s (s.retire e o) := by
  unfold Station.retire
  split
  · constructor <;> first | rfl | exact List.prefix_append _ _
  · split
    · split
      · exact QueueFrame.refl s
      · split
        · exact s.setMissed_queueFrame _
        · exact QueueFrame.refl s
    · exact QueueFrame.refl s

/-- R76: retiring a frame leaves every queue alone. -/
@[simp] theorem Station.retire_queue (s : Station) (e : Entry) (o : FrameOutcome) (q : FrameClass) :
    (s.retire e o).sched.queue q = s.sched.queue q := by
  unfold Station.retire
  split
  · cases q <;> rfl
  · split
    · split
      · rfl
      · split
        · exact s.setMissed_queue _ q
        · rfl
    · rfl

/-- R76: what retiring a frame adds to the records. -/
@[simp] theorem Station.retire_completions (s : Station) (e : Entry) (o : FrameOutcome) :
    (s.retire e o).sched.completions = s.sched.completions ++ (e.record o).toList := by
  unfold Station.retire Entry.record
  split
  next tag h => simp [h]
  next h =>
    split
    · split
      · simp [h]
      · split <;> simp [h]
    · simp [h]

@[simp] theorem Station.retire_offer (s : Station) (e : Entry) (o : FrameOutcome) :
    (s.retire e o).sched.offer = s.sched.offer := by
  unfold Station.retire Station.setMissed
  dsimp only
  repeat' split
  all_goals rfl

/-- Frames retired one after another. -/
theorem foldl_retire (l : List Entry) (o : FrameOutcome) (s : Station) :
    QueueFrame s (l.foldl (fun t e => t.retire e o) s) ∧
      (∀ q, (l.foldl (fun t e => t.retire e o) s).sched.queue q = s.sched.queue q) ∧
      (l.foldl (fun t e => t.retire e o) s).sched.offer = s.sched.offer ∧
      (l.foldl (fun t e => t.retire e o) s).sched.completions =
        s.sched.completions ++ l.filterMap (Entry.record · o) := by
  induction l generalizing s with
  | nil => exact ⟨QueueFrame.refl s, fun _ => rfl, rfl, by simp⟩
  | cons e l ih =>
    obtain ⟨h1, h2, h3, h4⟩ := ih (s.retire e o)
    refine ⟨(s.retire_queueFrame e o).trans h1, fun q => (h2 q).trans (s.retire_queue e o q),
      h3.trans (s.retire_offer e o), ?_⟩
    rw [List.foldl_cons, h4, s.retire_completions, List.append_assoc]
    cases h : e.record o <;> simp [h]

/-! ### Flushes -/

/-- R79 to R82: everything a flush does. -/
theorem Station.flush_spec (s : Station) (q : FrameClass) (hit : Entry → Bool) (o : FrameOutcome) :
    QueueFrame s (s.flush q hit o) ∧
      (s.flush q hit o).sched.queue q =
        (((s.sched.queue q).filter fun e => !(hit e && !e.onLane)).map fun e =>
          if hit e then e.markPending o else e) ∧
      (∀ r, r ≠ q → (s.flush q hit o).sched.queue r = s.sched.queue r) ∧
      (s.flush q hit o).sched.offer = s.sched.offer ∧
      (s.flush q hit o).sched.completions =
        s.sched.completions ++
          ((s.sched.queue q).filter fun e => hit e && !e.onLane).filterMap (Entry.record · o) := by
  unfold Station.flush
  dsimp only
  obtain ⟨h1, h2, h3, h4⟩ := foldl_retire ((s.sched.queue q).filter fun e => hit e && !e.onLane) o
    (s.setQueue q
      (((s.sched.queue q).filter fun e => !(hit e && !e.onLane)).map fun e =>
        if hit e then e.markPending o else e))
  refine ⟨(s.setQueue_queueFrame _ _).trans h1, (h2 q).trans (by simp), fun r hr => (h2 r).trans ?_,
    h3.trans (by simp), h4.trans (by simp)⟩
  rw [Station.setQueue_sched, Sched.queue_setQueue_other _ _ _ _ hr]

theorem Station.flushSlot_queueFrame (s : Station) (p : Slot) : QueueFrame s (s.flushSlot p) :=
  (s.flush_spec _ _ _).1.trans (Station.flush_spec _ _ _ _).1

theorem Station.flushCards_queueFrame (s : Station) : QueueFrame s s.flushCards :=
  (s.flush_spec _ _ _).1.trans (Station.flush_spec _ _ _ _).1

theorem Station.emptyInternal_queueFrame (s : Station) : QueueFrame s s.emptyInternal :=
  (s.setQueue_queueFrame _ _).trans (Station.setQueue_queueFrame _ _ _)

/-! ### The offer -/

/-- R97: everything BULK selection does: the heads above the tier limit leave with a record SHED. -/
theorem Station.bulkSelection_spec (s : Station) :
    QueueFrame s s.bulkSelection ∧
      (∀ q, q ≠ .bulk → s.bulkSelection.sched.queue q = s.sched.queue q) ∧
      (s.seat.maySendAlarms = true →
        s.bulkSelection.sched.bulk = s.sched.bulk.dropWhile s.sheds ∧
          s.bulkSelection.sched.completions =
            s.sched.completions ++
              (s.sched.bulk.takeWhile s.sheds).filterMap (Entry.record · .shed)) ∧
      (s.seat.maySendAlarms = false → s.bulkSelection = s) := by
  by_cases hm : s.seat.maySendAlarms = true
  · have hs : s.bulkSelection =
        (s.sched.bulk.takeWhile s.sheds).foldl (fun t e => t.retire e .shed)
          (s.setQueue .bulk (s.sched.bulk.dropWhile s.sheds)) := by
      unfold Station.bulkSelection
      rw [if_pos hm]
    obtain ⟨h1, h2, -, h4⟩ := foldl_retire (s.sched.bulk.takeWhile s.sheds) .shed
      (s.setQueue .bulk (s.sched.bulk.dropWhile s.sheds))
    rw [← hs] at h1 h2 h4
    refine ⟨(s.setQueue_queueFrame _ _).trans h1, fun q hq => (h2 q).trans ?_, fun _ => ⟨?_, ?_⟩,
      fun h => by simp [hm] at h⟩
    · rw [Station.setQueue_sched, Sched.queue_setQueue_other _ _ _ _ hq]
    · exact (h2 .bulk).trans rfl
    · exact h4.trans rfl
  · have hs : s.bulkSelection = s := by
      unfold Station.bulkSelection
      rw [if_neg hm]
    rw [hs]
    exact ⟨QueueFrame.refl s, fun _ _ => rfl, fun h => absurd h hm, fun _ => rfl⟩

/-- R70: everything renewing the offer does outside BULK, the records and the offer itself. -/
theorem Station.renewOffer_spec (s : Station) :
    QueueFrame s s.renewOffer ∧
      ∀ q, q ≠ .bulk → s.renewOffer.sched.queue q = s.sched.queue q := by
  unfold Station.renewOffer
  split
  · exact ⟨s.setOffer_queueFrame _, fun q _ => by simp⟩
  · split
    · exact ⟨s.setOffer_queueFrame _, fun q _ => by simp⟩
    · split
      · exact ⟨s.setOffer_queueFrame _, fun q _ => by simp⟩
      · split
        · exact ⟨s.setOffer_queueFrame _, fun q _ => by simp⟩
        · obtain ⟨h1, h2, -, -⟩ := s.bulkSelection_spec
          exact ⟨h1.trans (Station.setOffer_queueFrame _ _), fun q hq => by
            simpa using h2 q hq⟩

theorem Station.renewOffer_express (s : Station) : s.renewOffer.sched.express = s.sched.express :=
  s.renewOffer_spec.2 .express (by decide)

theorem Station.renewOffer_control (s : Station) : s.renewOffer.sched.control = s.sched.control :=
  s.renewOffer_spec.2 .control (by decide)

theorem Station.renewOffer_timing (s : Station) : s.renewOffer.sched.timing = s.sched.timing :=
  s.renewOffer_spec.2 .timing (by decide)

/-! ### Results -/

theorem Station.applyFate_queueFrame (s : Station) (q : FrameClass) (f : Option Fate) :
    QueueFrame s (s.applyFate q f) := by
  unfold Station.applyFate
  split
  · exact s.setQueue_queueFrame _ _
  · exact (s.setQueue_queueFrame _ _).trans (Station.retire_queueFrame _ _ _)
  · exact QueueFrame.refl s

/-- R72: the queue after a result: the entry as it stays at its head, or what stood behind it. -/
theorem Station.applyFate_queue (s : Station) (q : FrameClass) (f : Option Fate) :
    (s.applyFate q f).sched.queue q =
      match f with
      | some (.stays e) => e :: s.sched.behindHead q
      | some (.leaves _ _) => s.sched.behindHead q
      | none => s.sched.queue q := by
  unfold Station.applyFate
  split <;> simp [Sched.behindHead]

theorem Station.applyFate_queue_other (s : Station) (q r : FrameClass) (f : Option Fate) (h : r ≠ q) :
    (s.applyFate q f).sched.queue r = s.sched.queue r := by
  unfold Station.applyFate
  split
  · rw [Station.setHead_sched, Sched.queue_setQueue_other _ _ _ _ h]
  · rw [Station.retire_queue, Station.setQueue_sched, Sched.queue_setQueue_other _ _ _ _ h]
  · rfl

end Sys2Proof.Machine
end

