-- ==== Sys2Proof/Laws/Seat.lean ====
section
/-! SUPPORT. What a change of seat state can do, and how commands, events and requests answer. -/

namespace Sys2Proof.Machine

/-! ### A change of seat state (R26, R27) -/

/-- What a change of seat state leaves as it is. -/
structure EnterFrame (s t : Station) : Prop where
  pins : t.pins = s.pins
  hold : t.hold = s.hold
  localTime : t.localTime = s.localTime
  share : t.share = s.share
  rx : t.rx = s.rx
  outs : t.outs = s.outs
  freeIdx : t.freeIdx = s.freeIdx
  peers : t.roster.peers = s.roster.peers
  cardType : t.roster.cardType = s.roster.cardType
  time : t.time = { s.time with a := t.time.a }
  lane : t.lane =
    { s.lane with attempt := t.lane.attempt, marks := t.lane.marks, delimiter := t.lane.delimiter }
  i : t.servo.i = s.servo.i
  lastSample : t.servo.lastSample = s.servo.lastSample
  completions : s.sched.completions <+: t.sched.completions
  cardOk : t.port.cardOk = s.port.cardOk

theorem EnterFrame.refl (s : Station) : EnterFrame s s := by
  constructor <;> rfl

theorem EnterFrame.trans {s t u : Station} (h : EnterFrame s t) (g : EnterFrame t u) : EnterFrame s u where
  pins := g.pins.trans h.pins
  hold := g.hold.trans h.hold
  localTime := g.localTime.trans h.localTime
  share := g.share.trans h.share
  rx := g.rx.trans h.rx
  outs := g.outs.trans h.outs
  freeIdx := g.freeIdx.trans h.freeIdx
  peers := g.peers.trans h.peers
  cardType := g.cardType.trans h.cardType
  time := g.time.trans (by rw [h.time])
  lane := g.lane.trans (by rw [h.lane])
  i := g.i.trans h.i
  lastSample := g.lastSample.trans h.lastSample
  completions := h.completions.trans g.completions
  cardOk := g.cardOk.trans h.cardOk

theorem ReviewFrame.toEnter {s t : Station} (h : ReviewFrame s t) : EnterFrame s t where
  pins := h.pins
  hold := h.hold
  localTime := h.localTime
  share := h.share
  rx := h.rx
  outs := h.outs
  freeIdx := h.freeIdx
  peers := by rw [h.roster]
  cardType := by rw [h.roster]
  time := h.time
  lane := by rw [h.lane]
  i := h.i
  lastSample := h.lastSample
  completions := by rw [h.completions]
  cardOk := by rw [h.port]

theorem QueueFrame.toEnter {s t : Station} (h : QueueFrame s t) : EnterFrame s t where
  pins := h.pins
  hold := h.hold
  localTime := h.localTime
  share := h.share
  rx := h.rx
  outs := h.outs
  freeIdx := h.freeIdx
  peers := by rw [h.roster]
  cardType := by rw [h.roster]
  time := by rw [h.time]
  lane := by rw [h.lane]
  i := by rw [h.servo]
  lastSample := by rw [h.servo]
  completions := h.completions
  cardOk := by rw [h.port]

/-- R43: a clean report touches the mismatch count alone. -/
theorem Station.readbackClean_frame (s : Station) : EnterFrame s s.readbackClean := by
  unfold Station.readbackClean
  split
  · constructor <;> rfl
  · exact EnterFrame.refl s

/-- R26, R43: where the transmit gate closes, readback reports move nothing. -/
theorem Station.readbackClean_closed (s : Station) (h : closesGate s.seat.state = true) :
    s.readbackClean = s := by
  unfold Station.readbackClean
  rw [if_neg]
  revert h
  cases s.seat.state <;> simp [closesGate, countsReadback]

/-- R18: the attempt cut and its frame retired, before the report. -/
theorem Station.cutFrame_frame (s : Station) (q : FrameClass) (f : Option Fate) :
    EnterFrame s ((s.clearAttempt).applyFate q f) :=
  EnterFrame.trans (t := s.clearAttempt) (by constructor <;> rfl)
    (Station.applyFate_queueFrame _ _ _).toEnter

theorem Station.cutAttempt_frame (s : Station) : EnterFrame s s.cutAttempt := by
  unfold Station.cutAttempt
  split
  · dsimp only
    split
    · exact s.cutFrame_frame _ _
    · exact (s.cutFrame_frame _ _).trans (Station.readbackClean_frame _)
    · exact EnterFrame.refl s
  · exact EnterFrame.refl s

/-- R18: stopping the delimiter touches nothing else. -/
theorem Station.stopDelimiter_frame (s : Station) : EnterFrame s s.stopDelimiter := by
  constructor <;> rfl

/-- The part of `closeGates` that follows the marks. -/
theorem Station.cutAndFlush_frame (s : Station) :
    EnterFrame s
      (if closesGate s.seat.state then (((s.stopDelimiter).cutAttempt).flushCards).emptyInternal else s) := by
  split
  · exact ((s.stopDelimiter_frame.trans (Station.cutAttempt_frame _)).trans
      (Station.flushCards_queueFrame _).toEnter).trans (Station.emptyInternal_queueFrame _).toEnter
  · exact EnterFrame.refl s

theorem Station.closeGates_frame (s : Station) : EnterFrame s s.closeGates := by
  have h : EnterFrame s
      (if markGate s.seat.state then s
        else { s with lane := { s.lane with marks := Marks.none } }) := by
    split
    · exact EnterFrame.refl s
    · constructor <;> rfl
  exact h.trans (Station.cutAndFlush_frame _)

/-- R18: where the transmit gate closes, no end delimiter is driven. -/
theorem Station.closeGates_delimiter (s : Station) (h : closesGate s.seat.state = true) :
    s.closeGates.lane.delimiter = false := by
  have hc (u : Station) (hu : u.lane.delimiter = false) : u.cutAttempt.lane.delimiter = false := by
    have ha (q : FrameClass) (f : Option Fate) : ((u.clearAttempt).applyFate q f).lane.delimiter = false := by
      rw [(Station.applyFate_queueFrame _ _ _).lane]; exact hu
    unfold Station.cutAttempt
    split
    · dsimp only
      split
      · exact ha _ _
      · unfold Station.readbackClean
        split
        · exact ha _ _
        · exact ha _ _
      · exact hu
    · exact hu
  have hf (u : Station) (hu : u.seat = s.seat) :
      (if closesGate u.seat.state then (((u.stopDelimiter).cutAttempt).flushCards).emptyInternal
        else u).lane.delimiter = false := by
    rw [hu, if_pos h, (Station.emptyInternal_queueFrame _).lane, (Station.flushCards_queueFrame _).lane]
    exact hc _ rfl
  refine hf _ ?_
  split <;> rfl

/-- R26: with the transmit gate left open, the gates leave the queues and the attempt alone. -/
theorem Station.closeGates_open (s : Station) (h : closesGate s.seat.state = false) :
    s.closeGates.sched = s.sched ∧ s.closeGates.lane.attempt = s.lane.attempt ∧
      s.closeGates.port = s.port ∧ s.closeGates.alarm = s.alarm ∧ s.closeGates.sel = s.sel ∧
      s.closeGates.servo = s.servo ∧ s.closeGates.lane.delimiter = s.lane.delimiter := by
  unfold Station.closeGates
  dsimp only
  split <;> simp_all

theorem Station.seatTimers_frame (s : Station) : EnterFrame s s.seatTimers := by
  have h : EnterFrame s
      { s with
        roster :=
          { s.roster with
            silence :=
              if decide (s.seat.state = .active) then some (s.localTime + Config.silence) else none }
        port :=
          { s.port with
            watchdog := s.port.watchdogIn (decide (s.seat.state = .active)) s.localTime } } := by
    constructor <;> rfl
  unfold Station.seatTimers
  dsimp only
  split
  · exact h.trans (Station.startAlarms_frame _).toReview.toEnter
  · exact h
  all_goals constructor <;> rfl

/-- R27: everything a change of seat state can do outside the seat controller, the queues, the gates, the
timers and the selector's choice. -/
theorem Station.enterSeat_frame (s : Station) (new : SeatState) : EnterFrame s (s.enterSeat new) := by
  have h : EnterFrame s (s.announceSeat new) := by constructor <;> rfl
  exact ((h.trans (Station.closeGates_frame _)).trans (Station.seatTimers_frame _)).trans
    (Station.reviews_frame _ _).toEnter

/-- R18, R43: a cut on a gate that closes leaves the seat controller as it is. -/
theorem Station.cutAttempt_seat (s : Station) (h : closesGate s.seat.state = true) :
    s.cutAttempt.seat = s.seat := by
  have hc (q : FrameClass) (f : Option Fate) : ((s.clearAttempt).applyFate q f).seat = s.seat :=
    (Station.applyFate_queueFrame _ _ _).seat
  unfold Station.cutAttempt
  split
  · dsimp only
    split
    · exact hc _ _
    · rw [Station.readbackClean_closed _ (by rw [hc]; exact h)]
      exact hc _ _
    · rfl
  · rfl

theorem Station.cutAndFlush_seat (s : Station) :
    (if closesGate s.seat.state then (((s.stopDelimiter).cutAttempt).flushCards).emptyInternal
      else s).seat = s.seat := by
  split
  next h =>
    rw [(Station.emptyInternal_queueFrame _).seat, (Station.flushCards_queueFrame _).seat,
      Station.cutAttempt_seat s.stopDelimiter h, Station.stopDelimiter_seat]
  next => rfl

theorem Station.closeGates_seat (s : Station) : s.closeGates.seat = s.seat := by
  refine (Station.cutAndFlush_seat _).trans ?_
  split <;> rfl

theorem Station.seatTimers_seat (s : Station) : s.seatTimers.seat = s.seat := by
  unfold Station.seatTimers
  dsimp only
  split
  · rw [(Station.startAlarms_frame _).seat]
  all_goals rfl

/-- R26, R27: the seat controller after a change of state. -/
theorem Station.enterSeat_seat (s : Station) (new : SeatState) :
    (s.enterSeat new).seat =
      { s.seat with
        state := new
        listenCount := 0
        drain := if new = .leaving then s.seat.drain else none
        reachedActive := s.seat.reachedActive || new = .active } := by
  unfold Station.enterSeat
  rw [(Station.reviews_frame _ _).seat, Station.seatTimers_seat, Station.closeGates_seat]
  rfl

theorem Station.tellUnsent_frame (s : Station) (e : Option Entry) : AlarmFrame s (s.tellUnsent e) := by
  unfold Station.tellUnsent
  split
  · split
    · exact s.placeAlarmIfPermitted_frame
    · exact AlarmFrame.refl s
  · exact AlarmFrame.refl s

/-- R68: placing a JOIN or a LEAVE touches CONTROL and the alarm unit alone. -/
theorem Station.placeAtHead_frame (s : Station) (kind : FrameKind) : EnterFrame s (s.placeAtHead kind) := by
  have h : EnterFrame s { s with sched := s.sched.placeAtHead (Entry.internal kind []) } := by
    constructor <;> rfl
  exact h.trans (Station.tellUnsent_frame _ _).toReview.toEnter

/-! ### Commands, events, requests -/

@[simp] theorem State.run_eq (s : State) (f : Station → Station) :
    s.run f = .next { s with toStation := f s.toStation } := rfl

/-- R25: in a reset hold no event happens. -/
theorem event_held (isDue : Station → Bool) (f : Station → Station) (s : Station) (h : s.hold = true) :
    event isDue f s = s := by
  simp [event, h]

/-- An event that is not due does nothing. -/
theorem event_not_due (isDue : Station → Bool) (f : Station → Station) (s : Station)
    (h : isDue s = false) : event isDue f s = s := by
  simp [event, h]

/-- An event that is due. -/
theorem event_due (isDue : Station → Bool) (f : Station → Station) (s : Station) (h : s.hold = false)
    (hd : isDue s = true) : event isDue f s = (f s).drive := by
  simp [event, h, hd]

theorem offerEvent_held (isDue : Station → Bool) (f : Station → Station) (s : Station)
    (h : s.hold = true) : offerEvent isDue f s = s := event_held _ _ s h

theorem offerEvent_not_due (isDue : Station → Bool) (f : Station → Station) (s : Station)
    (h : isDue s = false) : offerEvent isDue f s = s := event_not_due _ _ s h

theorem offerEvent_due (isDue : Station → Bool) (f : Station → Station) (s : Station)
    (h : s.hold = false) (hd : isDue s = true) : offerEvent isDue f s = (f s).renewOffer.drive :=
  event_due _ _ s h hd

/-- Two effects in an open order: one of the two orders, with the counter of free values raised. -/
theorem eitherOrder_cases (f g : Station → Station) (s : Station) :
    eitherOrder f g s = g (f { s with freeIdx := s.freeIdx + 1 }) ∨
      eitherOrder f g s = f (g { s with freeIdx := s.freeIdx + 1 }) := by
  unfold eitherOrder
  dsimp only
  split
  · exact .inl rfl
  · exact .inr rfl

/-- R201: everything that `cardAlive` can do outside the alarm unit, CONTROL, BULK and the port. -/
theorem Station.cardAlive_frame (s : Station) :
    EnterFrame { s with port := { s.port with cardOk := true } } s.cardAlive ∧
      s.cardAlive.lane = s.lane ∧ s.cardAlive.seat = s.seat ∧ s.cardAlive.roster = s.roster ∧
      s.cardAlive.time = s.time ∧ s.cardAlive.sel = s.sel ∧ s.cardAlive.servo = s.servo ∧
      s.cardAlive.sched.express = s.sched.express ∧ s.cardAlive.sched.timing = s.sched.timing := by
  have h : EnterFrame { s with port := { s.port with cardOk := true } } s.renewWatchdog := by
    constructor <;> rfl
  unfold Station.cardAlive
  dsimp only
  split
  · have a := Station.clearInternal_frame s.renewWatchdog cardUnresponsive
    obtain ⟨q, qs⟩ := Station.renewOffer_spec (s.renewWatchdog.clearInternal cardUnresponsive)
    exact ⟨(h.trans a.toReview.toEnter).trans q.toEnter, q.lane.trans a.lane, q.seat.trans a.seat,
      q.roster.trans a.roster, q.time.trans a.time, q.sel.trans a.sel, q.servo.trans a.servo,
      (qs .express (by decide)).trans a.express, (qs .timing (by decide)).trans a.timing⟩
  · exact ⟨h, rfl, rfl, rfl, rfl, rfl, rfl, rfl, rfl⟩

/-- R188: a request reaches nothing in a reset hold or while a RESTART waits. -/
theorem Station.serve_ignored (req : Instr) (f : Station → Answer) (s : Station)
    (h : s.hold = true ∨ s.port.restartPending = true) : s.serve req f = s := by
  rcases h with h | h <;> simp [Station.serve, h]

/-- R188: a request served. -/
theorem Station.serve_served (req : Instr) (f : Station → Answer) (s : Station) (h : s.hold = false)
    (hr : s.port.restartPending = false) :
    s.serve req f =
      ({ (f s.cardAlive).1 with
          port :=
            { (f s.cardAlive).1.port with
              request := some req, reply := some (replyOf (f s.cardAlive)) } } : Station).drive := by
  simp [Station.serve, h, hr]

end Sys2Proof.Machine
end

