-- ==== Sys2Proof/Laws/Gate.lean ====
section
/-! SUPPORT. What a closing transmit gate does to the queues, the records and the periodic table: `cutAttempt_spec`
says it of the frame cut, `closeGates_closed` of the gates, and `enterSeat_closed` of a change of seat state. -/

namespace Sys2Proof.Machine

/-! ### Missed flags -/

/-- R85, R86: from `s` to `t` exactly the written entries that `d` names have been marked missed, and the MISSED cause
is set where one of them was not marked. -/
structure Missed (d : Fin 4 → Prop) (s t : Station) : Prop where
  marked : ∀ i, d i → (s.sched.periodic.get i).written = true →
    t.sched.periodic.get i = { s.sched.periodic.get i with missed := true }
  kept : ∀ i, ¬ (d i ∧ (s.sched.periodic.get i).written = true) →
    t.sched.periodic.get i = s.sched.periodic.get i
  cause : t.port.missedCause = true ↔ s.port.missedCause = true ∨
    ∃ i, (s.sched.periodic.get i).missed = false ∧ (t.sched.periodic.get i).missed = true

theorem Missed.written {d : Fin 4 → Prop} {s t : Station} (h : Missed d s t) (i : Fin 4) :
    (t.sched.periodic.get i).written = (s.sched.periodic.get i).written := by
  by_cases hd : d i ∧ (s.sched.periodic.get i).written = true
  · rw [h.marked i hd.1 hd.2]
  · rw [h.kept i hd]

theorem Missed.raises {d : Fin 4 → Prop} {s t : Station} (h : Missed d s t) (i : Fin 4)
    (hm : (s.sched.periodic.get i).missed = true) : (t.sched.periodic.get i).missed = true := by
  by_cases hd : d i ∧ (s.sched.periodic.get i).written = true
  · rw [h.marked i hd.1 hd.2]
  · rw [h.kept i hd, hm]

/-- Nothing is marked where neither the table nor the cause has moved. -/
theorem Missed.ofEq {s t : Station} (hp : t.sched.periodic = s.sched.periodic)
    (hc : t.port.missedCause = s.port.missedCause) : Missed (fun _ => False) s t where
  marked i h := h.elim
  kept i _ := by rw [hp]
  cause := by
    rw [hp, hc]
    constructor
    · exact .inl
    · rintro (h | ⟨i, h, g⟩)
      · exact h
      · rw [h] at g; exact absurd g (by simp)

theorem Missed.trans {d e : Fin 4 → Prop} {s t u : Station} (h : Missed d s t) (g : Missed e t u) :
    Missed (fun i => d i ∨ e i) s u where
  marked i hd hw := by
    by_cases he : e i
    · rw [g.marked i he ((h.written i).trans hw)]
      by_cases hd' : d i
      · rw [h.marked i hd' hw]
      · rw [h.kept i fun x => hd' x.1]
    · rw [g.kept i fun x => he x.1, h.marked i (hd.resolve_right he) hw]
  kept i hn := by
    rw [g.kept i fun x => hn ⟨.inr x.1, (h.written i).symm.trans x.2⟩, h.kept i fun x => hn ⟨.inl x.1, x.2⟩]
  cause := by
    rw [g.cause, h.cause]
    constructor
    · rintro ((c | ⟨i, a, b⟩) | ⟨i, a, b⟩)
      · exact .inl c
      · exact .inr ⟨i, a, g.raises i b⟩
      · refine .inr ⟨i, ?_, b⟩
        cases hm : (s.sched.periodic.get i).missed
        · rfl
        · rw [h.raises i hm] at a; exact absurd a (by simp)
    · rintro (c | ⟨i, a, b⟩)
      · exact .inl (.inl c)
      · cases hm : (t.sched.periodic.get i).missed
        · exact .inr ⟨i, hm, b⟩
        · exact .inl (.inr ⟨i, a, hm⟩)

theorem Missed.congr {d e : Fin 4 → Prop} {s t : Station} (h : Missed d s t) (he : ∀ i, e i ↔ d i) :
    Missed e s t where
  marked i hd := h.marked i ((he i).1 hd)
  kept i hn := h.kept i fun x => hn ⟨(he i).2 x.1, x.2⟩
  cause := h.cause

/-- R86: this frame, leaving with this outcome, is a copy of entry `i` that was not delivered. -/
def Entry.missesCopy (e : Entry) (o : FrameOutcome) (i : Fin 4) : Prop :=
  e.tag = none ∧ e.periodic = some i ∧ o ≠ .delivered

theorem Station.setMissed_missed (s : Station) (i : Fin 4) (hw : (s.sched.periodic.get i).written = true) :
    Missed (fun j => i = j) s (s.setMissed i) := by
  unfold Station.setMissed
  dsimp only
  split
  next hm =>
    refine { marked := ?_, kept := fun _ _ => rfl, cause := ?_ }
    · rintro j rfl -
      generalize s.sched.periodic.get i = p at hm
      cases p
      cases hm
      rfl
    · constructor
      · exact .inl
      · rintro (c | ⟨j, a, b⟩)
        · exact c
        · rw [a] at b; exact absurd b (by simp)
  next hm =>
    have hget : ∀ j, (s.sched.periodic.set i { s.sched.periodic.get i with missed := true }).get j =
        if i = j then { s.sched.periodic.get i with missed := true } else s.sched.periodic.get j := by
      intro j
      simp only [Vector.get_eq_getElem, Vector.getElem_set, Fin.ext_iff]
    refine { marked := ?_, kept := fun j hj => ?_, cause := ?_ }
    · rintro j rfl -
      exact (hget i).trans (if_pos rfl)
    · refine (hget j).trans (if_neg ?_)
      rintro rfl
      exact hj ⟨rfl, hw⟩
    · refine iff_of_true rfl (.inr ⟨i, by simpa using hm, ?_⟩)
      exact congrArg PeriodicEntry.missed ((hget i).trans (if_pos rfl))

/-- R86: what retiring a frame marks missed. -/
theorem Station.retire_missed (s : Station) (e : Entry) (o : FrameOutcome) :
    Missed (e.missesCopy o) s (s.retire e o) := by
  unfold Station.retire
  split
  next tag h =>
    refine Missed.congr (d := fun _ => False) ?_ fun i => by simp [Entry.missesCopy, h]
    exact Missed.ofEq rfl rfl
  next h =>
    split
    next i hp =>
      split
      next ho => exact (Missed.ofEq rfl rfl).congr fun i => by simp [Entry.missesCopy, ho]
      next ho =>
        split
        next hw => exact (s.setMissed_missed i hw).congr fun j => by simp [Entry.missesCopy, h, hp, ho]
        next hw =>
          refine { marked := ?_, kept := fun _ _ => rfl, cause := ?_ }
          · rintro j ⟨-, hj, -⟩ hj'
            rw [hp] at hj
            cases hj
            exact absurd hj' hw
          · constructor
            · exact .inl
            · rintro (c | ⟨j, a, b⟩)
              · exact c
              · rw [a] at b; exact absurd b (by simp)
    next hp => exact (Missed.ofEq rfl rfl).congr fun i => by simp [Entry.missesCopy, hp]

theorem foldl_retire_missed (l : List Entry) (o : FrameOutcome) (s : Station) :
    Missed (fun i => ∃ e ∈ l, e.missesCopy o i) s (l.foldl (fun t e => t.retire e o) s) := by
  induction l generalizing s with
  | nil => exact (Missed.ofEq rfl rfl).congr fun i => by simp
  | cons e l ih => exact ((s.retire_missed e o).trans (ih (s.retire e o))).congr fun i => by simp

/-- R79 to R82, R86: what a flush marks missed. -/
theorem Station.flush_missed (s : Station) (q : FrameClass) (hit : Entry → Bool) (o : FrameOutcome) :
    Missed (fun i => ∃ e ∈ s.sched.queue q, hit e = true ∧ e.onLane = false ∧ e.missesCopy o i) s
      (s.flush q hit o) := by
  unfold Station.flush
  dsimp only
  have h : Missed (fun _ => False) s
      (s.setQueue q
        (((s.sched.queue q).filter fun e => !(hit e && !e.onLane)).map fun e =>
          if hit e then e.markPending o else e)) :=
    Missed.ofEq (by cases q <;> rfl) rfl
  exact (h.trans (foldl_retire_missed _ _ _)).congr fun i => by simp [and_assoc]

/-! ### The frame cut -/

/-- R18: the attempt that a closing gate cuts, with its frame: one in CONTENDING or SENDING. -/
def Station.cut (s : Station) : Option (Attempt × Entry) :=
  match s.lane.attempt with
  | some a => if a.phase = .awaitMarks then none else (s.sched.onLaneHead a.queue).map fun e => (a, e)
  | none => none

/-- R72, R80: the frame cut, counted where its key was won, and its outcome. -/
def Attempt.cutFrame (a : Attempt) (e : Entry) : Entry × FrameOutcome :=
  (if a.phase = .contending then { e with onLane := false } else e.counted a.start,
    e.pending.getD .flushed)

/-- R18: a queue without the frame cut. -/
def Station.afterCut (s : Station) (q : FrameClass) : List Entry :=
  match s.cut with
  | some (a, _) => if a.queue = q then s.sched.behindHead q else s.sched.queue q
  | none => s.sched.queue q

/-- R18, R72, R80, R86: everything a cut does to the queues, the records and the periodic table, where the gate is
closed already. -/
theorem Station.cutAttempt_spec (s : Station) (hc : closesGate s.seat.state = true) :
    (∀ q, s.cutAttempt.sched.queue q = s.afterCut q) ∧
      s.cutAttempt.sched.completions =
        s.sched.completions ++
          ((s.cut.map fun x => x.1.cutFrame x.2).toList.filterMap fun x => x.1.record x.2) ∧
      s.cutAttempt.sched.offer = s.sched.offer ∧
      s.cutAttempt.lane.attempt = (s.lane.attempt.filter fun a => a.phase = .awaitMarks) ∧
      Missed (fun i => ∃ x ∈ (s.cut.map fun x => x.1.cutFrame x.2).toList, x.1.missesCopy x.2 i) s
        s.cutAttempt := by
  have idle : ∀ t : Station, t = s → s.cut = none →
      (∀ q, t.sched.queue q = s.afterCut q) ∧
        t.sched.completions =
          s.sched.completions ++
            ((s.cut.map fun x => x.1.cutFrame x.2).toList.filterMap fun x => x.1.record x.2) ∧
        t.sched.offer = s.sched.offer ∧
        Missed (fun i => ∃ x ∈ (s.cut.map fun x => x.1.cutFrame x.2).toList, x.1.missesCopy x.2 i) s t := by
    rintro t rfl h
    refine ⟨fun q => by simp [Station.afterCut, h], by simp [h], rfl, ?_⟩
    exact (Missed.ofEq rfl rfl).congr fun i => by simp [h]
  unfold Station.cutAttempt
  split
  next a ha =>
    have clean : ∀ t : Station, closesGate t.seat.state = true → t.readbackClean = t :=
      Station.readbackClean_closed
    have seat : ∀ f, ((s.clearAttempt).applyFate a.queue f).seat = s.seat :=
      fun f => (Station.applyFate_queueFrame _ _ f).seat
    have body : a.phase ≠ .awaitMarks →
        let t := (s.clearAttempt).applyFate a.queue (s.resultFate a .cut)
        (∀ q, t.sched.queue q = s.afterCut q) ∧
          t.sched.completions =
            s.sched.completions ++
              ((s.cut.map fun x => x.1.cutFrame x.2).toList.filterMap fun x => x.1.record x.2) ∧
          t.sched.offer = s.sched.offer ∧
          t.lane.attempt = (s.lane.attempt.filter fun a => a.phase = .awaitMarks) ∧
          Missed (fun i => ∃ x ∈ (s.cut.map fun x => x.1.cutFrame x.2).toList, x.1.missesCopy x.2 i) s
            t := by
      intro hp t
      have hl : t.lane.attempt = (s.lane.attempt.filter fun a => a.phase = .awaitMarks) := by
        refine (congrArg Lane.attempt (Station.applyFate_queueFrame _ _ _).lane).trans ?_
        rw [ha]
        simp [Station.clearAttempt, hp, Option.filter]
      cases he : s.sched.onLaneHead a.queue with
      | none =>
        have hcut : s.cut = none := by simp [Station.cut, ha, hp, he]
        have ht : t = s.clearAttempt := by
          show (s.clearAttempt).applyFate a.queue (s.resultFate a .cut) = _
          simp [Station.resultFate, he, Station.applyFate]
        refine ⟨fun q => ?_, ?_, ?_, hl, ?_⟩
        · rw [ht]; simp [Station.afterCut, hcut, Station.clearAttempt]
        · rw [ht]; simp [hcut, Station.clearAttempt]
        · rw [ht]; rfl
        · rw [ht]
          have h : Missed (fun _ => False) s s.clearAttempt := Missed.ofEq rfl rfl
          exact h.congr fun i => by simp [hcut]
      | some e =>
        have hcut : s.cut = some (a, e) := by simp [Station.cut, ha, hp, he]
        have ht : t =
            ((s.clearAttempt).setQueue a.queue (s.sched.behindHead a.queue)).retire (a.cutFrame e).1
              (a.cutFrame e).2 := by
          show (s.clearAttempt).applyFate a.queue (s.resultFate a .cut) = _
          simp only [Station.resultFate, he, Option.map_some, Entry.fate, Station.applyFate,
            Attempt.cutFrame, decide_eq_true_eq]
          rfl
        refine ⟨fun q => ?_, ?_, ?_, hl, ?_⟩
        · rw [ht, Station.retire_queue, Station.setQueue_sched]
          unfold Station.afterCut
          rw [hcut]
          dsimp only
          split
          next hq => subst hq; exact Sched.queue_setQueue_same _ _ _
          next hq => exact Sched.queue_setQueue_other _ _ _ _ fun h => hq h.symm
        · rw [ht, Station.retire_completions, Station.setQueue_sched, Sched.setQueue_completions, hcut]
          cases hr : (a.cutFrame e).1.record (a.cutFrame e).2 <;>
            simp [hr, Station.clearAttempt]
        · rw [ht, Station.retire_offer]
          cases a.queue <;> rfl
        · rw [ht]
          have h : Missed (fun _ => False) s ((s.clearAttempt).setQueue a.queue (s.sched.behindHead a.queue)) :=
            Missed.ofEq (by cases a.queue <;> rfl) rfl
          exact (h.trans (Station.retire_missed _ _ _)).congr fun i => by simp [hcut]
    dsimp only
    split
    next hp => exact body (by simp [hp])
    next hp =>
      rw [clean _ (by rw [seat]; exact hc)]
      exact body (by simp [hp])
    next hp =>
      obtain ⟨h1, h2, h3, h4⟩ := idle s rfl (by simp [Station.cut, ha, hp])
      exact ⟨h1, h2, h3, by simp [ha, hp, Option.filter], h4⟩
  next ha =>
    obtain ⟨h1, h2, h3, h4⟩ := idle s rfl (by simp [Station.cut, ha])
    exact ⟨h1, h2, h3, by simp [ha], h4⟩

/-! ### The gate -/

/-- R80, R81: what a closing gate leaves of a queue of card frames. -/
def Station.gateKept (s : Station) (q : FrameClass) : List Entry :=
  ((s.afterCut q).filter Entry.onLane).map fun e => e.markPending .flushed

/-- R81: the frames that a closing gate takes, with their outcomes, in the order of their records. -/
def Station.gateDropped (s : Station) : List (Entry × FrameOutcome) :=
  (s.cut.map fun x => x.1.cutFrame x.2).toList ++
    ((s.sched.express ++ s.sched.bulk).filter fun e => !e.onLane).map fun e => (e, .flushed)

/-- R81: the frame cut is on the lane, so that it is not among the frames flushed. -/
theorem Station.afterCut_offLane (s : Station) (q : FrameClass) :
    (s.afterCut q).filter (fun e => !e.onLane) = (s.sched.queue q).filter fun e => !e.onLane := by
  unfold Station.afterCut
  split
  next a e hc =>
    split
    next hq =>
      subst hq
      unfold Station.cut at hc
      split at hc
      next b hb =>
        split at hc
        · cases hc
        · obtain ⟨x, hx, hxe⟩ := Option.map_eq_some_iff.1 hc
          cases hxe
          unfold Sched.onLaneHead at hx
          unfold Sched.behindHead
          split at hx
          next y l hl =>
            split at hx
            next hy => rw [hl]; simp [hy]
            next => cases hx
          next => cases hx
      next => cases hc
    next => rfl
  next => rfl

/-- R18, R26, R76, R81, R86: everything that a closing gate does to the attempt, the queues, the records and the
periodic table. -/
theorem Station.closeGates_closed (s : Station) (hc : closesGate s.seat.state = true) :
    s.closeGates.lane.attempt = (s.lane.attempt.filter fun a => a.phase = .awaitMarks) ∧
      s.closeGates.sched.timing = [] ∧ s.closeGates.sched.control = [] ∧
      s.closeGates.sched.express = s.gateKept .express ∧ s.closeGates.sched.bulk = s.gateKept .bulk ∧
      s.closeGates.sched.completions =
        s.sched.completions ++ s.gateDropped.filterMap (fun x => x.1.record x.2) ∧
      Missed (fun i => ∃ x ∈ s.gateDropped, x.1.missesCopy x.2 i) s s.closeGates := by
  have hm : markGate s.seat.state = false := by
    revert hc
    cases s.seat.state <;> simp [closesGate, markGate]
  let u : Station := ({ s with lane := { s.lane with marks := Marks.none } }).stopDelimiter
  have hu : s.closeGates = ((u.cutAttempt).flushCards).emptyInternal := by
    unfold Station.closeGates
    simp only [hm, Bool.false_eq_true, if_false]
    exact if_pos hc
  obtain ⟨q1, q2, -, q4, q5⟩ := u.cutAttempt_spec hc
  obtain ⟨e1, e2, e3, -, e5⟩ := (u.cutAttempt).flush_spec .express (fun _ => true) .flushed
  obtain ⟨b1, b2, b3, -, b5⟩ :=
    ((u.cutAttempt).flush .express (fun _ => true) .flushed).flush_spec .bulk (fun _ => true) .flushed
  have em := (u.cutAttempt).flush_missed .express (fun _ => true) .flushed
  have bm := ((u.cutAttempt).flush .express (fun _ => true) .flushed).flush_missed .bulk
    (fun _ => true) .flushed
  have kept : ∀ l : List Entry,
      ((l.filter fun e => !(true && !e.onLane)).map fun e => if true then e.markPending .flushed else e) =
        (l.filter Entry.onLane).map fun e => e.markPending .flushed := by
    intro l
    simp
  have bq : ((u.cutAttempt).flush .express (fun _ => true) .flushed).sched.queue .bulk = s.afterCut .bulk :=
    (e3 .bulk (by decide)).trans (q1 .bulk)
  rw [hu]
  refine ⟨?_, rfl, rfl, ?_, ?_, ?_, ?_⟩
  · exact (congrArg Lane.attempt (b1.lane.trans e1.lane)).trans q4
  · refine (b3 .express (by decide)).trans (e2.trans ?_)
    rw [q1]
    exact kept _
  · refine b2.trans ?_
    rw [bq]
    exact kept _
  · refine b5.trans ?_
    rw [e5, q2, bq, q1]
    simp only [Bool.true_and, List.append_assoc]
    refine congrArg (s.sched.completions ++ ·) ?_
    rw [show u.afterCut .express = s.afterCut .express from rfl, Station.afterCut_offLane,
      Station.afterCut_offLane]
    simp only [Station.gateDropped, List.filterMap_append, List.filterMap_map, List.filter_append]
    rfl
  · have h0 : Missed (fun _ => False) s u := Missed.ofEq rfl rfl
    have h1 : Missed (fun _ => False) ((u.cutAttempt).flushCards) (((u.cutAttempt).flushCards).emptyInternal) :=
      Missed.ofEq rfl rfl
    refine (((h0.trans q5).trans (em.trans bm)).trans h1).congr fun i => ?_
    have off : ∀ q (p : Entry → Prop), (∃ e ∈ s.afterCut q, e.onLane = false ∧ p e) ↔
        ∃ e ∈ s.sched.queue q, e.onLane = false ∧ p e := by
      intro q p
      have := s.afterCut_offLane q
      constructor
      · rintro ⟨e, he, ho, hp⟩
        have : e ∈ (s.afterCut q).filter fun e => !e.onLane := List.mem_filter.2 ⟨he, by simp [ho]⟩
        rw [s.afterCut_offLane] at this
        exact ⟨e, (List.mem_filter.1 this).1, ho, hp⟩
      · rintro ⟨e, he, ho, hp⟩
        have : e ∈ (s.sched.queue q).filter fun e => !e.onLane := List.mem_filter.2 ⟨he, by simp [ho]⟩
        rw [← s.afterCut_offLane] at this
        exact ⟨e, (List.mem_filter.1 this).1, ho, hp⟩
    rw [q1, bq]
    simp only [true_and]
    rw [show u.afterCut .express = s.afterCut .express from rfl, off, off]
    simp only [Station.gateDropped, List.mem_append, List.mem_map, List.mem_filter]
    rw [show u.cut = s.cut from rfl]
    constructor
    · rintro ⟨x, hx | ⟨e, ⟨he | he, ho⟩, rfl⟩, hm⟩
      · exact .inl (.inl (.inr ⟨x, hx, hm⟩))
      · exact .inl (.inr (.inl ⟨e, he, by simpa using ho, hm⟩))
      · exact .inl (.inr (.inr ⟨e, he, by simpa using ho, hm⟩))
    · rintro (((h | ⟨x, hx, hm⟩) | (⟨e, he, ho, hm⟩ | ⟨e, he, ho, hm⟩)) | h)
      · exact h.elim
      · exact ⟨x, .inl hx, hm⟩
      · exact ⟨_, .inr ⟨e, ⟨.inl he, by simp [ho]⟩, rfl⟩, hm⟩
      · exact ⟨_, .inr ⟨e, ⟨.inr he, by simp [ho]⟩, rfl⟩, hm⟩
      · exact h.elim

/-- The timers of a state other than ACTIVE move no queue, no attempt and no cause. -/
theorem Station.seatTimers_inactive (s : Station) (h : s.seat.state ≠ .active) :
    s.seatTimers.sched = s.sched ∧ s.seatTimers.lane = s.lane ∧
      s.seatTimers.port.missedCause = s.port.missedCause := by
  unfold Station.seatTimers
  dsimp only
  split <;> simp_all

/-- R18, R26, R76, R81, R86: what entering GONE, UNSEATED or CLASHED does to the attempt, the card frames, the records
and the periodic table. -/
theorem Station.enterSeat_closed (s : Station) (new : SeatState) (hc : closesGate new = true) :
    (s.enterSeat new).lane.attempt = (s.lane.attempt.filter fun a => a.phase = .awaitMarks) ∧
      (s.enterSeat new).sched.express = s.gateKept .express ∧
      (s.enterSeat new).sched.bulk = s.gateKept .bulk ∧
      (s.enterSeat new).sched.completions =
        s.sched.completions ++ s.gateDropped.filterMap (fun x => x.1.record x.2) ∧
      Missed (fun i => ∃ x ∈ s.gateDropped, x.1.missesCopy x.2 i) s (s.enterSeat new) := by
  obtain ⟨a, -, -, e, b, c, m⟩ := (s.announceSeat new).closeGates_closed hc
  have hs : ((s.announceSeat new).closeGates).seat.state ≠ .active := by
    rw [Station.closeGates_seat]
    show new ≠ _
    rintro rfl
    cases hc
  obtain ⟨ts, tl, tm⟩ := Station.seatTimers_inactive _ hs
  have f := Station.reviews_frame ((s.announceSeat new).closeGates).seatTimers 1
  have h0 : Missed (fun _ => False) s (s.announceSeat new) := Missed.ofEq rfl rfl
  have h1 : Missed (fun _ => False) (s.announceSeat new).closeGates (s.enterSeat new) :=
    Missed.ofEq (f.periodic.trans (congrArg Sched.periodic ts))
      ((congrArg Port.missedCause f.port).trans tm)
  refine ⟨?_, ?_, ?_, ?_, ((h0.trans m).trans h1).congr fun i => ?_⟩
  · exact (congrArg Lane.attempt (f.lane.trans tl)).trans a
  · exact f.express.trans ((congrArg Sched.express ts).trans e)
  · exact f.bulk.trans ((congrArg Sched.bulk ts).trans b)
  · exact f.completions.trans ((congrArg Sched.completions ts).trans c)
  · rw [false_or, or_false]
    rfl

end Sys2Proof.Machine
end

