-- ==== Sys2Proof/Laws/Lane.lean ====
section
/-! SUPPORT. What the end fields, the bytes of an own frame and the candidate that follows its record can do, the
frame check bit by bit, and the numbers that the argument bytes of a request carry. -/

namespace Sys2Proof.Machine

/-! ### End fields (R2, R15) -/

@[simp] theorem Lane.heardEnd_line (l : Lane) (m : Marks) : (l.heardEnd m).line = .endField := rfl
@[simp] theorem Lane.heardEnd_marks (l : Lane) (m : Marks) : (l.heardEnd m).marks = m := rfl
@[simp] theorem Lane.heardEnd_endLeft (l : Lane) (m : Marks) :
    (l.heardEnd m).endLeft = Config.endField := rfl
@[simp] theorem Lane.heardEnd_attempt (l : Lane) (m : Marks) : (l.heardEnd m).attempt = l.attempt := rfl

@[simp] theorem Lane.heardEnd_delimiter (l : Lane) (m : Marks) : (l.heardEnd m).delimiter = l.delimiter := rfl

/-- R18, R203: with no delimiter and no mark every cell of an end field is recessive. -/
theorem Lane.endCells_silent (l : Lane) (hd : l.delimiter = false) (hm : l.marks = Marks.none) :
    l.endCells = List.replicate 10 true := by simp [Lane.endCells, hd, hm, endFieldCells, Marks.none]

/-- R15, R203: the delimiter is the first cell of the end field, dominant while it is driven. -/
theorem Lane.endCells_head (l : Lane) : l.endCells.head? = some (!l.delimiter) := rfl

/-- Outside an end field a local period leaves the line and the marks. -/
@[simp] theorem Lane.endPeriod_idle (l : Lane) (h : l.endLeft = 0) : l.endPeriod = l := by
  simp [Lane.endPeriod, h]

/-- The last local period of an end field. -/
theorem Lane.endPeriod_last (l : Lane) (h : l.endLeft = 1) :
    l.endPeriod =
      { l with
        endLeft := 0, marks := Marks.none, delimiter := false
        line := if l.line = .endField then .gap else l.line } := by simp [Lane.endPeriod, h]

/-- A local period of an end field that is not its last. -/
theorem Lane.endPeriod_more (l : Lane) (h : 2 ≤ l.endLeft) :
    l.endPeriod = { l with endLeft := l.endLeft - 1 } := by
  obtain ⟨n, hn⟩ := Nat.exists_eq_add_of_le h
  have : l.endLeft = n + 2 := by omega
  simp [Lane.endPeriod, this]

/-- Everything that a local period of an end field can change. -/
theorem Lane.endPeriod_frame (l : Lane) :
    l.endPeriod =
      { l with
        endLeft := l.endPeriod.endLeft, marks := l.endPeriod.marks, delimiter := l.endPeriod.delimiter
        line := l.endPeriod.line } := by
  unfold Lane.endPeriod
  split <;> rfl

/-- Without an attempt in SENDING a local period sends nothing. -/
theorem Lane.sendPeriod_idle (l : Lane) (gate : Bool)
    (h : ∀ a, l.attempt = some a → a.phase ≠ .sending) : l.sendPeriod gate = l := by
  unfold Lane.sendPeriod
  split
  · rename_i a ha
    simp [h a ha]
  · rfl

/-- A local period of an attempt in SENDING: its count falls, and at its end the end field begins. -/
theorem Lane.sendPeriod_sending (l : Lane) (gate : Bool) (a : Attempt) (ha : l.attempt = some a)
    (h : a.phase = .sending) :
    l.sendPeriod gate =
      if a.bodyLeft ≤ 1 then l.endFieldBegins a gate
      else { l with attempt := some { a with bodyLeft := a.bodyLeft - 1 } } := by
  simp [Lane.sendPeriod, ha, h]

/-! ### The frame check (R10) -/

/-- R10: one bit enters the check register. -/
def crcBit (r : Word16) (bit : Bool) : Word16 := if r.msb != bit then (r <<< 1) ^^^ 0x1021 else r <<< 1

theorem crcBit_xor (r w : Word16) :
    (if (r ^^^ w).msb then ((r ^^^ w) <<< 1) ^^^ 0x1021#16 else (r ^^^ w) <<< 1) =
      crcBit r w.msb ^^^ (w <<< 1) := by
  unfold crcBit
  rw [BitVec.msb_xor]
  cases r.msb <;> cases w.msb <;>
    simp only [BitVec.shiftLeft_xor_distrib, bne_self_eq_false, Bool.bne_false, Bool.bne_true, Bool.not_false,
      Bool.false_eq_true, if_true, if_false, BitVec.xor_assoc]
  all_goals rw [BitVec.xor_comm (w <<< 1)]; rfl

/-- `n` shifts of the register with bits laid over it: the bits enter one by one, the highest first. -/
theorem crcShift_xor (n : Nat) : ∀ r w : Word16,
    crcShift n (r ^^^ w) = ((List.range n).map fun i => (w <<< i).msb).foldl crcBit r ^^^ (w <<< n) := by
  induction n with
  | zero => intro r w; simp [crcShift]
  | succ n ih =>
    intro r w
    rw [crcShift, crcBit_xor, ih]
    simp [List.range_succ_eq_map, ← BitVec.shiftLeft_add, Nat.add_comm, Function.comp_def]
    rfl

/-- R10: a byte enters the check register bit by bit, the most significant bit first. -/
theorem crcByte_bits (c : Word16) (b : Byte) :
    crcByte c b = (([7, 6, 5, 4, 3, 2, 1, 0] : List Nat).map b.getLsbD).foldl crcBit c := by
  have hw : ((b.setWidth 16 : Word16) <<< 8) <<< 8 = 0#16 := by
    ext i hi; simp
  have hb : (List.range 8).map (fun i => (((b.setWidth 16 : Word16) <<< 8) <<< i).msb) =
      ([7, 6, 5, 4, 3, 2, 1, 0] : List Nat).map b.getLsbD := by
    simp [List.range, List.range.loop, BitVec.msb_eq_getLsbD_last]
  rw [crcByte, crcShift_xor, hw, hb]
  simp

/-- R10: the check of bytes, all their bits in the order they are sent. -/
theorem crc_bits (l : List Byte) :
    crc l =
      (l.flatMap fun b => ([7, 6, 5, 4, 3, 2, 1, 0] : List Nat).map b.getLsbD).foldl crcBit 0xFFFF := by
  rw [crc, List.foldl_flatMap]
  congr 1
  funext c b
  exact crcByte_bits c b

/-! ### Numbers of two and four bytes -/

theorem bytesOf_two (n : Nat) : bytesOf 2 n = [BitVec.ofNat 8 (n / 256), BitVec.ofNat 8 n] := by
  simp [bytesOf]

theorem bytesOf_four (n : Nat) :
    bytesOf 4 n =
      [BitVec.ofNat 8 (n / 65536 / 256), BitVec.ofNat 8 (n / 65536), BitVec.ofNat 8 (n / 256),
        BitVec.ofNat 8 n] := by
  simp [bytesOf, Nat.div_div_eq_div_mul]

/-! ### The candidate that follows its record (R136) -/

/-- The set is as it was and nothing happens, or the entry of `p` is renewed and the selector reviews. -/
theorem Station.candidateFollows_cases (s : Station) (p : Slot) :
    ((s.renewCandidate p).sel.cands = s.sel.cands ∧ s.candidateFollows p = s) ∨
      (s.renewCandidate p).sel.cands ≠ s.sel.cands ∧
        s.candidateFollows p = (s.renewCandidate p).reviews 1 := by
  unfold Station.candidateFollows
  by_cases h : (s.renewCandidate p).sel.cands = s.sel.cands <;> simp [h]

/-! ### Numbers in argument bytes (R206) -/

@[simp] theorem word16Of_bytes16 (w : Word16) :
    word16Of (w.extractLsb' 8 8) (w.extractLsb' 0 8) = w := by
  unfold word16Of
  ext i hi
  simp only [BitVec.getElem_append, BitVec.getElem_extractLsb']
  split
  · simp [BitVec.getLsbD_eq_getElem hi]
  · rw [show 8 + (i - 8) = i by omega]
    simp [BitVec.getLsbD_eq_getElem hi]

@[simp] theorem word32Of_bytes32 (w : Word32) :
    word32Of (w.extractLsb' 24 8) (w.extractLsb' 16 8) (w.extractLsb' 8 8) (w.extractLsb' 0 8) = w := by
  unfold word32Of
  ext i hi
  simp only [BitVec.getElem_append, BitVec.getElem_extractLsb']
  repeat' split
  · simp [BitVec.getLsbD_eq_getElem hi]
  · rw [show 8 + (i - 8) = i by omega]
    simp [BitVec.getLsbD_eq_getElem hi]
  · rw [show 16 + (i - 8 - 8) = i by omega]
    simp [BitVec.getLsbD_eq_getElem hi]
  · rw [show 24 + (i - 8 - 8 - 8) = i by omega]
    simp [BitVec.getLsbD_eq_getElem hi]

/-- A request that the bytes spell is a known one. -/
theorem requestKnown_of_spelled (code : Byte) (args : List Byte) (i : Instr)
    (h : spelledRequest code args = some i) :
    requestKnown code args = true ∧ decodeRequest code args = i := by
  simp [requestKnown, decodeRequest, h]

/-- Bytes that spell no request are refused as they are. -/
theorem decodeRequest_unknown (code : Byte) (args : List Byte) (h : requestKnown code args = false) :
    decodeRequest code args = .unknownRequest code args := by
  cases hs : spelledRequest code args with
  | none => simp [decodeRequest, hs]
  | some i => simp [requestKnown, hs] at h

end Sys2Proof.Machine
end

