-- ==== Sys2Proof/WellFormed.lean ====
section
/-! DEFINITION. Which commands the outside can bring: the bounds that the operands' types do not carry. -/

namespace Sys2Proof

/-- A command is well formed when
* a received frame has a payload of at most 256 bytes (a longer one is abandoned, R13);
* a request has at most 300 argument bytes (R188), which for SEND and SET PERIODIC, with five bytes
  before the payload (R206), leaves at most 295 of payload;
* UNKNOWN_REQUEST carries bytes that spell no known request (R206). -/
def Instr.wellFormed : Instr → Bool
  | .frameHandover f _ => f.payload.length ≤ 256
  | .send _ _ _ _ payload => payload.length ≤ 295
  | .setPeriodic _ _ _ _ _ payload => payload.length ≤ 295
  | .unknownRequest code args => args.length ≤ 300 && !requestKnown code args
  | .powerReset _ | .pinReset | .restartReset | .resetHoldEnd | .seatLost | .seatPresent | .latchOpens
  | .latchCloses | .extPpsEdge _ | .localPeriod _ | .subframeStrobe | .frameStrobe | .ppsStrobe
  | .strobePulseEnd _ | .laneOpening | .startMark | .keyComplete _ | .readbackMismatch
  | .frameAbandoned _ | .attemptResult _ _ _ | .stuckBegins | .stuckEnds | .stuckClearExpiry
  | .listenComplete | .leavePlaced | .drain40ms | .drain50ms | .silentTimeout _ | .absentTimeout _
  | .leftExpiry _ | .flawTimeAged _ | .barEnds _ | .silenceTimerExpiry | .backoffEnds _
  | .candidateDeadline _ | .claimExpiry | .beaconIntervalExpiry | .extLossExpiry | .announcementStale
  | .holdoverExpiry | .unlockedExpiry | .refreshExpiry | .staggerExpiry | .placementRetryExpiry
  | .watchdogExpiry | .transactionDiscarded | .configure _ | .take _ | .reap | .viewStation
  | .viewRoster _ | .viewQueues | .viewReference | .viewAlarms | .readHold | .readNext | .readPrev
  | .readAdvance | .readPeek _ | .seekFirst | .seekLast | .raise _ _ _ | .clear _ _ | .time
  | .externalTime _ | .release | .resetTraffic | .resetTiming | .resetView | .restart
  | .pwrGoodFalls => true

end Sys2Proof
end

