-- ==== Sys2Proof/Tests/Slice0.lean ====
section
/-! SUPPORT. Tests: what the well-formedness check refuses, small checks of single steps and of the worked
numbers of the spec, and for every statement of Obligations.lean with hypotheses a state and operands
that meet them, clause by clause. -/

open Sys2Proof Sys2Proof.Machine Sys2Proof.Safety Sys2Proof.Slice0

namespace Sys2Proof.Tests

-- One theorem after the other: the evaluations wait for the kernel, a thread each.
set_option Elab.async false

/-! ### Small states -/

/-- After reset, in a seat state. -/
def inSeat (state : SeatState) : State := { State.reset with seat := { State.reset.seat with state := state } }

/-- In ACTIVE. -/
def active : State := inSeat .active

/-- In LEAVING, the drain timer started at local time 0. -/
def leaving (now : Nat) : State :=
  { State.reset with
    localTime := now
    seat := { State.reset.seat with state := .leaving, drain := some 0, leaveReason := some .latch } }

/-- The next state of a command. -/
def after (c : Instr) (s : State) : State :=
  match exec c s with
  | .next t => t
  | .fault _ | .refused _ => s

/-- A card frame to ALL. -/
def frame (tag : Word16) : Entry := Entry.placed .data .all 1 [1, 2] (some tag) none

/-- In ACTIVE, an attempt in this phase of the head of BULK. -/
def sending (phase : Phase) (line : LineState) (e : Entry) : State :=
  { active with
    lane :=
      { active.lane with
        line := line
        attempt :=
          some
            { queue := .bulk, key := 0xF0, group := .data, seq := none, start := none, phase := phase
              readbackFault := false, sent := [], bodyLeft := 3, windowEnded := false } }
    sched := { active.sched with bulk := [{ e with onLane := true }] } }

/-- In this seat state, the body of a frame from slot 5 in a key of this class. -/
def hearing (state : SeatState) (q : FrameClass) : State :=
  { inSeat state with
    lane :=
      { State.reset.lane with
        line := .body, rxKey := some (keyByte q 3 5), rxStamp := some ⟨⟨1, 500⟩, false⟩ } }

/-- The record of slot 5 replaced. -/
def withPeer (r : Peer) (s : State) : State := { s with toStation := s.toStation.setPeer 5 r }

/-- A PRESENT record. -/
def present : Peer := { Peer.reset with state := .present, lastHeard := some 0 }

/-- A frame with its right check. -/
def rxFrame (q : FrameClass) (kind dest seq : Byte) (payload : List Byte) : RxFrame :=
  { kind := kind, dest := dest, seq := seq, payload := payload
    check := crc (coveredBytes (keyByte q 3 5) kind dest seq payload), aborted := false }

/-! ### Well-formed commands -/

theorem test_wellFormed_refuses_long_frame :
    (Instr.frameHandover ⟨0x60, 16, 0, List.replicate 257 0, 0, false⟩ false).wellFormed = false ∧
      (Instr.frameHandover ⟨0x60, 16, 0, List.replicate 256 0, 0, false⟩ false).wellFormed = true := by
  decide +kernel

theorem test_wellFormed_refuses_long_send :
    (Instr.send 0 2 0 16 (List.replicate 296 0)).wellFormed = false ∧
      (Instr.send 0 2 0 16 (List.replicate 295 0)).wellFormed = true := by decide +kernel

theorem test_wellFormed_refuses_long_periodic :
    (Instr.setPeriodic 0 0 0 16 0 (List.replicate 296 0)).wellFormed = false ∧
      (Instr.setPeriodic 0 0 0 16 0 (List.replicate 295 0)).wellFormed = true := by decide +kernel

theorem test_wellFormed_refuses_known_request :
    (Instr.unknownRequest 0x05 [0]).wellFormed = false ∧
      (Instr.unknownRequest 0x05 [5]).wellFormed = true ∧
      (Instr.unknownRequest 0x00 []).wellFormed = true := by decide

theorem test_wellFormed_refuses_long_unknown_request :
    (Instr.unknownRequest 0x44 (List.replicate 301 0)).wellFormed = false ∧
      (Instr.unknownRequest 0x44 (List.replicate 300 0)).wellFormed = true := by decide +kernel

/-! ### Worked numbers of the spec -/

/-- R10: the check of the nine bytes 0x31 to 0x39. -/
theorem test_crc_of_the_nine_bytes :
    crc [0x31, 0x32, 0x33, 0x34, 0x35, 0x36, 0x37, 0x38, 0x39] = 0x29B1 ∧
      checkWord [0x31, 0x32, 0x33, 0x34, 0x35, 0x36, 0x37, 0x38, 0x39] = 0x29B1 := by decide +kernel

/-- 01, worked contention: keys 244, 151, 178; 151 wins. -/
theorem test_worked_contention :
    keyByte .bulk 3 4 = 244 ∧ keyByte .express 1 7 = 151 ∧ keyByte .express 3 2 = 178 ∧
      keyByte .control 3 11 = 123 ∧ contend 244 151 = some .lost ∧ contend 178 151 = some .lost ∧
      contend 151 151 = none ∧ contend 151 178 = some .flaw := by decide +kernel

/-- 07, worked advance across a second, with its frame count. -/
theorem test_worked_advance :
    increment 1721 = 42949746876 ∧
      (let t := { TimeBase.reset with sec := 41, ns := 999999995, frac := 3000000000, a := 1721 }.period
       (t.sec, t.ns, t.frac) = (42, 5, 3000073916) ∧ t.owedSub.length = 1 ∧ t.owedPps.length = 1 ∧
         t.owedFrame.map Owed.count = [4200]) := by decide +kernel

/-- 07, worked steps: backward, then the first boundary. -/
theorem test_worked_step :
    (let t := ({ TimeBase.reset with sec := 100, ns := 3000400 } : TimeBase).step (-5000000)
     (t.sec, t.ns, t.stepCount, t.lastStep) = (99, 998000400, 1, some (-5000000))) := by decide +kernel

/-- 09, worked arithmetic: D = 52, then e = -5, then a step deferred in ACQUIRE. -/
theorem test_worked_slew :
    pathDelay 2 9 6 = 2 ∧ signedDiff 500000002 499999950 = 52 ∧
      slew 1500 52 1000000 16 = (1513, 1721) ∧ slew 1513 (-5) 1000000 16 = (1512, 1492) ∧
      clampOf .locked 3000000 = 1000 ∧ clampOf .acquire 3000000 = 1000000 := by decide +kernel

/-- 05, worked window: busy256 = 209, L = 2, tier limit 1, B = T1. -/
theorem test_worked_window :
    (let h := { Share.reset with t0 := 2000, t1 := 6000, t2 := 12000, t3 := 20000 }.windowStart 40900 50000
     (h.lastBusy, h.level, h.tierLimit, h.budget) = (some 209, 2, 1, 6000)) := by decide +kernel

/-- R203: the cells of a key and of an end field, and how marks are read. -/
theorem test_cells :
    keyCells 0x97 = [false, true, true, false, false, true, false, true, true, true] ∧
      marksRead (endFieldCells true ⟨false, true, false⟩) = ⟨false, true, false⟩ ∧
      keyViolation (dataCells 0xFF) = false ∧ keyViolation idleCells = true ∧
      dataViolation abortCells = false := by decide +kernel

/-- R206: the reply to a refused request, and to RAISE with list seq 7. -/
theorem test_reply_bytes :
    replyBytes .notNow ⟨false, true, false, false, false⟩ .empty = [0xA5, 1, 2, 0, 0] ∧
      replyBytes .ok ⟨true, false, false, false, true⟩ (.listSeq 7) = [0xA5, 0, 0x11, 0, 1, 7] := by
  decide +kernel

/-- R204, R205: a ROLLCALL and a JOIN as received say what was sent. -/
theorem test_frames_read_back :
    rollcallOf (rollcallPayload 9 4 true 3 200) = some (.rollcall 9 4 true 3 200) ∧
      joinOf 1 (joinPayload 3 9 15 true .pin) = some (.join 3 9 15 true .pin true) ∧
      leaveOf 3 [3] = some (.leave 3 true .release) ∧
      beaconOf 2 (beaconPayload 2 (some ⟨7, 999999999⟩)) = some (.beacon 2 (some ⟨7, 999999999⟩) false) ∧
      alarmOf (alarmPayload 5 [⟨0x1000, .major, some 3, 77⟩]) =
        some (.alarm 5 [⟨0x1000, .major, some 3, 77⟩]) := by decide +kernel

/-! ### Single steps -/

/-- From reset: CONFIGURE with a card seated and latched ends CONFIG in LISTEN. -/
theorem test_configure_listens :
    let s := { State.reset with pins := { Pins.reset with seatPresent := true, latchClosed := true } }
    let t := after (.configure ⟨3, true, false, true, 12500000, 6, 600, 100, 50, 300, 0, 200, 10, 0, 99⟩) s
    t.seat.state = .listen ∧ t.time.offset = 2500000 ∧ t.share.t1 = 100 ∧ t.share.t3 = 300 ∧
      t.port.txRoom = 1 ∧ t.port.reapLevel = 48 ∧ t.port.seatCause = true ∧ t.outs.attn = true := by
  decide +kernel

/-- R30, R31: LISTEN completes with a JOIN in CONTROL. -/
theorem test_listen_joins :
    let s := { inSeat .listen with seat := { (inSeat .listen).seat with listenCount := 30000000 } }
    let t := after .listenComplete s
    t.seat.state = .joining ∧ t.seat.generation = 1 ∧
      t.sched.control.map Entry.kind = [.join] := by decide +kernel

/-- R16: a broadcast with no FLAW read is delivered, and its record written. -/
theorem test_broadcast_delivered :
    let t := after (.attemptResult false false false) (sending .awaitMarks .endField (frame 9))
    t.sched.bulk = [] ∧ t.sched.completions = [⟨9, .delivered, 1, none⟩] ∧ t.lane.line = .gap := by
  decide +kernel

/-- R109: a broadcast in a BULK key is queued and marked TAKEN. -/
theorem test_broadcast_received :
    let t := after (.frameHandover (rxFrame .bulk 0x61 16 7 [1, 2]) false)
      (withPeer present (hearing .active .bulk))
    t.rx.bulk.map RxEntry.payload = [[1, 2]] ∧ t.lane.marks = ⟨false, true, false⟩ ∧
      (t.peer 5).lastSeq = some 7 ∧ t.outs.rxReady = true := by decide +kernel

/-- R44: an own key heard. -/
theorem test_own_key_clashes :
    let t := after (.keyComplete 0) { active with lane := { active.lane with line := .key } }
    t.seat.state = .clashed ∧ t.alarm.own.map AlarmEntry.code = [slotClash] := by decide +kernel

/-- R113, R112: five TAKE BULK-in bring a full queue to half, the overrun flag clears. -/
theorem test_overrun_clears :
    let e : RxEntry := ⟨⟨5, true, .bulk, 0, 1, 0, ⟨0, 0⟩, false⟩, []⟩
    let s := { active with
      rx := { express := List.replicate 8 e, bulk := List.replicate 17 e, overrun := true }
      alarm := { active.alarm with own := [⟨queueOverrun, .minor, none, 0⟩] } }
    let t := after (.take 1) s
    t.rx.bulk.length = 16 ∧ t.rx.overrun = false ∧ t.alarm.own = [] := by decide +kernel

/-- R171, R177: a RAISE stands in the own list and in the view, and makes the relay follow. -/
theorem test_raise_drives_relay :
    let s := { active with alarm := { active.alarm with relayCapable := true } }
    let t := after (.raise 0x1000 0 none) s
    t.alarm.own = [⟨0x1000, .critical, none, 0⟩] ∧ t.alarm.view.length = 1 ∧
      t.outs.critRelay = true ∧ t.outs.majRelay = true ∧
      t.sched.control.map Entry.kind = [.alarm] := by decide +kernel

/-! ### Hypotheses met: the machine, resets, seat states -/

/-- Held in reset. -/
def held : State := { State.reset with hold := true }

theorem test_hyp_StepRunsTheFrontCommand : State.reset.pending = [] := rfl

theorem test_hyp_ResetCausesHoldThePart :
    held.hold = true ∧ isReset .time = false ∧ isPinLevel .time = false := by decide

theorem test_hyp_HoldEndGivesTheResetValues :
    (held.hold = true ∧ held.pins.pwrGood = true) ∧
      (let s := { held with pins := { held.pins with pwrGood := false } }
       s.hold = true ∧ s.pins.pwrGood = false) ∧
      (let s := { State.reset with port := { Port.reset with restartPending := true } }
       s.port.restartPending = true ∧ s.hold = false) ∧
      (let s := { held with port := { Port.reset with restartPending := true } }
       s.port.restartPending = true ∧ s.hold = true) ∧
      State.reset.port.restartPending = false := by decide

theorem test_hyp_SeatLostAndDrainEndCloseTheGate :
    (active.hold = false ∧ active.seat.state ≠ .config ∧ active.seat.state ≠ .unseated ∧
        active.seat.state ≠ .clashed) ∧
      (State.reset.seat.state = .config ∧ (inSeat .unseated).seat.state = .unseated ∧
        (inSeat .clashed).seat.state = .clashed) ∧
      ((leaving 5000000).hold = false ∧ (leaving 5000000).seat.state = .leaving ∧
        (leaving 5000000).seat.drain = some 0 ∧ 0 + 5000000 ≤ (leaving 5000000).localTime) := by decide

/-- The line in KEY, no attempt. -/
def inKey (state : SeatState) : State :=
  { inSeat state with lane := { State.reset.lane with line := .key } }

theorem test_hyp_KeysHeardMoveTheLineAndOwnOnesClash :
    (keySlot 0xF5 ≠ (inKey .active).seat.slot ∧ (inKey .active).lane.attempt = none) ∧
      ((inKey .listen).hold = false ∧ (inKey .listen).lane.line = .key ∧
        (inKey .listen).lane.attempt = none ∧ keySlot 0xF0 = (inKey .listen).seat.slot ∧
        (inKey .listen).seat.state = .listen ∧ (inKey .leaving).seat.state = .leaving) ∧
      (keySlot 0x00 = (inKey .config).seat.slot ∧ (inKey .config).seat.state = .config) := by decide

/-- Seat and latch levels in a seat state. -/
def pinsIn (state : SeatState) (seat latch : Bool) : State :=
  { inSeat state with pins := { Pins.reset with seatPresent := seat, latchClosed := latch } }

theorem test_hyp_CompletingThePairBeginsListening :
    ((pinsIn .waitSeat false true).pins.latchClosed = true ∧
        (pinsIn .waitSeat false true).seat.state = .waitSeat ∧
        (pinsIn .unseated false true).seat.state = .unseated) ∧
      ((pinsIn .gone true false).pins.seatPresent = true ∧ (pinsIn .gone true false).seat.state = .gone ∧
        (pinsIn .leaving true false).seat.state = .leaving) ∧
      (pinsIn .waitSeat false false).pins.latchClosed = false ∧
      ((pinsIn .active false true).seat.state ≠ .waitSeat ∧
        (pinsIn .active false true).seat.state ≠ .unseated) ∧
      ((pinsIn .waitSeat false false).pins.seatPresent = false ∧
        (pinsIn .listen true false).seat.state = .listen) := by decide

theorem test_hyp_LatchOpeningAndReleaseBeginLeaving :
    ((inSeat .listen).hold = false ∧ (inSeat .listen).seat.state = .listen ∧
        active.seat.state = .active ∧ (inSeat .joining).seat.state = .joining ∧
        ((inSeat .gone).seat.state ≠ .listen ∧ (inSeat .gone).seat.state ≠ .active ∧
          (inSeat .gone).seat.state ≠ .joining)) ∧
      (Serving active ∧ active.seat.state = .active) ∧
      (Serving (inSeat .joining) ∧ (inSeat .joining).seat.state ≠ .active) := by decide

theorem test_hyp_ListenCompleteJoins :
    (let s := { inSeat .listen with seat := { (inSeat .listen).seat with listenCount := 30000000 } }
     s.hold = false ∧ s.seat.state = .listen ∧ 30000000 ≤ s.seat.listenCount) ∧
      (let s := { inSeat .listen with seat := { (inSeat .listen).seat with listenCount := 29999999 } }
       s.seat.listenCount < 30000000) := by decide

theorem test_hyp_LeaveIsPlacedWhenDrainedOrAt40ms :
    ((leaving 0).hold = false ∧ (leaving 0).seat.leavePlaced = false ∧
        (leaving 0).seat.drain = some 0 ∧ (leaving 0).sched.timing = [] ∧
        (leaving 0).sched.control = [] ∧ (leaving 0).sched.express = [] ∧
        (leaving 0).sched.bulk = [] ∧ (leaving 0).lane.attempt = none) ∧
      0 + 4000000 ≤ (leaving 4000000).localTime ∧
      (leaving 3999999).localTime < 0 + 4000000 := by decide

/-! ### Hypotheses met: time, strobes, the window -/

/-- One nanosecond-field step before a frame boundary, with the rate at its lower limit. -/
def beforeBoundary : State :=
  { State.reset with time := { TimeBase.reset with sec := 1, ns := 9999999, a := -100000 } }

theorem test_hyp_LocalPeriodAdvancesTime :
    beforeBoundary.hold = false ∧ -100000 ≤ beforeBoundary.time.a ∧ beforeBoundary.time.a ≤ 100000 := by
  decide

theorem test_hyp_CrossedBoundariesOweStrobes :
    TimeInRange beforeBoundary.toStation ∧ -100000 ≤ beforeBoundary.time.a ∧
      beforeBoundary.time.a ≤ 100000 ∧ beforeBoundary.time.passOver = none ∧
      (let t := after (.localPeriod .recessive) beforeBoundary
       t.time.owedFrame.length = 1 ∧ t.time.owedSub.length = 1 ∧ t.time.owedPps = []) := by
  decide +kernel

theorem test_hyp_CrossedBoundariesOweStrobes_crosses :
    CrossedAt beforeBoundary.time.total 10 beforeBoundary.time.offset 10000000 1010000000 ∧
      CrossedAt beforeBoundary.time.total 10 beforeBoundary.time.offset 1000000 1010000000 ∧
      (1010000000 + Config.timeRange - beforeBoundary.time.offset) % Config.timeRange / 10000000 =
        (100 + 1) % 429496729600 :=
  ⟨⟨by decide +kernel, by decide +kernel, by unfold OnGrid; decide +kernel⟩,
    ⟨by decide +kernel, by decide +kernel, by unfold OnGrid; decide +kernel⟩, by decide +kernel⟩

/-- R121: the last nanosecond of the range crosses a whole second at 0; 2 ns after a boundary nothing is crossed. -/
theorem test_crossed_boundaries_at_the_edges :
    (let s : State := { beforeBoundary with
      time := { beforeBoundary.time with sec := 4294967295, ns := 999999999, a := 0 } }
     (after (.localPeriod .recessive) s).time.owedPps = [⟨⟨0, 0⟩, 0, false⟩]) ∧
      (let s : State := { beforeBoundary with time := { beforeBoundary.time with ns := 10000002 } }
       (after (.localPeriod .recessive) s).time.owedSub = []) := by decide +kernel

/-- R121, R123, R124: a boundary whose count does not follow the one passed over owes no frame strobe; one
that does has count 101 and takes the mark. -/
theorem test_crossed_boundary_passed_over :
    let s (last : Nat) : State := { beforeBoundary with
      time := { beforeBoundary.time with passOver := some last, resyncFrame := true, resyncSub := true } }
    (after (.localPeriod .recessive) (s 105)).time.owedFrame = [] ∧
      (after (.localPeriod .recessive) (s 105)).time.resyncFrame = true ∧
      (after (.localPeriod .recessive) (s 100)).time.owedFrame = [⟨⟨1, 10000000⟩, 101, true⟩] ∧
      (after (.localPeriod .recessive) (s 100)).time.resyncFrame = false ∧
      (after (.localPeriod .recessive) (s 100)).time.owedSub.map Owed.resync = [true] := by
  decide +kernel

/-- Strobes owed of every kind. -/
def owing : State :=
  { active with
    time :=
      { TimeBase.reset with
        owedSub := [⟨⟨1, 0⟩, 0, true⟩], owedFrame := [⟨⟨1, 0⟩, 100, false⟩]
        owedPps := [⟨⟨1, 0⟩, 0, true⟩] } }

theorem test_hyp_SubframeStrobeStartsAWindow :
    (owing.hold = false ∧ owing.time.owedSub = [⟨⟨1, 0⟩, 0, true⟩] ∧ owing.time.pulseSub = none ∧
        owing.time.pulseResync = none) ∧
      (let s := { owing with time := { owing.time with pulseSub := some ⟨0, 100⟩ } }
       s.time.pulseSub ≠ none) ∧
      (let l := { Lane.reset with windowPeriods := 24999 }; 12500 ≤ (l.windowPeriods + 1) / 2) ∧
      (let l := { Lane.reset with windowPeriods := 24998 }; (l.windowPeriods + 1) / 2 < 12500) ∧
      (Share.reset.windowStart 7500 12500).lastBusy = some 153 ∧
      (Share.reset.windowStart 7520 12500).level = 1 ∧ (Share.reset.windowStart 9375 12500).level = 2 ∧
      (Share.reset.windowStart 11231 12500).level = 3 := by decide +kernel

/-- R122: a marked strobe on a pin still asserted: one period of gap for the pin and for RESYNC, which the
strobe of the same instant then shares. -/
theorem test_pulses_begin_afresh :
    let s : State := { owing with
      localTime := 60
      time :=
        { owing.time with pulsePps := some ⟨0, 100⟩, pulseSub := some ⟨0, 100⟩, pulseResync := some ⟨0, 100⟩ } }
    let t := after .subframeStrobe s
    t.time.pulseSub = some ⟨61, 161⟩ ∧ t.time.pulseResync = some ⟨61, 161⟩ ∧
      t.outs.subframeStb = false ∧ t.outs.resync = false ∧
      (after .ppsStrobe t).time.pulsePps = some ⟨61, 161⟩ ∧
      (after .ppsStrobe t).time.pulseResync = some ⟨61, 161⟩ ∧
      (after (.localPeriod .recessive) t).outs.resync = true := by decide +kernel

theorem test_hyp_LimitAndBudgetFollowTheLevelAlone :
    (owing.hold = false ∧ owing.time.owedSub ≠ [] ∧ owing.share.level ≤ 3) ∧
      (Instr.reap ≠ .subframeStrobe ∧ isReset .reap = false) := by decide

/-- Periodic entry 2 due at every strobe. -/
def owingPeriodic (state : SeatState) : State :=
  { owing with
    seat := (inSeat state).seat
    sched :=
      { owing.sched with
        periodic :=
          owing.sched.periodic.set 2
            { skip := 0, phase := 0, dest := .all, tier := 2, payload := [7], missed := false
              written := true } } }

theorem test_hyp_FrameStrobeReleasesDueEntries :
    ((owingPeriodic .active).hold = false ∧
        (owingPeriodic .active).time.owedFrame = [⟨⟨1, 0⟩, 100, false⟩] ∧
        (owingPeriodic .active).seat.state = .active ∧ (owingPeriodic .active).time.pulseFrame = none ∧
        dueAt (owingPeriodic .active).toStation 100 = [2] ∧
        ∀ e ∈ (owingPeriodic .active).sched.bulk, e.periodic = none) ∧
      (owingPeriodic .leaving).seat.state ≠ .active := by decide +kernel

/-- R85: the copy of entry 1 fills EXPRESS, and entry 2 is missed; the flag of entry 1 stands. -/
theorem test_earlier_copies_fill_express :
    let s := owingPeriodic .active
    let e : PeriodicEntry :=
      { skip := 0, phase := 0, dest := .all, tier := 2, payload := [7], missed := true, written := true }
    let s : State := { s with
      sched := { s.sched with express := List.replicate 15 (frame 1), periodic := s.sched.periodic.set 1 e } }
    let t := after .frameStrobe s
    t.sched.express.map Entry.periodic = List.replicate 15 none ++ [some 1] ∧
      (t.sched.periodic.get 1).missed = true ∧ (t.sched.periodic.get 2).missed = true ∧
      (s.sched.periodic.get 2).missed = false ∧ t.port.missedCause = true := by decide +kernel

theorem test_hyp_PpsStrobePulsesItsPin :
    (owing.hold = false ∧ owing.time.owedPps = [⟨⟨1, 0⟩, 0, true⟩] ∧ owing.time.pulsePps = none ∧
        owing.time.pulseResync = none) ∧
      (let s := { owing with localTime := 99, time := { owing.time with pulsePps := some ⟨0, 100⟩ } }
       s.time.pulsePps = some ⟨0, 100⟩ ∧ s.localTime < 100) ∧
      (let s : State := { owing with
         localTime := 100
         time :=
           { owing.time with
             pulsePps := some ⟨0, 100⟩, pulseFrame := some ⟨0, 100⟩, pulseSub := some ⟨0, 100⟩
             pulseResync := some ⟨0, 100⟩ } }
       s.time.pulsePps = some ⟨0, 100⟩ ∧ s.time.pulseFrame = some ⟨0, 100⟩ ∧
         s.time.pulseSub = some ⟨0, 100⟩ ∧ s.time.pulseResync = some ⟨0, 100⟩ ∧
         100 ≤ s.localTime ∧ (owing.localTime < 100 ∧ s.time.pulsePps ≠ none)) := by decide

/-- R122: strobes of one instant share one pulse of RESYNC; an unmarked one leaves it. -/
theorem test_hyp_ResyncWith :
    ResyncWith none (some ⟨7, 107⟩) ⟨7, 107⟩ 7 true ∧
      ResyncWith (some ⟨0, 100⟩) (some ⟨8, 108⟩) ⟨7, 107⟩ 7 true ∧
      ResyncWith (some ⟨7, 107⟩) (some ⟨7, 107⟩) ⟨7, 107⟩ 7 true ∧
      ResyncWith (some ⟨0, 100⟩) (some ⟨0, 100⟩) ⟨7, 107⟩ 7 false := by
  simp [ResyncWith]

/-! ### Hypotheses met: the lane -/

/-- The lane open, with one entry in this queue. -/
def opened (q : FrameClass) (e : Entry) : State :=
  { active with
    lane := { active.lane with line := .opened }
    share := { active.share with budget := 1 }
    sched := { active.sched.setQueue q [e] with offer := some q } }

/-- An internal entry. -/
def internal : Entry := Entry.internal .rollcall []

theorem test_hyp_TheOfferIsTheFirstHeadThatMayGo :
    HeadMayGo (opened .timing internal).toStation .timing ∧
      HeadMayGo (opened .control internal).toStation .control ∧
      HeadMayGo (opened .express (frame 1)).toStation .express ∧
      HeadMayGo (opened .bulk (frame 1)).toStation .bulk ∧
      (∀ q, ¬ HeadMayGo active.toStation q) ∧
      (opened .bulk (frame 1)).lane.line = .opened ∧ (opened .bulk (frame 1)).lane.attempt = none ∧
      active.lane.line ≠ .opened := by
  refine ⟨⟨_, rfl, rfl, .inl rfl⟩, ⟨_, rfl, rfl, .inr (.inl rfl)⟩,
    ⟨_, rfl, rfl, .inl rfl, rfl, .inl rfl⟩, ⟨_, rfl, rfl, .inl rfl, rfl, ?_, ?_⟩, ?_, rfl, rfl, ?_⟩
  · decide
  · decide
  · rintro q ⟨e, he, -⟩
    cases q <;> cases he
  · decide

/-- The line in this state, with this much of an end field left. -/
def inLine (line : LineState) (left : Nat) : State :=
  { active with lane := { active.lane with line := line, endLeft := left, marks := ⟨false, true, false⟩ } }

/-- An own frame with this many periods of its bytes left. -/
def bytesLeft (n : Nat) : State :=
  let s := sending .sending .body (frame 9)
  { s with lane := { s.lane with attempt := s.lane.attempt.map fun a => { a with bodyLeft := n } } }

theorem test_hyp_OpeningsAndLostPlacesMoveTheLine :
    (active.hold = false ∧ active.lane.line = .listening) ∧
      ((inLine .endField 0).lane.line = .endField ∧ (inLine .stuck 0).lane.line = .stuck) ∧
      ((inLine .endField 1).lane.attempt = none ∧ (inLine .endField 1).lane.endLeft = 1 ∧
        (inLine .endField 0).lane.endLeft = 0 ∧ 2 ≤ (inLine .endField 2).lane.endLeft) ∧
      ((bytesLeft 2).lane.attempt.map Attempt.phase = some .sending ∧
        (bytesLeft 2).lane.attempt.map Attempt.bodyLeft = some 2 ∧ (bytesLeft 2).lane.endLeft = 0 ∧
        (bytesLeft 1).lane.line = .body) := by decide

theorem test_hyp_LosesPlace :
    (LosesPlace .opened .strayDominant ∧ LosesPlace .key .codeViolation ∧
        LosesPlace .body .lengthAbove256 ∧ LosesPlace .gap .dominantInGap) ∧
      ¬ LosesPlace .key .lengthAbove256 ∧ ¬ LosesPlace .endField .codeViolation := by
  simp [LosesPlace]

/-- R2, R15: the end field of a heard frame ends after its byte time, and the marks with it. -/
theorem test_end_field_of_heard_frame :
    let s := withPeer present (hearing .active .bulk)
    let t := after (.frameHandover (rxFrame .bulk 0x61 16 7 [1, 2]) false) s
    let u := after (.localPeriod .recessive) (after (.localPeriod .recessive) t)
    t.lane.line = .endField ∧ t.lane.marks = ⟨false, true, false⟩ ∧
      u.lane.line = .gap ∧ u.lane.marks = Marks.none ∧
      (after .laneOpening u).lane.line = .opened := by decide +kernel

/-- R15, R18: a gate that closes in AWAIT_MARKS stops the delimiter and leaves the attempt to its result; one that
narrows leaves both. -/
theorem test_delimiter_stops_with_the_gate :
    let s := after (.localPeriod .recessive) (bytesLeft 1)
    let t := after .seatLost s
    s.lane.delimiter = true ∧ s.lane.endCells.take 2 = [false, true] ∧ t.seat.state = .unseated ∧
      t.lane.delimiter = false ∧ t.lane.endCells = idleCells ∧
      (t.lane.attempt.map Attempt.phase) = some .awaitMarks ∧
      (let u : State :=
         { s with seat := { s.seat with state := .leaving }, pins := { s.pins with seatPresent := true } }
       let v := after .latchCloses u
       v.seat.state = .listen ∧ v.lane.delimiter = true) := by decide +kernel

/-- R2: a code violation in the key of a contender. -/
theorem test_place_lost_while_contending :
    let t := after (.frameAbandoned .codeViolation) (sending .contending .key (frame 9))
    t.lane.line = .unframed ∧ (t.lane.attempt.map Attempt.phase) = some .contending := by decide +kernel

theorem test_hyp_StartMarkBeginsTheAttempt :
    MayGo (opened .express (frame 1)).toStation .express (frame 1) ∧
      (opened .express (frame 1)).hold = false ∧ (opened .express (frame 1)).lane.line = .opened ∧
      (opened .express (frame 1)).sched.offer = some .express ∧
      (opened .express (frame 1)).sched.queue .express = [frame 1] ∧ active.sched.offer = none :=
  ⟨⟨rfl, .inl rfl, rfl, .inl rfl⟩, rfl, rfl, rfl, rfl, rfl⟩

theorem test_hyp_KeysRankByClassPatienceSlot :
    (3 : Nat) ≤ 3 ∧ (2 : Slot) ≠ 7 ∧ (151 : Byte).toNat < (178 : Byte).toNat := by decide

/-- An own key on the lane. -/
def contending : State := sending .contending .key (frame 9)

/-- Its attempt. -/
def itsAttempt (phase : Phase) : Attempt :=
  { queue := .bulk, key := 0xF0, group := .data, seq := none, start := none, phase := phase
    readbackFault := false, sent := [], bodyLeft := 3, windowEnded := false }

theorem test_hyp_KeyWonFixesTheFrame :
    contending.hold = false ∧ contending.lane.attempt = some (itsAttempt .contending) ∧
      contending.sched.queue .bulk = [{ frame 9 with onLane := true }] ∧
      (sending .contending .unframed (frame 9)).lane.line = .unframed := by decide

/-- R7, R10, R204, R205: the bytes of a JOIN, a BEACON, a LEAVE and an own list, written out. -/
theorem test_wire_bytes :
    (wireBytes State.reset.toStation 0x70 (Entry.internal .join []) 3).take 10 =
        [0x70, 0x31, 16, 3, 0, 4, 0, 0, 15, 1] ∧
      (wireBytes State.reset.toStation 0x70 (Entry.internal .join []) 3).length = 12 ∧
      (let s := { State.reset.toStation with
         sel := { Selector.reset with announced := 3, previous := some ⟨258, 772⟩, steppedPrevious := true } }
       (wireBytes s 0x30 (Entry.internal .beacon []) 7).take 15 =
         [0x30, 0x13, 16, 7, 0, 9, 3, 0, 0, 1, 2, 0, 0, 3, 4]) ∧
      (wireBytes (leaving 0).toStation 0x70 (Entry.internal .leave []) 1).take 7 = [0x70, 0x40, 16, 1, 0, 1, 0] ∧
      wireAlarm ⟨0x1234, .minor, some 5, 0x01020304⟩ = [0x12, 0x34, 0x85, 1, 2, 3, 4] := by decide +kernel

/-- Contending with this head of CONTROL. -/
def contendingOwn (e : Entry) : State :=
  { active with
    lane :=
      { active.lane with
        line := .key
        attempt := some { itsAttempt .contending with queue := .control, key := 0x70, group := e.kind.group } }
    sched := { active.sched with control := [{ e with onLane := true }] } }

/-- JOINING, contending with a JOIN of this many faults. -/
def inJoining (faults : Nat) : State :=
  { contendingOwn { Entry.internal .join [] with faults := faults } with
    seat := { active.seat with state := .joining } }

/-- The copy of periodic entry 1, on the lane when a flush reached it. -/
def copyPending : Entry :=
  { Entry.placed .data .all 1 [1] none (some 1) with onLane := true, pending := some .flushed }

/-- A frame of BULK on the lane. -/
def laneFrame : Entry := { frame 9 with onLane := true }

/-- A card's frame, a copy and internal frames on the lane, as LOST leaves them. -/
theorem test_hyp_KeyNotWonLosesOrFlaws_lost (v : Station) :
    AfterLost v .bulk laneFrame [] (withQueue v .bulk [{ laneFrame with patience := 2, onLane := false }]) ∧
      AfterLost v .bulk { laneFrame with pending := some .flushed } []
        (recorded (withQueue v .bulk []) ⟨9, .flushed, 0, none⟩) ∧
      AfterLost v .express copyPending [] (withMissed (withQueue v .express []) 1) ∧
      AfterLost v .control { Entry.internal .leave [] with onLane := true, withdrawn := true } []
        (withdrawnGone (withQueue v .control []) { Entry.internal .leave [] with onLane := true, withdrawn := true }) :=
  ⟨.inl ⟨rfl, rfl, rfl⟩, .inr (.inl ⟨9, .flushed, rfl, rfl, rfl, rfl⟩),
    .inr (.inr (.inl ⟨1, .flushed, rfl, rfl, rfl, rfl, by decide, rfl⟩)),
    .inr (.inr (.inr ⟨⟨rfl, rfl, rfl, rfl, .inr (.inr rfl)⟩, rfl⟩))⟩

/-- The same, as FLAW leaves them. -/
theorem test_hyp_KeyNotWonLosesOrFlaws_flaw (v : Station) :
    AfterFlaw v .bulk laneFrame []
        (withQueue v .bulk [{ laneFrame with attempts := 1, faults := 1, onLane := false }]) ∧
      AfterFlaw v .bulk { laneFrame with faults := 3 } []
        (recorded (withQueue v .bulk []) ⟨9, .unheard, 1, none⟩) ∧
      AfterFlaw v .express copyPending [] (withMissed (withQueue v .express []) 1) ∧
      AfterFlaw v .timing { Entry.internal .beacon [] with onLane := true, withdrawn := true } []
        (withdrawnGone (withQueue v .timing []) { Entry.internal .beacon [] with onLane := true, withdrawn := true }) ∧
      AfterFlaw v .control { Entry.internal .rollcall [] with onLane := true, faults := 3 } []
        (withQueue v .control []) :=
  ⟨.inl ⟨by decide, .inl rfl, rfl, rfl, rfl⟩,
    .inr (.inl ⟨9, .unheard, rfl, rfl, rfl, .inr ⟨rfl, by decide, rfl⟩, rfl⟩),
    .inr (.inr (.inl ⟨1, rfl, rfl, rfl, .inl ⟨.flushed, rfl, by decide⟩, rfl⟩)),
    .inr (.inr (.inr (.inl ⟨⟨rfl, rfl, rfl, rfl, .inl rfl⟩, rfl⟩))),
    .inr (.inr (.inr (.inr ⟨⟨rfl, rfl, rfl, rfl, by decide⟩, .inl ⟨rfl, rfl⟩⟩)))⟩

/-- In this seat state, contending with a frame of BULK, the mismatch count as given. -/
def contendingIn (state : SeatState) (mismatch : Nat) : State :=
  { contending with seat := { contending.seat with state := state, mismatch := mismatch } }

theorem test_hyp_KeyNotWonLosesOrFlaws :
    ((contendingIn .listen 0).hold = false ∧
        (contendingIn .listen 0).lane.attempt = some (itsAttempt .contending) ∧
        (itsAttempt .contending).phase = .contending ∧ (itsAttempt .contending).start = none ∧
        (contendingIn .listen 0).sched.queue .bulk = [laneFrame] ∧ laneFrame.onLane = true) ∧
      ((0xEF : Byte).toNat < (0xF0 : Byte).toNat ∧ keySlot 0xEF ≠ contending.seat.slot) ∧
      ((0xE0 : Byte).toNat < (0xF0 : Byte).toNat ∧ keySlot 0xE0 = contending.seat.slot ∧
        contending.lane.line = .key ∧ contending.seat.state = .active ∧ laneFrame.pending = none ∧
        (contendingIn .gone 0).seat.state = .gone) ∧
      (let s := sending .contending .unframed (frame 9)
       keySlot 0xE0 = s.seat.slot ∧ s.lane.line ≠ .key ∧ s.lane.line ≠ .body ∧
         (after (.keyComplete 0xE0) s).seat.state = .active ∧
         (after (.keyComplete 0xE0) s).sched.bulk.map Entry.patience = [2]) ∧
      ((0xF0 : Byte).toNat < (0xF1 : Byte).toNat ∧ (contendingIn .listen 0).seat.mismatch = 0 ∧
        CountsReadback (contendingIn .listen 1).toStation ∧ 1 ≤ (contendingIn .listen 1).seat.mismatch ∧
        CountsReadback (contendingIn .waitSeat 1).toStation ∧ ¬ CountsReadback (contendingIn .gone 1).toStation) ∧
      (let e := { Entry.internal .join [] with onLane := true, faults := 3 }
       (inJoining 3).seat.state = .joining ∧ (inJoining 3).seat.mismatch = 0 ∧
         (inJoining 3).sched.queue .control = [e] ∧ e.kind = .join ∧ e.withdrawn = false ∧ e.tag = none ∧
         e.periodic = none ∧ e.pending = none ∧ 3 ≤ e.faults ∧
         (inJoining 3).lane.attempt.map Attempt.phase = some .contending) ∧
      (let e := { Entry.internal .leave [] with onLane := true, faults := 3 }
       let s : State := { contendingOwn e with seat := { active.seat with state := .leaving } }
       s.seat.state = .leaving ∧ s.sched.queue .control = [e] ∧ e.kind = .leave ∧ e.withdrawn = false ∧
         3 ≤ e.faults) := by decide +kernel

/-- R44, R76, R81: an own key heard by a contender that loses: CLASHED, its frame flushed behind the attempt's end,
with its record. R43: a second mismatch does the same in LISTEN. -/
theorem test_key_clash_flushes :
    (let t := after (.keyComplete 0xE0) contending
     t.seat.state = .clashed ∧ t.sched.bulk = [] ∧ t.sched.completions = [⟨9, .flushed, 0, none⟩]) ∧
      (let t := after (.keyComplete 0xF1) (contendingIn .listen 1)
       t.seat.state = .clashed ∧ t.sched.bulk = [] ∧ t.sched.completions = [⟨9, .flushed, 1, none⟩]) := by
  decide +kernel

/-- R43, R80: a higher key read: the fourth fault removes the frame UNHEARD, a second mismatch clashes. -/
theorem test_key_flaws :
    (let t := after (.keyComplete 0xF1) (sending .contending .key { frame 9 with faults := 3 })
     t.sched.bulk = [] ∧ t.sched.completions = [⟨9, .unheard, 1, none⟩] ∧ t.seat.mismatch = 1) ∧
      (let s := { contending with seat := { contending.seat with mismatch := 1 } }
       (after (.keyComplete 0xF1) s).seat.state = .clashed) ∧
      (after (.keyComplete 0x10) (contendingOwn { Entry.internal .leave [] with withdrawn := true })).sched.control
        = [] ∧
      (let t := after (.keyComplete 0x71) (inJoining 3)
       t.seat.state = .listen ∧ t.seat.mismatch = 1 ∧ t.alarm.has joinFailed = true) := by decide +kernel

theorem test_hyp_ReadbackMismatchCountsTowardsClash :
    (let s := sending .sending .body (frame 9)
     s.hold = false ∧ s.lane.attempt = some (itsAttempt .sending) ∧ s.seat.state = .active ∧
       s.seat.mismatch = 0) ∧
      (let s := { sending .sending .body (frame 9) with seat := { active.seat with mismatch := 1 } }
       1 ≤ s.seat.mismatch) ∧
      (let s := { sending .sending .body (frame 9) with seat := (inSeat .clashed).seat }
       s.seat.state = .clashed) := by decide

/-- R17: with five periods left of nine bytes, the contents stop behind the seventh, and the abort symbol
follows. -/
theorem test_abort_cuts_the_contents :
    let s := bytesLeft 5
    let s : State := { s with lane := { s.lane with
      attempt := s.lane.attempt.map fun a => { a with sent := [0xF0, 1, 2, 3, 4, 5, 6, 7, 8] } } }
    let a := (after .readbackMismatch s).lane.attempt
    a.map Attempt.sent = some [0xF0, 1, 2, 3, 4, 5, 6] ∧
      a.map (fun x => (x.cells true Marks.none).length) = some 90 := by decide +kernel

theorem test_hyp_AttemptResultOfASendFrame :
    (let s := sending .awaitMarks .endField (frame 9)
     let e := { frame 9 with onLane := true }
     s.hold = false ∧ s.lane.attempt = some (itsAttempt .awaitMarks) ∧ s.lane.line = .endField ∧
       s.sched.queue .bulk = [e] ∧ e.kind = .data ∧ e.tag = some 9 ∧ e.periodic = none ∧
       e.withdrawn = false ∧ e.pending = none) ∧
      (let e := { frame 9 with onLane := true, pending := some .flushed }
       e.pending = some .flushed ∧ (sending .sending .body e).sched.queue .bulk = [e]) ∧
      (let e := { frame 9 with onLane := true, faults := 3 }
       sendFrameAfter e .flaw none 0 =
         .error ({ e with attempts := 1, faults := 4, onLane := false }, .unheard)) ∧
      ((sending .sending .body (frame 9)).lane.attempt = some (itsAttempt .sending) ∧
        (itsAttempt .sending).phase ≠ .contending) ∧
      (let e := { frame 9 with onLane := true, refusals := 7 }
       sendFrameAfter e .refused none 0 =
         .error ({ e with attempts := 1, refusals := 8, onLane := false }, .refused)) := by
  refine ⟨by decide, by decide, rfl, by decide, rfl⟩

/-- The station's own JOIN or LEAVE on the lane. -/
def sendingOwn (state : SeatState) (kind : FrameKind) (faults : Nat) : State :=
  { inSeat state with
    lane :=
      { State.reset.lane with
        line := .endField
        attempt := some { itsAttempt .awaitMarks with queue := .control, group := .membership } }
    sched :=
      { State.reset.sched with
        control := [{ Entry.internal kind [] with onLane := true, faults := faults }] } }

theorem test_hyp_JoinAndLeaveEndsMoveTheSeat :
    (let s := sendingOwn .joining .join 3
     let e := { Entry.internal .join [] with onLane := true, faults := 3 }
     s.hold = false ∧ s.seat.state = .joining ∧ s.sched.control = [e] ∧ e.dest = .all ∧
       e.tag = none ∧ e.periodic = none ∧ e.withdrawn = false ∧ e.pending = none ∧ e.faults = 3 ∧
       (itsAttempt .awaitMarks).readbackFault = false ∧
       (after (.attemptResult false true false) s).seat.state = .active ∧
       (let p : State := { s with port := { s.port with timeout := 2 } }
        0 < p.port.timeout ∧ s.port.timeout = 0 ∧
          (after (.attemptResult false true false) p).port.watchdog = .running 20000000 ∧
          (after (.attemptResult false true false) p).alarm.ownSeq = 1) ∧
       (after (.attemptResult true false false) s).seat.state = .listen) ∧
      (let e := { Entry.internal .join [] with onLane := true, withdrawn := true }
       let s := sendingOwn .leaving .join 0
       let s : State := { s with sched := { s.sched with control := [e] } }
       e.kind = .join ∧ e.withdrawn = true ∧
         (after (.attemptResult false false false) s).seat.state = .leaving ∧
         (after (.attemptResult false false false) s).sched.control = []) ∧
      (let s := sendingOwn .leaving .leave 0
       s.seat.state = .leaving ∧ (after (.attemptResult false false false) s).seat.state = .gone) ∧
      (let s := sendingOwn .joining .join 0
       let s : State := { s with lane := { s.lane with
         attempt := s.lane.attempt.map fun a => { a with readbackFault := true } } }
       (after (.attemptResult false false false) s).seat.state = .joining ∧
         (after (.attemptResult false false false) s).sched.control.map Entry.faults = [1]) := by
  decide +kernel

/-- One entry on the lane in this queue, its attempt past the end field. -/
def endingIn (q : FrameClass) (e : Entry) : State :=
  { active with
    lane :=
      { active.lane with
        line := .endField
        attempt := some { itsAttempt .awaitMarks with queue := q, group := e.kind.group } }
    sched := active.sched.setQueue q [{ e with onLane := true }]
    alarm := { active.alarm with refresh := some 7 }
    sel := { active.sel with current := some ⟨1, 2⟩ } }

/-- The copy of periodic entry 1. -/
def periodicCopy : Entry := Entry.placed .data (.slot 5) 1 [1] none (some 1)

theorem test_hyp_InternalFramesAndCopiesEndByTheirRule :
    (let e := { Entry.internal .beacon [] with onLane := true }
     let s := endingIn .timing e
     s.hold = false ∧ s.lane.attempt.map Attempt.phase = some .awaitMarks ∧ s.sched.queue .timing = [e] ∧
       e.onLane = true ∧ e.tag = none ∧ e.pending = none ∧ e.dest = .all ∧ e.periodic = none ∧
       e.kind = .beacon ∧ e.withdrawn = false ∧ e.faults < 3) ∧
      ((Entry.internal .rollcall []).kind = .rollcall ∧ (Entry.internal .alarm []).kind = .alarm) ∧
      (resultRead false true true false false = .flaw ∧ resultRead false true false false false = .delivered ∧
        resultRead false false false false true = .refused ∧
        resultRead false false false false false = .unheard) ∧
      (periodicCopy.periodic = some 1 ∧ periodicCopy.kind = .data ∧ periodicCopy.withdrawn = false ∧
        periodicCopy.attempts < 3 ∧ 3 ≤ { periodicCopy with attempts := 3 }.attempts ∧
        7 ≤ { periodicCopy with refusals := 7 }.refusals) ∧
      (copyPending.pending = some .flushed ∧ (endingIn .express copyPending).sched.express = [copyPending] ∧
        AttemptEnd.unheard ≠ .delivered) := by decide

/-- R86, R148, R174: the beacon that ends moves current start to previous start, the fourth flaw of an ALARM
frame restarts the refresh timer, the fourth attempt of a copy marks its entry missed. -/
theorem test_ends_of_other_frames :
    (let t := after (.attemptResult false false false) (endingIn .timing (Entry.internal .beacon []))
     t.sched.timing = [] ∧ t.sel.previous = some ⟨1, 2⟩ ∧ t.sel.current = none) ∧
      (let t := after (.attemptResult true false false)
         (endingIn .control { Entry.internal .alarm [] with faults := 3 })
       t.sched.control = [] ∧ t.alarm.refresh = some 10000000) ∧
      (let s := endingIn .express { periodicCopy with attempts := 3 }
       let p := s.sched.periodic.set 1 { s.sched.periodic.get 1 with written := true }
       let s : State := { s with sched := { s.sched with periodic := p } }
       let t := after (.attemptResult false false true) s
       t.sched.express = [] ∧ (t.sched.periodic.get 1).missed = true ∧ t.port.missedCause = true) := by
  decide +kernel

/-! ### Hypotheses met: frames received -/

/-- A DATA frame to ALL, with its check. -/
def dataFrame : RxFrame := rxFrame .bulk 0x61 16 7 [1, 2]

theorem receiving (state : SeatState) (q : FrameClass) (r : Peer) :
    Receiving (withPeer r (hearing state q)) (keyByte q 3 5) 5 :=
  ⟨rfl, rfl, rfl, rfl, by cases q <;> decide, (by decide : (5 : Slot) ≠ 0)⟩

theorem test_hyp_AcceptedDataIsQueuedAndMarkedTaken :
    let s := withPeer present (hearing .active .bulk)
    Receiving s (keyByte .bulk 3 5) 5 ∧ GoodData (keyByte .bulk 3 5) dataFrame ∧
      Wanted s.toStation dataFrame 5 ∧ (s.peer 5).lastSeq ≠ some dataFrame.seq ∧
      (keyByte .bulk 3 5).toNat / 64 = 3 ∧ s.rx.bulk.length < 32 ∧
      (keyByte .express 3 5).toNat / 64 = 2 ∧ s.rx.express.length < 16 :=
  ⟨receiving _ _ _, ⟨rfl, by decide +kernel, by decide, by decide⟩,
    ⟨.inl (by decide), by decide, by decide, .inl rfl⟩, by decide +kernel, by decide, by decide, by decide,
    by decide⟩

/-- An arrival, to fill a queue with. -/
def arrived : RxEntry := ⟨⟨5, true, .bulk, 0, 1, 0, ⟨0, 0⟩, false⟩, []⟩

theorem test_hyp_OtherDataAndOwnKeysAreNotQueued :
    (¬ ForUs active.toStation (rxFrame .bulk 0x61 3 7 []) ∧
        ¬ Takes (withPeer present (hearing .listen .bulk)).toStation 5 ∧
        (keyByte .control 3 5).toNat / 64 < 2) ∧
      (let s := withPeer { present with lastSeq := some 7 } (hearing .active .bulk)
       Wanted s.toStation dataFrame 5 ∧ (s.peer 5).lastSeq = some dataFrame.seq ∧
         2 ≤ (keyByte .bulk 3 5).toNat / 64) ∧
      (let s := { withPeer present (hearing .active .bulk) with
         rx := { Rx.reset with bulk := List.replicate 32 arrived } }
       32 ≤ s.rx.bulk.length ∧ (s.peer 5).lastSeq ≠ some dataFrame.seq ∧
         dataFrame.dest.toNat = 16 ∧
         (rxFrame .bulk 0x61 0 7 []).dest.toNat = s.seat.slot.val) ∧
      (let s := hearing .active .bulk
       let s : State := { s with lane := { s.lane with rxKey := some 0xF0 } }
       s.hold = false ∧ s.lane.line = .body ∧ s.lane.attempt = none ∧ keySlot 0xF0 = s.seat.slot) := by
  refine ⟨⟨by unfold ForUs; decide, by unfold Takes; decide, by decide⟩,
    ⟨⟨.inl rfl, rfl, by decide, .inl rfl⟩, by decide, by decide⟩, by decide, by decide⟩

theorem test_hyp_MembershipFramesSetTheRecord :
    let s := withPeer present (hearing .active .control)
    let k := keyByte .control 3 5
    Hears s k 5 (rxFrame .control 0x31 16 1 (joinPayload 3 9 15 true .pin))
        (.join 3 9 15 true .pin true) ∧
      (Hears s k 5 (rxFrame .control 0x43 16 1 [3]) (.leave 3 true .release) ∧
        (s.peer 5).state ≠ .left) ∧
      Hears s k 5 (rxFrame .control 0x20 16 1 (rollcallPayload 9 4 true 3 200))
        (.rollcall 9 4 true 3 200) ∧
      Hears s k 5 (rxFrame .control 0x50 16 1 (alarmPayload 5 [⟨0x1000, .major, some 3, 77⟩]))
        (.alarm 5 [⟨0x1000, .major, some 3, 77⟩]) ∧
      (let s := withPeer { present with state := .left } (hearing .active .control)
       Hears s k 5 (rxFrame .control 0x43 16 1 [3]) (.leave 3 true .release) ∧
         (s.peer 5).state = .left) ∧
      (GateOpen s.toStation ∧ s.seat.state = .active) ∧
      (let s := withPeer present (hearing .listen .control)
       Hears s k 5 (rxFrame .control 0x31 16 1 (joinPayload 3 9 15 true .pin)) (.join 3 9 15 true .pin true) ∧
         ¬ GateOpen s.toStation ∧ s.seat.state ≠ .active ∧ (s.seat.state = .leaving → s.seat.leavePlaced = true)) := by
  refine ⟨⟨receiving _ _ _, by decide +kernel, rfl⟩, ⟨⟨receiving _ _ _, by decide +kernel, rfl⟩,
    by decide⟩, ⟨receiving _ _ _, by decide +kernel, rfl⟩, ⟨receiving _ _ _, by decide +kernel, rfl⟩,
    ⟨⟨receiving _ _ _, by decide +kernel, rfl⟩, rfl⟩, ⟨.inr (.inl rfl), rfl⟩,
    ⟨receiving _ _ _, by decide +kernel, rfl⟩, by unfold GateOpen; decide, by decide, by decide⟩

/-- A BEACON of class 3 with its previous start. -/
def beaconFrame (seq : Byte) : RxFrame := rxFrame .timing 0x12 16 seq (beaconPayload 3 (some ⟨1, 400⟩))

theorem test_hyp_BeaconsRefreshTheBeaconRecord :
    let s := withPeer present (hearing .active .timing)
    Hears s (keyByte .timing 3 5) 5 (beaconFrame 8) (.beacon 3 (some ⟨1, 400⟩) false) ∧
      (s.peer 5).state ≠ .left ∧ (s.peer 5).state ≠ .self ∧ GateOpen s.toStation ∧
      (let s := withPeer present (hearing .listen .timing)
       Hears s (keyByte .timing 3 5) 5 (beaconFrame 8) (.beacon 3 (some ⟨1, 400⟩) false) ∧ ¬ GateOpen s.toStation) :=
  ⟨⟨receiving _ _ _, by decide +kernel, rfl⟩, by decide, by decide, .inr (.inl rfl),
    ⟨receiving _ _ _, by decide +kernel, rfl⟩, by unfold GateOpen; decide⟩

/-- A frame with a wrong check. -/
def badFrame : RxFrame := { dataFrame with check := dataFrame.check + 1 }

theorem test_hyp_BadChecksCountAndBar :
    (let s := withPeer { present with flaws := List.replicate 6 0 } (hearing .active .bulk)
     Receiving s (keyByte .bulk 3 5) 5 ∧ goodContent (keyByte .bulk 3 5) badFrame = none ∧
       (s.peer 5).barredUntil = none ∧
       ((s.peer 5).flaws.filter fun x => decide (s.localTime ≤ x + 100000000)).length < 7) ∧
      (let s := withPeer { present with flaws := List.replicate 7 0 } (hearing .active .bulk)
       7 ≤ ((s.peer 5).flaws.filter fun x => decide (s.localTime ≤ x + 100000000)).length) ∧
      ((withPeer { present with barredUntil := some 1 } (hearing .active .bulk)).peer 5).barredUntil ≠
        none := by
  refine ⟨⟨receiving _ _ _, by decide +kernel, by decide, by decide⟩, by decide, by decide⟩

/-! ### Hypotheses met: local timers -/

/-- At this local time. -/
def atTime (now : Nat) (s : State) : State := { s with localTime := now }

theorem test_hyp_UnheardPeersFallSilentThenAbsent :
    (let s := atTime 30000000 (withPeer present active)
     s.hold = false ∧ (s.peer 5).state = .present ∧ (s.peer 5).lastHeard = some 0 ∧
       0 + 30000000 ≤ s.localTime) ∧
      (atTime 29999999 active).localTime < 0 + 30000000 ∧
      (let s := atTime 100000000 (withPeer { present with state := .silent } active)
       (s.peer 5).state = .silent ∧ (s.peer 5).lastHeard = some 0 ∧ 0 + 100000000 ≤ s.localTime) ∧
      (atTime 99999999 active).localTime < 0 + 100000000 ∧
      (let s := atTime 6000000000 (withPeer { present with state := .left } active)
       (s.peer 5).state = .left ∧ (s.peer 5).since + 6000000000 ≤ s.localTime) ∧
      (let s := atTime 5999999999 (withPeer { present with state := .left } active)
       s.localTime < (s.peer 5).since + 6000000000) := by decide +kernel

theorem test_hyp_FlawTimesAgeAndBarsEnd :
    (let s := atTime 7 (withPeer { present with barredUntil := some 7 } active)
     (s.peer 5).barredUntil = some 7 ∧ 7 ≤ s.localTime ∧
       ∀ q : Slot, q ≠ 5 → (s.peer q).barredUntil = none) ∧
      (let s := { withPeer { present with barredUntil := some 7 } active with
         toStation :=
           (withPeer { present with barredUntil := some 7 } active).toStation.setPeer 2
             { present with barredUntil := some 9 } }
       (s.peer 2).barredUntil ≠ none ∧ ∀ r : Slot, r < 2 → r ≠ 5 → (s.peer r).barredUntil = none) ∧
      (let s := atTime 6 (withPeer { present with barredUntil := some 7 } active)
       ∀ d ∈ (s.peer 5).barredUntil, s.localTime < d) := by decide +kernel

theorem test_hyp_SilenceTimerPlacesRollcallAndBackoffEnds :
    (let s := { atTime 7 active with roster := { active.roster with silence := some 7 } }
     s.roster.silence = some 7 ∧ 7 ≤ s.localTime) ∧
      (let s := { atTime 6 active with roster := { active.roster with silence := some 7 } }
       s.localTime < 7) ∧
      (let s := atTime 7 (opened .express { frame 1 with backoff := some 7 })
       ∃ e ∈ s.sched.queue (cardClass .express), e.backoff = some 7) ∧
      (let s := atTime 6 (opened .express { frame 1 with backoff := some 7 })
       ∀ e ∈ s.sched.queue (cardClass .express), ∀ d ∈ e.backoff, s.localTime < d) := by decide

/-- A candidate with its deadline at 7. -/
def withCandidate (s : State) : State := { s with sel := { s.sel with cands := [⟨5, 3, 7⟩] } }

/-- Claiming, or in ON, with the timer at 7. -/
def beaconing (b : Beaconing) (now : Nat) : State :=
  { atTime now active with
    sel := { Selector.reset with eligible := true, announced := 13, beaconing := b, claim := some 7
                                 interval := some 7 } }

theorem test_hyp_CandidatesExpireAndBeaconsArePlaced :
    (∃ c ∈ (withCandidate (atTime 7 active)).sel.cands, c.slot = 5 ∧ c.deadline ≤ 7) ∧
      (∀ c ∈ (withCandidate (atTime 6 active)).sel.cands, c.slot = 5 → 6 < c.deadline) ∧
      (let s := beaconing .claiming 7
       s.sel.beaconing = .claiming ∧ s.sel.claim = some 7 ∧ 7 ≤ s.localTime ∧
         s.sel.eligible = true ∧ s.seat.state = .active ∧ s.sel.source = .none ∧
         s.sel.cands = []) ∧
      ((beaconing .on 7).sel.interval = some 7 ∧ 7 ≤ (beaconing .on 7).localTime) ∧
      (beaconing .on 6).localTime < 7 ∧ (beaconing .claiming 6).localTime < 7 ∧
      active.sel.beaconing ≠ .claiming := by decide

/-- Following slot 5 to its deadline at 7, with this servo state, and slot 8 heard as well. -/
def atDeadline (servo : ServoState) (cands : List Candidate) : State :=
  let r : Peer := { present with cls := some 3, beacon := some ⟨7, ⟨1, 100⟩, false, 3, 0⟩ }
  let s := atTime 7 (withPeer r active)
  { s with
    toStation :=
      { s.toStation.setPeer 8 r with
        sel :=
          { Selector.reset with
            source := .bus 5, cands := cands, standing := 13, announced := 13, eligible := true
            lockRecord := some ⟨false, 4⟩ }
        servo := { Servo.reset with state := servo, source := .bus 5, i := 77, holdLimit := 3 } } }

theorem test_hyp_ReviewChoosesTheSource :
    (let s := atDeadline .locked [⟨5, 3, 7⟩]
     s.hold = false ∧ (∃ c ∈ s.sel.cands, c.slot = 5 ∧ c.deadline ≤ s.localTime) ∧
       s.time.external = false ∧ s.sel.source = .bus 5 ∧ s.servo.state = .locked ∧
       (∀ c ∈ s.sel.cands, c.slot = 5) ∧ s.sel.eligible = true ∧ 0 < s.servo.holdLimit ∧
       s.sel.lockRecord = some ⟨false, 4⟩) ∧
      (let s := atDeadline .acquire [⟨5, 3, 7⟩, ⟨8, 3, 9⟩]
       s.servo.state = .acquire ∧ (8 : Slot) ≠ 5 ∧ (∀ c ∈ s.sel.cands, c.slot = 5 ∨ c.slot = 8) ∧
         ((s.peer 8).state = .present ∧ (s.peer 8).barredUntil = none ∧ (s.peer 8).beacon.isSome = true ∧
           (s.peer 8).cls = some 3) ∧ 3 < s.sel.standing) ∧
      (let s := atDeadline .locked [⟨5, 3, 7⟩]
       { s with sel := { s.sel with lockedSource := some s.sel.source } }.sel.lockedSource =
         some s.sel.source) := by decide +kernel

/-- R137, R152, R162: with its only candidate gone, the servo coasts at I; with another, it acquires that. -/
theorem test_deadline_moves_the_source :
    (let t := after (.candidateDeadline 5) (atDeadline .locked [⟨5, 3, 7⟩])
     t.sel.source = .none ∧ t.servo.state = .holdover ∧ t.servo.a = 77 ∧ t.time.a = 77 ∧
       t.servo.holdTimer = some 300000007 ∧ t.sel.announced = 5 ∧ t.sel.standing = 5 ∧
       t.port.timingCause = true) ∧
      (let t := after (.candidateDeadline 5) (atDeadline .locked [⟨5, 3, 7⟩, ⟨8, 3, 9⟩])
       t.sel.source = .bus 8 ∧ t.servo.state = .acquire ∧ t.sel.standing = 13 ∧
         t.sel.cands.map Candidate.slot = [8]) := by decide +kernel

/-- The external flag set, an announcement of second 5 taken at 0, now. -/
def announced (now : Nat) (present : Bool) : State :=
  { atTime now active with
    time := { TimeBase.reset with external := true, sec := 5, ns := 600 }
    sel := { Selector.reset with source := .external, extPresent := present }
    servo :=
      { Servo.reset with
        state := .acquire, source := .external, announcement := some ⟨5, 0⟩, extPresent := present
        extLoss := some 9 } }

theorem test_hyp_ExternalEdgesPairWithAnnouncements :
    active.time.external = false ∧
      (let s := { active with time := { TimeBase.reset with external := true } }
       s.time.external = true ∧ s.servo.announcement = none) ∧
      ((announced 110000000 true).servo.announcement = some ⟨5, 0⟩ ∧
        0 + 110000000 = (announced 110000000 true).localTime) ∧
      0 + 110000000 < (announced 110000001 true).localTime ∧
      ((announced 109999999 false).localTime < 0 + 110000000 ∧
        (announced 109999999 false).servo.extPresent = false) ∧
      ((announced 9 true).servo.extLoss = some 9 ∧ 9 ≤ (announced 9 true).localTime) ∧
      (announced 8 true).localTime < 9 := by decide

/-- Following slot 5, whose record holds seq 7. -/
def following : State :=
  let s := withPeer { present with beacon := some ⟨7, ⟨1, 100⟩, false, 3, 0⟩ } (hearing .active .timing)
  { s with
    sel := { Selector.reset with source := .bus 5, cands := [⟨5, 3, 7⟩] }
    servo := { Servo.reset with state := .acquire, source := .bus 5 } }

/-- Following slot 9, beside slot 5. -/
def followingOther : State :=
  { following with
    toStation :=
      ({ following.toStation with
          sel := { following.sel with source := .bus 9, cands := [⟨9, 2, 7⟩, ⟨5, 3, 7⟩] }
          servo := { following.servo with source := .bus 9 } } : Station).setPeer 9
        { present with cls := some 2, beacon := some ⟨1, ⟨1, 100⟩, false, 2, 0⟩ } }

theorem followingOther_cands : ∀ c ∈ followingOther.sel.cands, c.slot = 5 ∨ c.slot = 9 := by decide

/-- Where a sample is formed, and where none is: the signal present without the source EXTERNAL, a seq that does not
follow, and a source that is another slot or EXTERNAL. -/
theorem test_hyp_SamplesStepOrSlewTheTime_none :
    (let s := announced 1 true
     let s : State := { s with servo := { s.servo with source := .none } }
     s.servo.source ≠ .external ∧ s.servo.announcement = some ⟨5, 0⟩) ∧
      (∀ r, (following.peer 5).beacon = some r → r.void = true ∨ (9 : Byte) ≠ r.seq + 1) ∧
      ((announced 1 true).servo.source ≠ .bus 5 ∧ (announced 1 true).sel.source = .external) ∧
      (followingOther.servo.source ≠ .bus 5 ∧ followingOther.sel.source = .bus 9 ∧
        (∀ c ∈ followingOther.sel.cands, c.slot ≠ 9 → c.slot ≠ 5 →
          ∀ j, CandidateNow followingOther.toStation c.slot j → Above 2 9 j c.slot) ∧
        (∃ c ∈ followingOther.sel.cands, c.slot = 9) ∧
        CandidateNow followingOther.toStation 9 2 ∧
        Above 2 9 followingOther.sel.standing followingOther.seat.slot ∧ Above 2 9 3 5) ∧
      (after (.frameHandover (beaconFrame 9) false) following).servo = following.servo ∧
      (after (.frameHandover (beaconFrame 8) false) followingOther).servo = followingOther.servo :=
  ⟨by decide, fun r h => .inr (by cases h; decide), by decide,
    ⟨by decide, rfl, fun c hc h9 h5 => absurd (followingOther_cands c hc) (by simp [h5, h9]), by decide,
      ⟨by decide, by decide, by decide, by decide, by decide⟩,
      .inl (by decide), .inl (by decide)⟩, by decide +kernel, by decide +kernel⟩

/-- The same, following slot 5, with slot 9 a candidate that ranks below it. -/
def followingBoth : State :=
  { following with
    toStation :=
      ({ following.toStation with sel := { following.sel with cands := [⟨5, 3, 7⟩, ⟨9, 6, 7⟩] } } : Station).setPeer 9
        { present with cls := some 6, beacon := some ⟨1, ⟨1, 100⟩, false, 6, 0⟩ } }

theorem othersBelow_following : OthersBelow following.toStation 3 5 := by
  intro c hc hn
  rcases List.mem_cons.1 hc with rfl | hc
  · exact absurd rfl hn
  · cases hc

theorem othersBelow_followingBoth : OthersBelow followingBoth.toStation 3 5 := by
  intro c hc hn k hk
  rcases List.mem_cons.1 hc with rfl | hc
  · exact absurd rfl hn
  · rcases List.mem_cons.1 hc with rfl | hc
    · cases hk.2.2.2.1
      exact .inl (by decide)
    · cases hc

theorem test_hyp_SamplesStepOrSlewTheTime :
    (let s := announced 1 true
     s.hold = false ∧ s.servo.state ≠ .holdover ∧ s.time.external = true ∧
       s.sel.extPresent = true ∧ s.servo.extPresent = true ∧ s.sel.source = .external ∧
       s.servo.source = .external ∧ s.servo.announcement = some ⟨5, 0⟩ ∧
       s.localTime < 0 + 110000000) ∧
      Hears following (keyByte .timing 3 5) 5 (beaconFrame 8) (.beacon 3 (some ⟨1, 400⟩) false) ∧
      ((following.peer 5).state = .present ∧
        (following.peer 5).beacon = some ⟨7, ⟨1, 100⟩, false, 3, 0⟩ ∧
        following.sel.source = .bus 5 ∧ following.servo.source = .bus 5 ∧
        13 ≤ following.sel.standing ∧ following.time.external = false ∧ (8 : Byte) = 7 + 1) ∧
      (OthersBelow following.toStation 3 5 ∧ OthersBelow followingBoth.toStation 3 5 ∧
        CandidateNow followingBoth.toStation 9 6 ∧ followingBoth.sel.cands.map Candidate.slot = [5, 9] ∧
        (let t := after (.frameHandover (beaconFrame 8) false) followingBoth
         t.servo.lastSample = some ⟨300, some 300, .slewed⟩ ∧ t.lane.marks = ⟨false, true, false⟩)) :=
  ⟨by decide, ⟨⟨rfl, rfl, rfl, rfl, by decide, by decide⟩, by decide +kernel, rfl⟩, by decide,
    othersBelow_following, othersBelow_followingBoth, ⟨by decide, by decide, by decide, by decide, by decide⟩,
    by decide, by decide +kernel⟩

/-- R158, R160: the two samples above: −600 ns by the edge, +300 ns by the beacon pair. -/
theorem test_samples_slew :
    ((after (.extPpsEdge false) (announced 1 true)).servo.lastSample =
        some ⟨-600, some (-600), .slewed⟩) ∧
      ((after (.frameHandover (beaconFrame 8) false) following).servo.lastSample =
        some ⟨300, some 300, .slewed⟩) := by decide +kernel

/-- Timers at local time 7, now. -/
def timersAt (now : Nat) : State :=
  { atTime now active with
    lane := { active.lane with domRun := 2000, stuckClear := some 7 }
    servo := { Servo.reset with state := .holdover, holdTimer := some 7, unlocked := .running 7 }
    alarm := { active.alarm with refresh := some 7, stagger := some 7, retry := some 7 }
    port := { active.port with watchdog := .running 7 } }

theorem test_hyp_TimersRaiseTheirAlarms :
    (let s := timersAt 7
     s.hold = false ∧ s.lane.line ≠ .stuck ∧ 2000 ≤ s.lane.domRun ∧ s.lane.stuckClear = some 7 ∧
       s.servo.unlocked = .running 7 ∧ s.servo.state = .holdover ∧ s.servo.holdTimer = some 7 ∧
       s.port.watchdog = .running 7 ∧ 7 ≤ s.localTime ∧ s.sel.cands = [] ∧
       s.time.external = false ∧ s.sel.source = .none) ∧
      (timersAt 6).localTime < 7 ∧ active.lane.domRun < 2000 := by decide

theorem test_hyp_AlarmTimersPlaceTheOwnList :
    (let s := timersAt 7
     s.hold = false ∧ s.alarm.refresh = some 7 ∧ s.alarm.stagger = some 7 ∧
       s.alarm.retry = some 7 ∧ 7 ≤ s.localTime) ∧ (timersAt 6).localTime < 7 := by decide

/-! ### Hypotheses met: the cabinet view -/

theorem firstOf_single (n x : ViewEntry) : FirstOf [n] x ↔ x = n := by
  constructor
  · rintro ⟨before, after, h, -⟩
    cases before with
    | nil => exact (List.cons.inj h).1.symm
    | cons y ys => cases ys <;> cases h
  · rintro rfl
    exact ⟨[], [], rfl, by intro y hy; cases hy⟩

/-- Hearing an ALARM frame of slot 5 with this view and these own entries. -/
def merging (view : List ViewEntry) (own : List AlarmEntry) : State :=
  let s := withPeer present (hearing .active .control)
  { s with alarm := { s.alarm with view := view, own := own, cursor := (view[1]?).map ViewEntry.ident } }

/-- So many warnings of this slot. -/
def warnings (p : Slot) (n : Nat) : List ViewEntry :=
  (List.range n).map fun k => ⟨p, BitVec.ofNat 16 (0x2000 + k), .warning, none, 0, false⟩

/-- An ALARM frame with one entry of this severity. -/
def alarmFrame (sev : Severity) : RxFrame :=
  rxFrame .control 0x50 16 1 (alarmPayload 5 [⟨0x1000, sev, none, 77⟩])

/-- Its entry in the view. -/
def offeredEntry (sev : Severity) : ViewEntry := ⟨5, 0x1000, sev, none, 77, false⟩

/-- ALARM_VIEW_FULL stands. -/
def fullStands : List AlarmEntry := [⟨alarmViewFull, .warning, none, 0⟩]

theorem test_hyp_AlarmFramesMergeIntoTheView :
    (∀ view own sev,
      Hears (merging view own) (keyByte .control 3 5) 5 (alarmFrame sev) (.alarm 5 [⟨0x1000, sev, none, 77⟩])) ∧
      offeredBy 5 [⟨0x1000, .major, none, 77⟩] = [offeredEntry .major] ∧
      FirstOf [offeredEntry .major] (offeredEntry .major) ∧
      (let s := merging (warnings 6 127) []
       s.alarm.has alarmViewFull = false ∧
         (s.alarm.view.filter fun x => x.source != 5).length + 1 ≤ 128) ∧
      (let s := merging (warnings 6 128) fullStands
       s.alarm.has alarmViewFull = true ∧ s.alarm.view.length = 128 ∧
         s.alarm.view = s.alarm.view.dropLast ++ [⟨6, 0x207F, .warning, none, 0, false⟩] ∧
         (∀ x ∈ s.alarm.view, x.ident ≠ (offeredEntry .major).ident) ∧
         (∀ x ∈ s.alarm.view, x.source ≠ 5)) ∧
      (let s := merging (warnings 6 128) []
       s.alarm.has alarmViewFull = false ∧ s.alarm.view.length = 128 ∧
         s.alarm.view = s.alarm.view.dropLast ++ [⟨6, 0x207F, .warning, none, 0, false⟩] ∧
         (∀ x ∈ s.alarm.view, x.ident ≠ (offeredEntry .major).ident) ∧ (∀ x ∈ s.alarm.view, x.source ≠ 5)) ∧
      (let s := merging (warnings 5 7 ++ warnings 6 90) fullStands
       let kept := s.alarm.view.filter fun x =>
         x.source != 5 || [offeredEntry .major].any fun y => decide (y.ident = x.ident)
       s.alarm.has alarmViewFull = true ∧ kept.length < s.alarm.view.length ∧ kept.length ≤ 96 ∧
         kept.length + s.alarm.own.length + 16 + 1 ≤ 128) := by
  refine ⟨fun view own sev => ⟨⟨rfl, rfl, rfl, rfl, by decide, (by decide : (5 : Slot) ≠ 0)⟩, ?_, rfl⟩,
    rfl, (firstOf_single _ _).2 rfl, by decide +kernel, by decide +kernel, by decide +kernel, by decide +kernel⟩
  cases sev <;> decide +kernel

theorem test_hyp_TheViewStaysInOrder :
    (let s := merging (warnings 5 7 ++ warnings 6 90) fullStands
     OwnListBounded s.toStation ∧ ViewBounded s.toStation ∧ ViewOrdered s.toStation ∧
       CursorInView s.toStation) ∧
      (let s := merging (warnings 6 128) []
       OwnListBounded s.toStation ∧ ViewBounded s.toStation ∧ ViewOrdered s.toStation ∧
         CursorInView s.toStation) ∧
      (let s := merging (warnings 6 128) fullStands
       OwnListBounded s.toStation ∧ ViewBounded s.toStation ∧ ViewOrdered s.toStation ∧
         CursorInView s.toStation) ∧
      (let s := merging (warnings 6 127) []
       OwnListBounded s.toStation ∧ ViewBounded s.toStation ∧ ViewOrdered s.toStation ∧
         CursorInView s.toStation) := by
  refine ⟨?_, ?_, ?_, ?_⟩ <;>
    exact ⟨⟨by decide +kernel, by decide +kernel, by decide +kernel, by decide +kernel⟩,
      ⟨by decide +kernel, by decide +kernel⟩, by decide +kernel, by decide +kernel⟩

/-- R180, R181: a full view takes the severer entry in place of its last, keeps the other out, and raises
ALARM_VIEW_FULL; a removal to 91 entries clears it. -/
theorem test_view_full_merges :
    (let t := after (.frameHandover (alarmFrame .major) false) (merging (warnings 6 128) fullStands)
     t.alarm.view.head? = some (offeredEntry .major) ∧ t.alarm.view.length = 128) ∧
      (let t := after (.frameHandover (alarmFrame .warning) false) (merging (warnings 6 128) fullStands)
       t.alarm.view = warnings 6 128) ∧
      ((after (.frameHandover (alarmFrame .warning) false) (merging (warnings 6 128) [])).alarm.own =
        [⟨alarmViewFull, .warning, none, 0⟩]) ∧
      (let t := after (.frameHandover (alarmFrame .major) false)
         (merging (warnings 5 7 ++ warnings 6 90) fullStands)
       t.alarm.own = [] ∧ t.alarm.view.length = 91) := by decide +kernel

/-- An own entry that stands in the view too. -/
def showing : State :=
  { active with
    alarm :=
      { active.alarm with
        own := [⟨0x1000, .minor, none, 0⟩], view := [⟨0, 0x1000, .minor, none, 0, false⟩]
        cursor := some ⟨0, 0x1000, none⟩ } }

theorem test_hyp_MarkersAndOwnEntriesEnterTheView :
    (let s := withPeer present (hearing .active .control)
     Hears s (keyByte .control 3 5) 5 (rxFrame .control 0x43 16 1 [3]) (.leave 3 true .release) ∧
       (s.peer 5).state ≠ .left ∧ s.alarm.markers.get 5 = .none ∧ s.sel.cands = [] ∧
       s.sel.source = .none ∧ s.time.external = false ∧ s.alarm.has alarmViewFull = false ∧
       s.alarm.view.length < 128) ∧
      (let s := withPeer { present with state := .silent } (hearing .active .control)
       let s : State := { s with alarm := { s.alarm with markers := s.alarm.markers.set 5 (.missing 4) } }
       Hears s (keyByte .control 3 5) 5 (rxFrame .control 0x20 16 1 (rollcallPayload 9 4 true 3 200))
           (.rollcall 9 4 true 3 200) ∧
         (s.peer 5).state = .silent ∧ s.alarm.markers.get 5 = .missing 4) ∧
      (Serving showing ∧ 4096 ≤ (0x1001 : Word16).toNat ∧ showing.alarm.has cardUnresponsive = false ∧
        showing.alarm.has alarmViewFull = false ∧ OwnListBounded showing.toStation ∧
        ViewBounded showing.toStation ∧ ViewOrdered showing.toStation ∧ CursorInView showing.toStation ∧
        (∀ e ∈ showing.alarm.own, ownShown showing.toStation e ∈ showing.alarm.view) ∧
        (∀ x ∈ showing.alarm.view, ∃ e ∈ showing.alarm.own, x = ownShown showing.toStation e) ∧
        (∀ e ∈ showing.alarm.own, e.code = 0x1001 → e.subject ≠ none) ∧
        showing.alarm.cardEntries < 22 ∧ showing.alarm.view.length < 128 ∧
        ∃ e ∈ showing.alarm.own, e.code = 0x1000 ∧ e.subject = none) := by
  refine ⟨⟨⟨receiving _ _ _, by decide +kernel, rfl⟩, by decide, by decide, rfl, rfl, rfl, rfl, by decide⟩,
    ⟨⟨⟨rfl, rfl, rfl, rfl, by decide, (by decide : (5 : Slot) ≠ 0)⟩, by decide +kernel, rfl⟩, rfl,
      by decide⟩,
    by decide, by decide, by decide, by decide, ⟨by decide, by decide, by decide, by decide⟩,
    ⟨by decide, by decide⟩, by decide, by decide, by decide, by decide, by decide, by decide, by decide,
    by decide⟩

/-! ### Hypotheses met: the card port -/

/-- R206: the bytes of a SEND, a RAISE and a CONFIGURE, and what they spell. -/
theorem test_request_bytes_written_out :
    decodeRequest 0x02 [0x12, 0x34, 2, 1, 16, 0xAA] = .send 0x1234 2 1 16 [0xAA] ∧
      decodeRequest 0x08 [0x10, 0x00, 0xC3] = .raise 0x1000 3 (some 3) ∧
      decodeRequest 0x09 [0x10, 0x00, 0x10] = .clear 0x1000 none ∧
      decodeRequest 0x06 [4, 0xFF] = .readPeek 0xFF ∧ decodeRequest 0x0B [0, 0, 1, 2] = .externalTime 258 ∧
      decodeRequest 0x01
          [7, 5, 0, 0, 0, 9, 6, 0, 60, 1, 0, 2, 0, 3, 0, 4, 0, 0, 200, 10, 8, 4] =
        .configure ⟨7, true, false, true, 9, 6, 60, 256, 512, 768, 1024, 200, 10, 8, 4⟩ ∧
      decodeRequest 0x05 [5] = .unknownRequest 0x05 [5] ∧ decodeRequest 0x12 [] = .unknownRequest 0x12 [] := by
  decide +kernel

theorem test_hyp_RequestBytesSpellTheirCommand :
    requestBytes (.raise 0x1000 3 (some 3)) = some (0x08, [0x10, 0x00, 0xC3]) ∧
      (isRequest (.raise 0x1000 3 (some 15)) = true ∧ (3 : Byte).toNat < 4 ∧ (15 : Byte).toNat < 16) ∧
      ((0x12 : Byte).toNat > 17 ∧ fixedLength 0x01 = some 22 ∧ [0].length < 5 ∧
        4 < (5 : Byte).toNat ∧ 1 < (2 : Byte).toNat ∧ requestKnown 0x07 [2] = false ∧
        requestKnown 0x05 [1] = false ∧ requestKnown 0x05 [0, 3] = false ∧ requestKnown 0x06 [4] = false ∧
        requestKnown 0x06 [0, 3] = false ∧ requestKnown 0x05 [1, 3] = true) ∧
      (let p := (after .reap active).port
       p.request = some .reap ∧ requestBytes .reap = some (0x04, []) ∧
         p.reply.map Reply.wire = some [0xA5, 3, 0, 0, 0] ∧ Port.reset.reply = none ∧
         (List.range 10).map (p.returned 2) =
           [0xFF, 0xFF, 0xFF, 0x00, 0x00, 0xA5, 3, 0, 0, 0]) := by decide +kernel

/-- A RESTART waits. -/
def restarting : State := { active with port := { active.port with restartPending := true } }

theorem test_hyp_RequestsKeepTheCardAlive :
    (isRequest .reap = true ∧ Serving active ∧ ¬ Serving restarting ∧ ¬ Serving held) ∧
      (let s := { active with port := { active.port with timeout := 1 } }
       s.seat.state = .active ∧ Instr.reap ≠ .release ∧ 0 < s.port.timeout) := by decide

theorem test_hyp_ConfigureEndsConfig :
    (Serving State.reset ∧ State.reset.seat.state = .config ∧ State.reset.servo.state ≠ .locked) ∧
      active.seat.state ≠ .config := by decide

/-- R124: an offset that differs re-aligns the grids, and the boundaries up to the latest count are passed
over; with a mark pending none is. -/
theorem test_configure_realigns :
    let c : ConfigArgs := ⟨3, false, false, false, 12500000, 6, 600, 0, 0, 0, 0, 0, 10, 1, 1⟩
    let s (mark : Bool) : State :=
      { State.reset with time := { TimeBase.reset with sec := 9, lastCount := some 42, resyncFrame := mark } }
    (after (.configure c) (s false)).time.passOver = some 42 ∧
      (after (.configure c) (s true)).time.passOver = none ∧
      (after (.configure c) (s false)).time.resyncSub = true ∧
      (after (.configure c) (s false)).time.sec = 9 := by decide +kernel

/-- In ACTIVE, slot 5 with this state, the queue BULK with this many frames. -/
def bulkFull (n : Nat) : State :=
  { active with sched := { active.sched with bulk := List.replicate n (frame 1) } }

theorem test_hyp_SendIsQueuedOrRefusedInOrder :
    (Serving active ∧ active.seat.state = .active ∧ (2 : Byte).toNat = (cardClass .express).number ∧
        (3 : Byte).toNat = (cardClass .bulk).number ∧ (3 : Byte).toNat ≤ 3 ∧
        (16 : Byte).toNat = Dest.all.number ∧ (15 : Byte).toNat = (Dest.slot 15).number ∧
        (16 : Byte).toNat ≠ active.seat.slot.val ∧ active.toStation.cardAlive.sched.reserved < 48) ∧
      ((bulkFull 31).toStation.cardAlive.sched.bulk.length < 32 ∧
        32 ≤ (bulkFull 32).toStation.cardAlive.sched.bulk.length) ∧
      (let s := { bulkFull 32 with
         sched := { (bulkFull 32).sched with express := List.replicate 16 (frame 1) } }
       48 ≤ s.toStation.cardAlive.sched.reserved) ∧
      ((List.replicate 256 (0 : Byte)).length ≤ 256 ∧ 256 < (List.replicate 257 (0 : Byte)).length) ∧
      (inSeat .leaving).seat.state ≠ .active ∧
      ¬ ((4 : Byte).toNat = 2 ∨ (4 : Byte).toNat = 3) ∧
      ((active.peer 5).state = .absent ∧ (5 : Byte).toNat = (5 : Slot).val) := by decide +kernel

theorem test_hyp_TakeAndReapHandOverTheFront :
    (let s := { active with rx := { Rx.reset with bulk := [arrived] } }
     let u := s.toStation.cardAlive
     Serving s ∧ u.rx.queue .bulk = [arrived] ∧ u.rx.express = [] ∧ u.rx.queue .express = []) ∧
      ((0 : Byte).toNat = 0 ∧ (1 : Byte).toNat = 1 ∧ (2 : Byte).toNat = 2 ∧ 3 ≤ (3 : Byte).toNat) ∧
      (let s := { active with sched := { active.sched with completions := [⟨1, .shed, 0, none⟩] } }
       s.toStation.cardAlive.sched.completions ≠ []) ∧
      active.toStation.cardAlive.sched.completions = [] := by decide +kernel

theorem test_hyp_SetPeriodicWritesOneEntry :
    (Serving active ∧ active.seat.state ≠ .config ∧ (3 : Byte).toNat = (3 : Fin 4).val ∧
        (3 : Byte).toNat ≤ 3 ∧ (16 : Byte).toNat = Dest.all.number ∧
        (16 : Byte).toNat ≠ active.seat.slot.val) ∧
      (State.reset.seat.state = .config ∧ ([] : List Byte).length ≤ 256) ∧
      ¬ (4 : Byte).toNat ≤ 3 ∧ 256 < (List.replicate 257 (0 : Byte)).length := by decide +kernel

theorem test_hyp_ViewsReportAndClearTheirCause :
    Serving active ∧ (15 : Byte).toNat = (15 : Slot).val ∧ (0 : Byte).toNat = active.seat.slot.val ∧
      16 ≤ (16 : Byte).toNat := by decide

/-- Three entries in the view, the cursor on the second. -/
def viewing : State :=
  let e (n : Word16) : ViewEntry := ⟨5, n, .minor, none, 0, false⟩
  { active with
    alarm := { active.alarm with view := [e 0x1000, e 0x1001, e 0x1002], cursor := some (e 0x1001).ident } }

theorem test_hyp_ReadsAndSeeksMoveTheCursor :
    (let e (n : Word16) : ViewEntry := ⟨5, n, .minor, none, 0, false⟩
     let u := viewing.toStation.cardAlive
     Serving viewing ∧ u.alarm.cursor = some (e 0x1001).ident ∧
       u.alarm.view = [e 0x1000] ++ e 0x1001 :: [e 0x1002] ∧
       ∀ x ∈ [e 0x1000], x.ident ≠ (e 0x1001).ident) ∧
      active.toStation.cardAlive.alarm.cursor = none ∧
      (-8 ≤ (0xF8 : Byte).toInt ∧ (8 : Byte).toInt ≤ 8) ∧
      ((0xF7 : Byte).toInt < -8 ∧ 8 < (9 : Byte).toInt) := by decide +kernel

/-- In ACTIVE, with this many card entries in the own list. -/
def ownEntries (n : Nat) : State :=
  { active with
    alarm :=
      { active.alarm with
        own := (List.range n).map fun k => ⟨BitVec.ofNat 16 (0x1000 + k), .minor, none, 0⟩ } }

theorem test_hyp_RaiseAndClearEditTheOwnList :
    (let u := (ownEntries 21).toStation.cardAlive
     Serving (ownEntries 21) ∧ 4096 ≤ (0x2000 : Word16).toNat ∧
       (3 : Byte).toNat = Severity.warning.number ∧
       (some (15 : Byte)).map BitVec.toNat = (some (15 : Slot)).map Fin.val ∧
       (∀ e ∈ u.alarm.own, e.code = 0x2000 → e.subject ≠ some 15) ∧ u.alarm.cardEntries < 22) ∧
      22 ≤ (ownEntries 22).toStation.cardAlive.alarm.cardEntries ∧
      (let u := (ownEntries 1).toStation.cardAlive
       u.alarm.own = [] ++ ⟨0x1000, .minor, none, 0⟩ :: [] ∧ Severity.minor ≠ .warning ∧
         ∀ x ∈ ([] ++ [] : List AlarmEntry), x.code = 0x1000 → x.subject ≠ none) ∧
      ((0x0FFF : Word16).toNat < 4096 ∧ 4 ≤ (4 : Byte).toNat ∧ 16 ≤ (16 : Byte).toNat) := by
  decide +kernel

/-- R172, R173: a CLEAR in a state whose CONTROL is full starts the retry timer; an unwon ALARM frame takes the
list in place. -/
theorem test_own_list_made_known :
    (let s := ownEntries 1
     let s : State := { s with
       alarm := { s.alarm with ownSeq := 255 }
       sched := { s.sched with control := List.replicate 8 (Entry.internal .rollcall []) } }
     let t := after (.clear 0x1000 none) s
     t.alarm.ownSeq = 0 ∧ t.alarm.retry = some 400000 ∧ t.sched.control = s.sched.control) ∧
      (let s := ownEntries 1
       let s : State := { s with sched := { s.sched with control := [Entry.internal .alarm [9]] } }
       let t := after (.raise 0x1000 0 none) s
       Unwon (Entry.internal .alarm [9]) ∧ t.alarm.ownSeq = 1 ∧
         t.sched.control = [Entry.internal .alarm (wireAlarms t.toStation)]) := by decide +kernel

theorem test_hyp_TimeRequestsReportAndAnnounce :
    Serving (announced 1 true) ∧ (announced 1 true).time.external = true ∧
      active.time.external = false ∧ active.servo.state ≠ .holdover ∧
      active.servo.unlocked = .stopped ∧
      (let v := { Servo.reset with state := .holdover, expired := true, unlocked := .expired }
       v.state = .holdover ∧ v.expired = true ∧ v.unlocked = .expired) ∧
      (let v := { Servo.reset with state := .holdover, holdTimer := some 250000000, unlocked := .running 900000000 }
       v.state = .holdover ∧ v.expired = false ∧ v.holdTimer = some 250000000 ∧
         v.unlocked = .running 900000000) ∧
      WithinASecond 2 250000000 ∧ WithinASecond 3 250000000 ∧ ¬ WithinASecond 4 250000000 ∧
      WithinASecond 0 0 ∧ ¬ WithinASecond 1 0 := by
  unfold WithinASecond; decide

theorem test_hyp_ResetRequestsClearTheirBlock :
    Serving active ∧ active.seat.state ≠ .config ∧ State.reset.seat.state = .config ∧
      (let s : State := { active with rx := { active.rx with overrun := true } }
       s.toStation.cardAlive.rx.overrun = true ∧ active.toStation.cardAlive.rx.overrun = false) ∧
      (active.time.external = false ∧ active.servo.state = .free ∧ active.sel.beaconing = .off ∧
        (beaconing .on 7).sel.beaconing = .on) ∧
      (let s : State :=
         { following with toStation := following.toStation.setPeer 5 { following.peer 5 with cls := some 3 } }
       let t := after .resetTiming s
       Serving s ∧ s.sel.source = .bus 5 ∧ t.sel.source = .bus 5 ∧ t.sel.cands.map Candidate.slot = [5] ∧
         t.servo = servoReset s.toStation ∧ t.sel.announced = 15 ∧
         Above 3 5 15 s.seat.slot) ∧
      (let s := announced 1 true
       Serving s ∧ s.time.external = true ∧ s.sel.extPresent = true ∧
         (after .resetTiming s).sel.source = .external) ∧
      (active.toStation.cardAlive.alarm.view.filter fun x => decide (x.source = active.seat.slot)).length +
        active.toStation.cardAlive.alarm.own.length + 16 ≤ 128 ∧
      (let m := active.alarm.markers.set 5 (.missing 3)
       m.get 5 = .missing 3) := by
  refine ⟨?_, ?_, ?_, ?_, ?_, ⟨?_, ?_, ?_, ?_, ?_, ?_, .inl ?_⟩, ?_, ?_, ?_⟩ <;> decide +kernel

/-- R186: RESET VIEW brings the own entries and the synthetic ones back, and clears ALARM_VIEW_FULL. -/
theorem test_reset_view_refills :
    let s := ownEntries 2
    let s : State := { s with
      alarm :=
        { s.alarm with
          own := s.alarm.own ++ [⟨alarmViewFull, .warning, none, 1⟩]
          markers := s.alarm.markers.set 5 (.missing 3) } }
    let t := after .resetView s
    t.alarm.has alarmViewFull = false ∧
      t.alarm.view.map ViewEntry.code = [cardMissing, 0x1000, 0x1001] := by decide +kernel

/-! ### Hypotheses met: the invariants, in states other than the reset -/

theorem test_hyp_TimeRatesSeatAndReceiveStayInRange :
    TimeInRange beforeBoundary.toStation ∧ RatesBounded following.toStation ∧
      PinsDriven (timersAt 7).toStation.drive ∧ PinsDriven held.toStation ∧
      SeatCounts (leaving 7).toStation ∧ SourcePresent following.toStation ∧
      BeaconsOnlyWhenAllowed (beaconing .on 7).toStation ∧ RxBounded following.toStation := by
  refine ⟨by decide, by decide, by decide +kernel, by decide, by decide, ⟨rfl, ?_⟩, ?_, by decide⟩
  · intro p hp
    cases hp
    exact ⟨rfl, rfl⟩
  · exact fun _ _ => rfl

theorem test_hyp_QueuesStayBounded : QueuesBounded contending.toStation where
  timing := by decide
  control := by decide
  express := by decide
  bulk := by decide
  reserved := by decide
  internal := by decide
  lane := by
    intro _ q
    refine ⟨by cases q <;> decide, fun h => ⟨itsAttempt .contending, rfl, ?_⟩⟩
    cases q <;> first | rfl | cases h
  offered := fun h => by cases h

theorem test_hyp_AlarmListsStayBounded :
    OwnListBounded (ownEntries 22).toStation ∧ ViewBounded viewing.toStation :=
  ⟨⟨by decide +kernel, by decide +kernel, by decide +kernel, by decide +kernel⟩,
    ⟨by decide +kernel, by decide +kernel⟩⟩

end Sys2Proof.Tests
end

section
/-! SUPPORT. Keys and their contention (R4, R6), the head with which a station contends (R5, R69), and the statement
about the rank of keys. -/

open Sys2Proof Sys2Proof.Machine Sys2Proof.Slice0

namespace Sys2Proof.Machine

/-! ### The key as a number (R4, R204) -/

theorem FrameClass.number_le (q : FrameClass) : q.number ≤ 3 := by cases q <;> decide

@[simp] theorem FrameClass.number_inj {q r : FrameClass} : q.number = r.number ↔ q = r := by
  cases q <;> cases r <;> decide

/-- R4: the key's value, which a patience of at most 3 keeps within a byte. -/
theorem keyByte_toNat (q : FrameClass) {p : Nat} (slot : Slot) (hp : p ≤ 3) :
    (keyByte q p slot).toNat = 64 * q.number + 16 * p + slot.val := by
  have hq := q.number_le
  have hs := slot.isLt
  have fits : 64 * q.number + 16 * p + slot.val < 256 := by omega
  exact Nat.mod_eq_of_lt fits

theorem keyClass_keyByte (q : FrameClass) {p : Nat} (slot : Slot) (hp : p ≤ 3) :
    keyClass (keyByte q p slot) = q := by
  have hs := slot.isLt
  have bits : (keyByte q p slot).toNat / 64 = q.number := by
    rw [keyByte_toNat q slot hp]
    omega
  unfold keyClass
  rw [bits]
  cases q <;> rfl

theorem keySlot_keyByte (q : FrameClass) {p : Nat} (slot : Slot) (hp : p ≤ 3) :
    keySlot (keyByte q p slot) = slot := by
  have hs := slot.isLt
  apply Fin.ext
  change (keyByte q p slot).toNat % 16 = slot.val
  rw [keyByte_toNat q slot hp]
  omega

/-- R4: the order of keys is that of class, patience and slot, the first the heaviest. -/
theorem keyByte_lt_iff (q q' : FrameClass) {p p' : Nat} (slot slot' : Slot) (hp : p ≤ 3) (hp' : p' ≤ 3) :
    (keyByte q p slot).toNat < (keyByte q' p' slot').toNat ↔
      q.number < q'.number ∨ q = q' ∧ (p < p' ∨ p = p' ∧ slot < slot') := by
  have hs := slot.isLt
  have hs' := slot'.isLt
  rw [keyByte_toNat q slot hp, keyByte_toNat q' slot' hp', ← FrameClass.number_inj, Fin.lt_def]
  omega

/-- R4: keys of different slots differ, since a key tells its slot. -/
theorem keyByte_ne_of_slot_ne (q q' : FrameClass) {p p' : Nat} {slot slot' : Slot} (hp : p ≤ 3)
    (hp' : p' ≤ 3) (h : slot ≠ slot') : keyByte q p slot ≠ keyByte q' p' slot' := fun same =>
  h <| calc
    slot = keySlot (keyByte q p slot) := (keySlot_keyByte q slot hp).symm
    _ = keySlot (keyByte q' p' slot') := by rw [same]
    _ = slot' := keySlot_keyByte q' slot' hp'

/-! ### Contention (R6) -/

/-- R1: the bits of a byte as sent spell the byte, the first the most significant. -/
theorem ofBoolListBE_bitsOf (b : Byte) : (BitVec.ofBoolListBE (bitsOf b)).toNat = b.toNat := by
  have hb := b.isLt
  simp only [bitsOf, BitVec.ofBoolListBE, BitVec.toNat_cons', BitVec.getLsbD, Nat.toNat_testBit,
    Nat.shiftLeft_eq, List.length_cons, List.length_nil, BitVec.toNat_ofNat]
  omega

theorem contendBits_self (l : List Bool) : contendBits l l = none := by
  induction l with
  | nil => rfl
  | cons b l ih => simpa [contendBits] using ih

/-- R6: bits that spell the higher number lose: at the first bit that differs the own one is 1. -/
theorem contendBits_eq_lost_of_lt {own lane : List Bool} (hlen : own.length = lane.length)
    (hlt : (BitVec.ofBoolListBE lane).toNat < (BitVec.ofBoolListBE own).toNat) :
    contendBits own lane = some .lost := by
  induction own generalizing lane with
  | nil =>
    cases lane with
    | nil => exact absurd hlt (lt_irrefl _)
    | cons _ _ => cases hlen
  | cons o own ih =>
    cases lane with
    | nil => cases hlen
    | cons b lane =>
      have hlen' : own.length = lane.length := Nat.succ.inj hlen
      simp only [BitVec.ofBoolListBE, BitVec.toNat_cons', Nat.shiftLeft_eq, hlen'] at hlt
      by_cases hob : o = b
      · subst hob
        simpa [contendBits] using ih hlen' (Nat.add_lt_add_iff_left.mp hlt)
      · have ownBit : o = true := by
          have hown : (BitVec.ofBoolListBE own).toNat < 2 ^ lane.length :=
            hlen' ▸ (BitVec.ofBoolListBE own).isLt
          cases o with
          | true => rfl
          | false =>
            have laneBit : b = true := by simpa using hob
            simp only [laneBit, Bool.toNat_true, Bool.toNat_false] at hlt
            omega
        rw [contendBits, if_neg hob, if_pos ownBit]

/-- R6: a key read back as it was sent is won. -/
theorem contend_self (a : Byte) : contend a a = none := contendBits_self _

/-- R4, R6: against a lower key on the lane the own key is lost. -/
theorem contend_eq_lost_of_lt {own lane : Byte} (h : lane.toNat < own.toNat) :
    contend own lane = some .lost :=
  contendBits_eq_lost_of_lt rfl (by rwa [ofBoolListBE_bitsOf, ofBoolListBE_bitsOf])

/-! ### The head with which a station contends (R5, R69) -/

/-- R26: the classes that may contend in each seat state. -/
theorem transmitPermits_iff (state : SeatState) (q : FrameClass) :
    transmitPermits state q = true ↔ state = .active ∨ state = .leaving ∨ state = .joining ∧ q = .control := by
  cases state <;> simp [transmitPermits]

/-- R36, R69: a card class may contend in ACTIVE, and in LEAVING until the LEAVE has been placed. -/
theorem Seat.cardMayContend_iff (c : Seat) :
    (c.state = .active ∨ c.state = .leaving) ∧ c.leaveIsPlaced = false ↔
      c.state = .active ∨ c.state = .leaving ∧ c.leavePlaced = false := by
  cases h : c.state <;> simp [Seat.leaveIsPlaced, h]

/-- R69: the model's test of a head is the rule. -/
theorem Station.headEligible_iff_mayGo {u : Station} {q : FrameClass} {e : Entry} {rest : List Entry}
    (hq : u.sched.queue q = e :: rest) : u.headEligible q = true ↔ MayGo u q e := by
  unfold Station.headEligible MayGo
  simp only [hq, Bool.and_eq_true, Bool.not_eq_true', transmitPermits_iff]
  cases q with
  | timing => simp [Station.cardQueueHeld, Share.permits, and_comm]
  | control =>
    simp only [Station.cardQueueHeld, Share.permits]
    tauto
  | express =>
    simp only [← Seat.cardMayContend_iff, Station.cardQueueHeld, Share.permits, Bool.or_eq_false_iff,
      Bool.or_eq_true, decide_eq_true_eq, Option.isSome_eq_false_iff, Option.isNone_iff_eq_none]
    tauto
  | bulk =>
    simp only [← Seat.cardMayContend_iff, Station.cardQueueHeld, Share.permits, Bool.or_eq_false_iff,
      Bool.and_eq_true, decide_eq_true_eq, Option.isSome_eq_false_iff, Option.isNone_iff_eq_none]
    tauto

/-- R5: an offer whose head may go is contended with. -/
theorem Station.contender_of_mayGo {u : Station} {q : FrameClass} {e : Entry} {rest : List Entry}
    (ho : u.sched.offer = some q) (hq : u.sched.queue q = e :: rest) (hgo : MayGo u q e) :
    u.contender = some (q, e) := by
  simp [Station.contender, ho, hq, (Station.headEligible_iff_mayGo hq).mpr hgo]

/-- R5, R8: the attempt that a contender begins at a start mark. -/
theorem Station.startMark_attempt {u : Station} {q : FrameClass} {e : Entry}
    (h : u.contender = some (q, e)) :
    u.startMark.lane.attempt = some (Attempt.begun q e u.seat.slot) := by
  simp [Station.startMark, h]

/-- R2, R5: the lane after a start mark on the open lane. -/
theorem exec_startMark_lane {s : State} (hh : s.hold = false) (hl : s.lane.line = .opened) :
    ∃ t, exec .startMark s = .next t ∧ t.lane = s.toStation.startMark.lane := by
  have closed : offerEvent (fun t => t.lane.line = .opened) Station.startMark s.toStation =
      s.toStation.startMark.renewOffer.drive :=
    offerEvent_due _ _ _ hh (decide_eq_true hl)
  refine ⟨{ s with toStation := s.toStation.startMark.renewOffer.drive }, ?_, ?_⟩
  · calc exec .startMark s
        = s.run (offerEvent (fun t => t.lane.line = .opened) Station.startMark) := rfl
      _ = _ := by rw [State.run_eq, closed]
  · exact (Station.renewOffer_spec _).1.lane

end Sys2Proof.Machine

namespace Sys2Proof.Slice0

/-- Settles O20: a key as a number gives its class, slot and rank; contention goes by that number; the key of
an attempt is that of the head which the start mark puts on the lane. -/
theorem keysRankByClassPatienceSlot : Obligations.KeysRankByClassPatienceSlot := by
  refine ⟨fun q p slot hp => ?_, fun q q' p p' slot slot' hp hp' => ?_, fun a b => ?_,
    fun s q e rest hh hl ho hq hgo => ?_⟩
  · exact ⟨keyByte_toNat q slot hp, keyClass_keyByte q slot hp, keySlot_keyByte q slot hp⟩
  · exact ⟨keyByte_lt_iff q q' slot slot' hp hp', keyByte_ne_of_slot_ne q q' hp hp'⟩
  · exact ⟨contend_self a, contend_eq_lost_of_lt⟩
  · obtain ⟨t, hexec, hlane⟩ := exec_startMark_lane hh hl
    refine ⟨t, hexec, ?_⟩
    rw [hlane, Station.startMark_attempt (Station.contender_of_mayGo ho hq hgo)]
    rfl

end Sys2Proof.Slice0
end

section
/-! SUPPORT. The budget window (R91 to R95): what a window start fixes, which of the station's operations leave the
share alone, and the statement that nothing but a window start and a reset moves the level, the tier limit or the
budget. -/

open Sys2Proof Sys2Proof.Machine Sys2Proof.Slice0

namespace Sys2Proof.Machine

/-! ### A window start (R91 to R93) -/

theorem levelOf_le (busy256 : Nat) : levelOf busy256 ≤ 3 := by
  unfold levelOf
  repeat' split
  all_goals omega

/-- R92: the measurement keeps a level in its range, in a short window too. -/
theorem Share.measure_level_le (h : Share) (busyBt windowBt : Nat) (hl : h.level ≤ 3) :
    (h.measure busyBt windowBt).level ≤ 3 := by
  unfold Share.measure
  split
  · exact levelOf_le _
  · exact hl

theorem Share.measure_target (h : Share) (busyBt windowBt k : Nat) :
    (h.measure busyBt windowBt).target k = h.target k := by
  unfold Share.measure
  split <;> rfl

theorem Share.windowStart_level (h : Share) (busyBt windowBt : Nat) :
    (h.windowStart busyBt windowBt).level = (h.measure busyBt windowBt).level := rfl

theorem Share.windowStart_tierLimit (h : Share) (busyBt windowBt : Nat) :
    (h.windowStart busyBt windowBt).tierLimit = 3 - (h.windowStart busyBt windowBt).level := rfl

theorem Share.windowStart_budget (h : Share) (busyBt windowBt : Nat) :
    (h.windowStart busyBt windowBt).budget = h.target (3 - (h.windowStart busyBt windowBt).level) :=
  h.measure_target busyBt windowBt _

/-! ### What a window start fixes -/

/-- R93: the level with the tier limit and the budget that follow it. -/
def Share.terms (h : Share) : Nat × Nat × Nat := (h.level, h.tierLimit, h.budget)

theorem Share.terms_eq_iff {g h : Share} :
    g.terms = h.terms ↔ g.level = h.level ∧ g.tierLimit = h.tierLimit ∧ g.budget = h.budget := by
  simp [Share.terms]

/-- R95: a charge moves the counters alone. -/
@[simp] theorem Share.charge_terms (h : Share) (q : FrameClass) (n : Nat) :
    (h.charge q n).terms = h.terms := by cases q <;> rfl

/-! ### The share under the alarm unit -/

@[simp] theorem Station.placeAlarmIfPermitted_share (s : Station) :
    s.placeAlarmIfPermitted.share = s.share := s.placeAlarmIfPermitted_frame.share

@[simp] theorem Station.changeOwn_share (s : Station) (l : List AlarmEntry) :
    (s.changeOwn l).share = s.share := (s.changeOwn_frame l).share

@[simp] theorem Station.raiseInternal_share (s : Station) (code : Word16) :
    (s.raiseInternal code).share = s.share := (s.raiseInternal_frame code).share

@[simp] theorem Station.clearInternal_share (s : Station) (code : Word16) :
    (s.clearInternal code).share = s.share := (s.clearInternal_frame code).share

@[simp] theorem Station.keepTalker_share (s : Station) : s.keepTalker.share = s.share :=
  s.keepTalker_frame.share

@[simp] theorem Station.mergePeer_share (s : Station) (p : Slot) : (s.mergePeer p).share = s.share :=
  (s.mergePeer_frame p).share

@[simp] theorem Station.markMissing_share (s : Station) (p : Slot) : (s.markMissing p).share = s.share :=
  (s.markMissing_frame p).share

@[simp] theorem Station.unmarkRemoved_share (s : Station) (p : Slot) :
    (s.unmarkRemoved p).share = s.share := (s.unmarkRemoved_frame p).share

@[simp] theorem Station.markRemoved_share (s : Station) (p : Slot) : (s.markRemoved p).share = s.share :=
  (s.markRemoved_frame p).share

@[simp] theorem Station.unmarkMissing_share (s : Station) (p : Slot) :
    (s.unmarkMissing p).share = s.share := (s.unmarkMissing_frame p).share

@[simp] theorem Station.unmark_share (s : Station) (p : Slot) : (s.unmark p).share = s.share :=
  (s.unmark_frame p).share

@[simp] theorem Station.startStagger_share (s : Station) : s.startStagger.share = s.share :=
  s.startStagger_frame.share

@[simp] theorem Station.resetView_share (s : Station) : s.resetView.share = s.share :=
  s.resetView_frame.share

/-! ### The share under the servo and the selector -/

/-- Operations one after another that each leave the share alone. -/
theorem foldl_share {α : Type} (f : Station → α → Station) (hf : ∀ s a, (f s a).share = s.share)
    (l : List α) (s : Station) : (l.foldl f s).share = s.share := by
  induction l generalizing s with
  | nil => rfl
  | cons a l ih => exact (ih _).trans (hf s a)

@[simp] theorem Station.voidStamps_share (s : Station) : s.voidStamps.share = s.share := by
  unfold Station.voidStamps
  exact foldl_share _ (fun u p => u.setPeer_share p _) _ s

@[simp] theorem Station.stepTime_share (s : Station) (d : Int) : (s.stepTime d).share = s.share := by
  simp [Station.stepTime]

@[simp] theorem Station.setServoState_share (s : Station) (state : ServoState) :
    (s.setServoState state).share = s.share := (s.setServoState_frame state).share

@[simp] theorem Station.startUnlockedIfLocked_share (s : Station) :
    s.startUnlockedIfLocked.share = s.share := s.startUnlockedIfLocked_frame.share

@[simp] theorem Station.expireHoldover_share (s : Station) : s.expireHoldover.share = s.share :=
  s.expireHoldover_frame.share

@[simp] theorem Station.countSample_share (s : Station) (e : Int) : (s.countSample e).share = s.share :=
  (s.countSample_frame e).share

@[simp] theorem Station.clearOffsetHigh_share (s : Station) (e : Int) :
    (s.clearOffsetHigh e).share = s.share := by
  unfold Station.clearOffsetHigh
  split <;> simp

@[simp] theorem Station.slewSample_share (s : Station) (f d : Int) (deferred : Bool) :
    (s.slewSample f d deferred).share = s.share := by
  simp [Station.slewSample]

@[simp] theorem Station.deferStep_share (s : Station) (f d : Int) : (s.deferStep f d).share = s.share := by
  unfold Station.deferStep
  dsimp only
  split <;> simp

@[simp] theorem Station.takeStep_share (s : Station) (d : Int) : (s.takeStep d).share = s.share := by
  simp [Station.takeStep]

@[simp] theorem Station.judgeSample_share (s : Station) (f d : Int) (air : Bool) :
    (s.judgeSample f d air).share = s.share := by
  unfold Station.judgeSample
  dsimp only
  split
  · split <;> simp
  · simp

@[simp] theorem Station.busSample_share (s : Station) (p : Slot) (previous : Option Stamp) (stepped : Bool)
    (seq : Byte) (record : Option BeaconRec) (air : Bool) :
    (s.busSample p previous stepped seq record air).share = s.share := by
  unfold Station.busSample
  split <;> simp

@[simp] theorem Station.discardStale_share (s : Station) : s.discardStale.share = s.share := by
  unfold Station.discardStale
  split
  · split <;> rfl
  · rfl

@[simp] theorem Station.externalSample_share (s : Station) (second : Nat) (air : Bool) :
    (s.externalSample second air).share = s.share := by
  unfold Station.externalSample
  split <;> simp

@[simp] theorem Station.resetServo_share (s : Station) : s.resetServo.share = s.share := by
  simp [Station.resetServo]

@[simp] theorem Station.reviews_share (s : Station) (events : Nat) : (s.reviews events).share = s.share :=
  (s.reviews_frame events).share

theorem Station.thenReviews_share (f : Station → Station) (hf : ∀ s, (f s).share = s.share) (s : Station) :
    (s.thenReviews f).share = s.share := by
  simp [Station.thenReviews, hf]

/-! ### The share under the seat controller and the scheduler -/

@[simp] theorem Station.flushSlot_share (s : Station) (p : Slot) : (s.flushSlot p).share = s.share :=
  (s.flushSlot_queueFrame p).share

@[simp] theorem Station.flushCards_share (s : Station) : s.flushCards.share = s.share :=
  s.flushCards_queueFrame.share

@[simp] theorem Station.renewOffer_share (s : Station) : s.renewOffer.share = s.share :=
  s.renewOffer_spec.1.share

@[simp] theorem Station.applyFate_share (s : Station) (q : FrameClass) (f : Option Fate) :
    (s.applyFate q f).share = s.share := (s.applyFate_queueFrame q f).share

@[simp] theorem Station.setMissed_share (s : Station) (i : Fin 4) : (s.setMissed i).share = s.share :=
  (s.setMissed_queueFrame i).share

theorem Station.releaseEntry_share (count : Nat) (s : Station) (i : Fin 4) :
    (s.releaseEntry count i).share = s.share := by
  unfold Station.releaseEntry
  dsimp only
  split
  · split <;> simp
  · rfl

@[simp] theorem Station.releasePeriodic_share (s : Station) (count : Nat) :
    (s.releasePeriodic count).share = s.share :=
  foldl_share _ (Station.releaseEntry_share count) _ s

@[simp] theorem Station.readbackClean_share (s : Station) : s.readbackClean.share = s.share :=
  s.readbackClean_frame.share

@[simp] theorem Station.enterSeat_share (s : Station) (new : SeatState) : (s.enterSeat new).share = s.share :=
  (s.enterSeat_frame new).share

@[simp] theorem Station.enterListen_share (s : Station) : s.enterListen.share = s.share :=
  s.enterSeat_share .listen

@[simp] theorem Station.placeAtHead_share (s : Station) (kind : FrameKind) :
    (s.placeAtHead kind).share = s.share := (s.placeAtHead_frame kind).share

@[simp] theorem Station.enterJoining_share (s : Station) : s.enterJoining.share = s.share := by
  simp [Station.enterJoining]

@[simp] theorem Station.enterLeaving_share (s : Station) (reason : LeaveReason) :
    (s.enterLeaving reason).share = s.share := by
  simp [Station.enterLeaving]

@[simp] theorem Station.placeLeave_share (s : Station) : s.placeLeave.share = s.share := by
  simp [Station.placeLeave]

@[simp] theorem Station.enterClashed_share (s : Station) : s.enterClashed.share = s.share := by
  simp [Station.enterClashed]

@[simp] theorem Station.readbackMismatch_share (s : Station) : s.readbackMismatch.share = s.share := by
  unfold Station.readbackMismatch
  dsimp only
  split
  · split <;> simp
  · rfl

@[simp] theorem Station.ownKeyHeard_share (s : Station) : s.ownKeyHeard.share = s.share := by
  unfold Station.ownKeyHeard
  split <;> simp

@[simp] theorem Station.joinDelivered_share (s : Station) : s.joinDelivered.share = s.share := by
  simp [Station.joinDelivered]

@[simp] theorem Station.joinFlawed_share (s : Station) : s.joinFlawed.share = s.share := by
  simp [Station.joinFlawed]

/-- R75: what the owner of a frame does at its end, kind by kind. -/
@[simp] theorem Station.tellOwner_share (s : Station) (e : Entry) (o : FrameOutcome) :
    (s.tellOwner e o).share = s.share := by
  unfold Station.tellOwner
  split
  · split
    · rfl
    · split <;> simp
  · split <;> simp
  · rfl
  · split <;> rfl
  all_goals rfl

@[simp] theorem Station.handResult_share (s : Station) (a : Attempt) (r : AttemptEnd) :
    (s.handResult a r).share = s.share := by
  unfold Station.handResult
  dsimp only
  split <;> simp

/-! ### The share under the roster and the receive filter -/

theorem eitherOrder_share (f g : Station → Station) (hf : ∀ s, (f s).share = s.share)
    (hg : ∀ s, (g s).share = s.share) (s : Station) : (eitherOrder f g s).share = s.share := by
  rcases eitherOrder_cases f g s with h | h <;> simp [h, hf, hg]

@[simp] theorem Station.notifyPresent_share (s : Station) (p : Slot) :
    (s.notifyPresent p).share = s.share := by
  simp [Station.notifyPresent]

@[simp] theorem Station.dropAndReview_share (s : Station) (p : Slot) :
    (s.dropAndReview p).share = s.share := by
  simp [Station.dropAndReview]

@[simp] theorem Station.notifySilent_share (s : Station) (p : Slot) :
    (s.notifySilent p).share = s.share := by
  simp [Station.notifySilent]

@[simp] theorem Station.notifyAbsent_share (s : Station) (p : Slot) (missing : Bool) :
    (s.notifyAbsent p missing).share = s.share := by
  unfold Station.notifyAbsent bothNotices
  rw [eitherOrder_share _ _ (fun u => u.mergePeer_share p) (fun _ => by cases missing <;> simp)]
  simp

@[simp] theorem Station.recordHandover_share (s : Station) (p : Slot) (handover : Bool) :
    (s.recordHandover p handover).share = s.share := by
  cases handover <;> rfl

@[simp] theorem Station.notifyLeft_share (s : Station) (p : Slot) (handover : Bool) :
    (s.notifyLeft p handover).share = s.share := by
  unfold Station.notifyLeft bothNotices
  rw [eitherOrder_share _ _ (fun u => u.mergePeer_share p) (fun u => u.markRemoved_share p)]
  simp

@[simp] theorem Station.notifyJoined_share (s : Station) (p : Slot) (setChanged : Bool) :
    (s.notifyJoined p setChanged).share = s.share := by
  unfold Station.notifyJoined bothNotices
  rw [eitherOrder_share _ _ (fun _ => by simp) (fun _ => by cases setChanged <;> simp)]
  simp

@[simp] theorem Station.settle_share (s : Station) (p : Slot) : (s.settle p).share = s.share := by
  unfold Station.settle
  dsimp only
  split <;> simp

@[simp] theorem Station.candidateFollows_share (s : Station) (p : Slot) :
    (s.candidateFollows p).share = s.share := by
  unfold Station.candidateFollows
  dsimp only
  split <;> simp

@[simp] theorem Station.takeRollcall_share (s : Station) (p : Slot) (cardType : Byte) (cls : Nat)
    (cardOk : Bool) (generation listSeq : Byte) :
    (s.takeRollcall p cardType cls cardOk generation listSeq).share = s.share := by
  unfold Station.takeRollcall
  dsimp only
  split <;> simp

/-- R153: in either order of the review and the sample. -/
@[simp] theorem Station.takeBeacon_share (s : Station) (p : Slot) (seq : Byte) (cls : Nat)
    (previous : Option Stamp) (stepped : Bool) (stamp : RxStamp) (air : Bool) :
    (s.takeBeacon p seq cls previous stepped stamp air).share = s.share := by
  have review (u : Station) : ((u.renewCandidate p).reviews 1).share = u.share := by simp
  have sample (u : Station) :
      (u.thenReviews fun v => v.busSample p previous stepped seq (s.peer p).beacon air).share = u.share :=
    Station.thenReviews_share _ (fun v => v.busSample_share _ _ _ _ _ _) u
  unfold Station.takeBeacon
  dsimp only
  split
  · exact eitherOrder_share _ _ review sample _
  · exact (sample _).trans (review _)

/-- R47: the effect of a frame heard, kind by kind. -/
@[simp] theorem Station.takeKind_share (s : Station) (p : Slot) (seq : Byte) (c : Content) (stamp : RxStamp)
    (air : Bool) : (s.takeKind p seq c stamp air).share = s.share := by
  cases c with
  | beacon cls previous stepped => exact s.takeBeacon_share _ _ _ _ _ _ _
  | rollcall cardType cls cardOk generation listSeq => exact s.takeRollcall_share _ _ _ _ _ _
  | join generation cardType cls cardOk cause first => exact Station.notifyJoined_share _ _ _
  | leave generation handover reason => exact Station.notifyLeft_share _ _ _
  | alarm listSeq entries => exact Station.mergePeer_share _ _
  | data tier => rfl

@[simp] theorem Station.beginBar_share (s : Station) (p : Slot) : (s.beginBar p).share = s.share := by
  simp [Station.beginBar]

@[simp] theorem Station.countFlaw_share (s : Station) (p : Slot) : (s.countFlaw p).share = s.share := by
  unfold Station.countFlaw
  dsimp only
  split
  · rfl
  · split <;> simp

@[simp] theorem Station.rosterTakes_share (s : Station) (p : Slot) (seq : Byte) (c : Option Content)
    (stamp : RxStamp) (air : Bool) : (s.rosterTakes p seq c stamp air).share = s.share := by
  cases c with
  | none => exact s.countFlaw_share p
  | some c =>
    unfold Station.rosterTakes
    dsimp only
    split <;> simp

@[simp] theorem Station.overrun_share (s : Station) : s.overrun.share = s.share := by
  unfold Station.overrun
  split <;> simp

@[simp] theorem Station.clearOverrun_share (s : Station) : s.clearOverrun.share = s.share := by
  unfold Station.clearOverrun
  split <;> simp

@[simp] theorem Station.filterTakes_share (s : Station) (key : Byte) (f : RxFrame) (c : Option Content)
    (stamp : RxStamp) : (s.filterTakes key f c stamp).share = s.share := by
  unfold Station.filterTakes
  split
  · rfl
  · split <;> simp
  all_goals rfl

@[simp] theorem Station.handOver_share (s : Station) (key : Byte) (f : RxFrame) (stamp : RxStamp)
    (air : Bool) : (s.handOver key f stamp air).share = s.share := by
  simp [Station.handOver]

/-! ### The share under the lane's events -/

theorem Station.startMark_share (s : Station) : s.startMark.share = s.share := by
  unfold Station.startMark
  dsimp only
  split <;> simp

@[simp] theorem Station.tellWon_share (s : Station) (e : Entry) (start : RxStamp) :
    (s.tellWon e start).share = s.share := by
  unfold Station.tellWon
  split
  · rfl
  · split <;> rfl
  all_goals rfl

/-- R95: a key won charges the share, unless its window has ended. -/
theorem Station.winKey_share (s : Station) (a : Attempt) (e : Entry) :
    (s.winKey a e).share =
      if a.windowEnded then s.share else s.share.charge a.queue (s.payloadOf e).length := by
  simp [Station.winKey, Station.restartSilence]

@[simp] theorem Station.winKey_terms (s : Station) (a : Attempt) (e : Entry) :
    (s.winKey a e).share.terms = s.share.terms := by
  rw [Station.winKey_share]
  split <;> simp

@[simp] theorem Station.judgeKey_share (s : Station) (lane : Byte) : (s.judgeKey lane).share = s.share := by
  unfold Station.judgeKey
  split <;> simp

@[simp] theorem Station.contenderKey_terms (s : Station) (a : Attempt) (lane : Byte) :
    (s.contenderKey a lane).share.terms = s.share.terms := by
  unfold Station.contenderKey
  split
  · split <;> simp
  all_goals simp

theorem Station.keyComplete_terms (lane : Byte) (s : Station) :
    (s.keyComplete lane).share.terms = s.share.terms := by
  unfold Station.keyComplete
  dsimp only
  split
  · split <;> simp
  · simp

theorem Station.readbackFails_share (s : Station) : s.readbackFails.share = s.share := by
  simp [Station.readbackFails]

theorem Station.frameHandover_share (f : RxFrame) (air : Bool) (s : Station) :
    (s.frameHandover f air).share = s.share := by
  unfold Station.frameHandover
  split
  · split <;> simp
  · rfl

theorem Station.attemptResult_share (flaw taken refused : Bool) (s : Station) :
    (s.attemptResult flaw taken refused).share = s.share := by
  unfold Station.attemptResult
  dsimp only
  split
  · rw [Station.handResult_share]
    split <;> simp
  · rfl

/-! ### The share under the pins, the strobes and the local timers -/

theorem Station.latchOpened_share (s : Station) : s.latchOpened.share = s.share := by
  unfold Station.latchOpened
  split <;> simp

theorem Station.latchClosed_share (s : Station) : s.latchClosed.share = s.share := by
  simp [Station.latchClosed]

theorem Station.ppsEdge_share (air : Bool) (s : Station) : (s.ppsEdge air).share = s.share := by
  unfold Station.ppsEdge Station.edgePairs
  split
  · split
    · exact Station.thenReviews_share _ (fun u => u.externalSample_share _ air) _
    · simp [Station.reportExternal]
  · simp

theorem Station.frameStrobe_share (s : Station) : s.frameStrobe.share = s.share := by
  unfold Station.frameStrobe
  dsimp only
  split <;> simp

theorem Station.fallSilent_share (p : Slot) (s : Station) : (s.fallSilent p).share = s.share := by
  simp [Station.fallSilent]

theorem Station.becomeAbsent_share (missing : Bool) (p : Slot) (s : Station) :
    (s.becomeAbsent missing p).share = s.share := by
  simp [Station.becomeAbsent]

theorem Station.endBar_share (p : Slot) (s : Station) : (s.endBar p).share = s.share := by
  simp [Station.endBar]

theorem Station.silenceExpires_share (s : Station) : s.silenceExpires.share = s.share := by
  unfold Station.silenceExpires
  dsimp only
  split <;> rfl

/-! ### The share under the card port -/

@[simp] theorem Station.cardAlive_share (s : Station) : s.cardAlive.share = s.share :=
  s.cardAlive_frame.1.share

@[simp] theorem Station.refuse_share (s : Station) (r : Result) : (s.refuse r).1.share = s.share := rfl

@[simp] theorem Station.answer_share (s : Station) (body : Body) : (s.answer body).1.share = s.share := rfl

@[simp] theorem Station.answerOffer_share (s : Station) (body : Body) :
    (s.answerOffer body).1.share = s.share := s.renewOffer_share

/-- R90: CONFIGURE brings tier targets, of which the next window start takes its budget. -/
theorem Station.takeConfig_terms (s : Station) (h : ConfigHeld) :
    (s.takeConfig h).share.terms = s.share.terms := rfl

@[simp] theorem Station.leaveConfig_share (s : Station) : s.leaveConfig.share = s.share := by
  unfold Station.leaveConfig
  split <;> simp

@[simp] theorem Station.startUnlockedUnlessLocked_share (s : Station) :
    s.startUnlockedUnlessLocked.share = s.share := by
  unfold Station.startUnlockedUnlessLocked
  split <;> simp

theorem Station.configure_terms (c : ConfigArgs) (s : Station) :
    (s.configure c).1.share.terms = s.share.terms := by
  unfold Station.configure
  dsimp only
  split
  · rfl
  · simp [Station.takeConfig_terms]

@[simp] theorem Station.placeSend_share (s : Station) (q : CardQueue) (d : Dest) (tier : Nat) (tag : Word16)
    (payload : List Byte) : (s.placeSend q d tier tag payload).1.share = s.share := by
  unfold Station.placeSend
  dsimp only
  repeat' split
  all_goals simp

theorem Station.send_share (tag : Word16) (cls tier dest : Byte) (payload : List Byte) (s : Station) :
    (s.send tag cls tier dest payload).1.share = s.share := by
  unfold Station.send
  repeat' split
  all_goals simp

theorem Station.take_share (selector : Byte) (s : Station) : (s.take selector).1.share = s.share := by
  unfold Station.take
  repeat' split
  all_goals simp

theorem Station.reap_share (s : Station) : s.reap.1.share = s.share := by
  unfold Station.reap
  split <;> rfl

theorem Station.setPeriodic_share (index skip phase dest tier : Byte) (payload : List Byte) (s : Station) :
    (s.setPeriodic index skip phase dest tier payload).1.share = s.share := by
  unfold Station.setPeriodic
  repeat' split
  all_goals rfl

theorem Station.viewRoster_share (slot : Byte) (s : Station) : (s.viewRoster slot).1.share = s.share := by
  unfold Station.viewRoster
  split <;> rfl

theorem Station.announceTime_share (second : Word32) (s : Station) :
    (s.announceTime second).1.share = s.share := by
  unfold Station.announceTime
  split <;> rfl

theorem Station.readPeek_share (k : Byte) (s : Station) : (s.readPeek k).1.share = s.share := by
  unfold Station.readPeek
  split <;> rfl

@[simp] theorem Station.takeRaise_share (s : Station) (code : Word16) (sev : Severity)
    (subject : Option Slot) : (s.takeRaise code sev subject).1.share = s.share := by
  unfold Station.takeRaise
  repeat' split
  all_goals simp

theorem Station.raiseCard_share (code : Word16) (severity : Byte) (subject : Option Byte) (s : Station) :
    (s.raiseCard code severity subject).1.share = s.share := by
  unfold Station.raiseCard
  split <;> simp

@[simp] theorem Station.takeClear_share (s : Station) (code : Word16) (subject : Option Slot) :
    (s.takeClear code subject).1.share = s.share := by
  unfold Station.takeClear
  split <;> simp

theorem Station.clearCard_share (code : Word16) (subject : Option Byte) (s : Station) :
    (s.clearCard code subject).1.share = s.share := by
  unfold Station.clearCard
  split <;> simp

theorem Station.release_share (s : Station) : s.release.1.share = s.share := by
  unfold Station.release
  split <;> simp

/-- R82: RESET TRAFFIC leaves the budget window as it is. -/
theorem Station.resetTraffic_share (s : Station) : s.resetTraffic.1.share = s.share := by
  unfold Station.resetTraffic
  split <;> simp [Station.clearTraffic]

theorem Station.resetTiming_share (s : Station) : s.resetTiming.1.share = s.share := by
  simp [Station.resetTiming, Station.resetTimingBlocks]

@[simp] theorem Station.emptySets_share (s : Station) : s.emptySets.share = s.share := by
  unfold Station.emptySets
  exact foldl_share _ (fun u p => u.setPeer_share p _) _ s

theorem Station.resetViewRequest_share (s : Station) : s.resetViewRequest.1.share = s.share := by
  simp [Station.resetViewRequest]

/-! ### Commands that keep the terms of the window -/

theorem event_terms {isDue : Station → Bool} {f : Station → Station}
    (hf : ∀ u, (f u).share.terms = u.share.terms) (s : Station) :
    (event isDue f s).share.terms = s.share.terms := by
  unfold event
  split
  · exact hf s
  · rfl

theorem offerEvent_terms {isDue : Station → Bool} {f : Station → Station}
    (hf : ∀ u, (f u).share.terms = u.share.terms) (s : Station) :
    (offerEvent isDue f s).share.terms = s.share.terms :=
  event_terms (fun u => by rw [Station.renewOffer_share]; exact hf u) s

theorem Station.serve_terms {req : Instr} {f : Station → Answer}
    (hf : ∀ u, (f u).1.share.terms = u.share.terms) (s : Station) :
    (s.serve req f).share.terms = s.share.terms := by
  unfold Station.serve
  split
  · rfl
  · exact (hf _).trans (by rw [Station.cardAlive_share])

/-- The command answers a next state in which the level, the tier limit and the budget stand. -/
def TermsStand (s : State) (o : Host.Outcome State Fault Refusal) : Prop :=
  ∃ t, o = .next t ∧ t.share.terms = s.share.terms

theorem TermsStand.run {s : State} {f : Station → Station}
    (h : (f s.toStation).share.terms = s.share.terms) : TermsStand s (s.run f) := ⟨_, rfl, h⟩

theorem TermsStand.event {s : State} {isDue : Station → Bool} {f : Station → Station}
    (h : ∀ u, (f u).share = u.share) : TermsStand s (s.run (event isDue f)) :=
  .run (event_terms (fun u => congrArg Share.terms (h u)) s.toStation)

theorem TermsStand.offerEvent {s : State} {isDue : Station → Bool} {f : Station → Station}
    (h : ∀ u, (f u).share = u.share) : TermsStand s (s.run (offerEvent isDue f)) :=
  .run (offerEvent_terms (fun u => congrArg Share.terms (h u)) s.toStation)

/-- R29, R40: a pin's level is recorded, and then an event may follow from it. -/
theorem TermsStand.pin {s : State} {pins : Pins} {isDue : Station → Bool} {f : Station → Station}
    (h : ∀ u, (f u).share = u.share) :
    TermsStand s
      (.next { s with toStation := Machine.offerEvent isDue f { s.toStation with pins := pins } }) :=
  ⟨_, rfl, offerEvent_terms (fun u => congrArg Share.terms (h u)) _⟩

theorem TermsStand.serve {s : State} {req : Instr} {f : Station → Answer}
    (h : ∀ u, (f u).1.share = u.share) : TermsStand s (s.run (Station.serve req f)) :=
  .run (Station.serve_terms (fun u => congrArg Share.terms (h u)) s.toStation)

/-- R93: command by command, none but a window start and a reset moves the level, the tier limit or the budget. -/
theorem exec_termsStand (c : Instr) (s : State) (hc : c ≠ .subframeStrobe) (hr : isReset c = false) :
    TermsStand s (exec c s) := by
  cases c with
  | powerReset _ | pinReset | restartReset | resetHoldEnd | pwrGoodFalls => cases hr
  | subframeStrobe => exact absurd rfl hc
  | seatLost => exact .pin (Station.enterSeat_share · .unseated)
  | seatPresent => exact .pin Station.enterListen_share
  | latchOpens => exact .pin Station.latchOpened_share
  | latchCloses => exact .pin Station.latchClosed_share
  | extPpsEdge air => exact .offerEvent (Station.ppsEdge_share air)
  | localPeriod _ => exact .event fun _ => rfl
  | frameStrobe => exact .offerEvent Station.frameStrobe_share
  | ppsStrobe => exact .event fun _ => rfl
  | strobePulseEnd _ => exact .event fun _ => rfl
  | laneOpening => exact .offerEvent fun _ => rfl
  | startMark => exact .offerEvent Station.startMark_share
  | keyComplete lane => exact .run (offerEvent_terms (Station.keyComplete_terms lane) _)
  | readbackMismatch => exact .offerEvent Station.readbackFails_share
  | frameHandover f air => exact .offerEvent (Station.frameHandover_share f air)
  | frameAbandoned _ => exact .offerEvent fun _ => rfl
  | attemptResult flaw taken refused => exact .offerEvent (Station.attemptResult_share flaw taken refused)
  | stuckBegins => exact .offerEvent fun _ => Station.raiseInternal_share _ _
  | stuckEnds => exact .offerEvent fun _ => rfl
  | stuckClearExpiry => exact .offerEvent fun _ => Station.clearInternal_share _ _
  | listenComplete => exact .offerEvent Station.enterJoining_share
  | leavePlaced | drain40ms => exact .offerEvent Station.placeLeave_share
  | drain50ms => exact .offerEvent (Station.enterSeat_share · .gone)
  | silentTimeout slot => exact .offerEvent (Station.fallSilent_share slot)
  | absentTimeout slot => exact .offerEvent (Station.becomeAbsent_share true slot)
  | leftExpiry slot => exact .offerEvent (Station.becomeAbsent_share false slot)
  | flawTimeAged _ => exact .event fun _ => rfl
  | barEnds slot => exact .offerEvent (Station.endBar_share slot)
  | silenceTimerExpiry => exact .offerEvent Station.silenceExpires_share
  | backoffEnds _ => exact .offerEvent fun _ => rfl
  | candidateDeadline slot => exact .offerEvent (Station.dropAndReview_share · slot)
  | claimExpiry => exact .offerEvent fun _ => rfl
  | beaconIntervalExpiry => exact .offerEvent fun _ => rfl
  | extLossExpiry => exact .offerEvent fun _ => Station.reviews_share _ 1
  | announcementStale => exact .event Station.discardStale_share
  | holdoverExpiry => exact .offerEvent (Station.thenReviews_share _ Station.expireHoldover_share)
  | unlockedExpiry => exact .offerEvent fun _ => Station.raiseInternal_share _ _
  | refreshExpiry | staggerExpiry | placementRetryExpiry =>
    exact .offerEvent fun _ => Station.placeAlarmIfPermitted_share _
  | watchdogExpiry => exact .offerEvent fun _ => Station.raiseInternal_share _ _
  | transactionDiscarded =>
    refine .run ?_
    unfold Station.discardTransaction
    split <;> rfl
  | unknownRequest _ _ => exact .serve fun _ => rfl
  | configure args => exact .run (Station.serve_terms (Station.configure_terms args) _)
  | send tag cls tier dest payload => exact .serve (Station.send_share tag cls tier dest payload)
  | take selector => exact .serve (Station.take_share selector)
  | reap => exact .serve Station.reap_share
  | viewRoster slot => exact .serve (Station.viewRoster_share slot)
  | viewStation | viewQueues | viewReference | viewAlarms => exact .serve fun _ => rfl
  | readHold | readNext | readPrev | readAdvance | seekFirst | seekLast => exact .serve fun _ => rfl
  | readPeek k => exact .serve (Station.readPeek_share k)
  | raise code severity subject => exact .serve (Station.raiseCard_share code severity subject)
  | clear code subject => exact .serve (Station.clearCard_share code subject)
  | time | restart => exact .serve fun _ => rfl
  | externalTime second => exact .serve (Station.announceTime_share second)
  | release => exact .serve Station.release_share
  | setPeriodic index skip phase dest tier payload =>
    exact .serve (Station.setPeriodic_share index skip phase dest tier payload)
  | resetTraffic => exact .serve Station.resetTraffic_share
  | resetTiming => exact .serve Station.resetTiming_share
  | resetView => exact .serve Station.resetViewRequest_share

/-- R91, R121: a subframe strobe that is owed starts a window on what the lane has measured. -/
theorem exec_subframeStrobe_share {s : State} (hh : s.hold = false) (ho : s.time.owedSub ≠ []) :
    ∃ t, exec .subframeStrobe s = .next t ∧
      t.share = s.share.windowStart s.lane.busyBt s.lane.windowBt := by
  have due : offerEvent (fun t => !t.time.owedSub.isEmpty) Station.subframeStrobe s.toStation =
      s.toStation.subframeStrobe.renewOffer.drive :=
    offerEvent_due _ _ _ hh (by simpa using ho)
  refine ⟨{ s with toStation := s.toStation.subframeStrobe.renewOffer.drive }, ?_, ?_⟩
  · calc exec .subframeStrobe s
        = s.run (offerEvent (fun t => !t.time.owedSub.isEmpty) Station.subframeStrobe) := rfl
      _ = _ := by rw [State.run_eq, due]
  · exact Station.renewOffer_share _

end Sys2Proof.Machine

namespace Sys2Proof.Slice0

/-- Settles O14: a window start takes the tier limit and the budget from the level, and of the other commands,
taken one by one, only the resets touch the three. -/
theorem limitAndBudgetFollowTheLevelAlone : Obligations.LimitAndBudgetFollowTheLevelAlone := by
  refine fun s => ⟨fun hh ho => ?_, fun c hc hr => ?_⟩
  · obtain ⟨t, hexec, hshare⟩ := exec_subframeStrobe_share hh ho
    have limit : t.share.tierLimit = 3 - t.share.level := by
      rw [hshare]; exact Share.windowStart_tierLimit _ _ _
    have budget : t.share.budget = s.share.target (3 - t.share.level) := by
      rw [hshare]; exact Share.windowStart_budget _ _ _
    refine ⟨t, hexec, fun hl => ?_, fun hl => ?_, fun hl => ?_, fun hl => ?_, fun hl => ?_⟩
    case refine_5 =>
      rw [hshare, Share.windowStart_level]
      exact Share.measure_level_le _ _ _ hl
    all_goals
      rw [hl] at limit budget
      exact ⟨limit, budget⟩
  · obtain ⟨t, hexec, hterms⟩ := exec_termsStand c s hc hr
    exact ⟨t, hexec, Share.terms_eq_iff.mp hterms⟩

end Sys2Proof.Slice0
end

section
/-! SUPPORT. The receive path (R47, R104 to R109): what a good DATA frame says, when the filter accepts it, what its
placement and the hearing of its source do, and the statement about accepted DATA. -/

open Sys2Proof Sys2Proof.Machine Sys2Proof.Slice0

namespace Sys2Proof.Machine

/-! ### What a DATA frame says (R4, R7, R10, R204) -/

/-- R204: the class of a key is its number in bits 7–6. -/
theorem keyClass_number (k : Byte) : (keyClass k).number = k.toNat / 64 := by
  have hk := k.isLt
  have four : k.toNat / 64 < 4 := by omega
  unfold keyClass
  generalize k.toNat / 64 = n at four
  match n, four with
  | 0, _ | 1, _ | 2, _ | 3, _ => rfl

theorem keyClass_eq_of_number {k : Byte} {q : FrameClass} (h : k.toNat / 64 = q.number) : keyClass k = q :=
  FrameClass.number_inj.mp ((keyClass_number k).trans h)

theorem destOf_eq_all_iff (b : Byte) : destOf b = some .all ↔ b.toNat = 16 := by
  unfold destOf
  split
  next h => simp; omega
  next h => simp

theorem destOf_of_slot {b : Byte} {p : Slot} (h : b.toNat = p.val) : destOf b = some (.slot p) := by
  have hp := p.isLt
  have slot : Fin.ofNat 16 b.toNat = p := Fin.ext (by simp [h])
  rw [destOf, if_pos (h ▸ hp), slot]

theorem isBroadcast_eq (f : RxFrame) : isBroadcast f = decide (f.dest.toNat = 16) :=
  decide_eq_decide.mpr (destOf_eq_all_iff f.dest)

/-- R106: a frame for this station passes the filter's test of its destination. -/
theorem destOf_of_forUs {u : Station} {f : RxFrame} (h : ForUs u f) :
    destOf f.dest = some .all ∨ destOf f.dest = some (.slot u.seat.slot) :=
  h.imp (destOf_eq_all_iff f.dest).mpr destOf_of_slot

theorem goodContent_of_goodData {key : Byte} {f : RxFrame} (h : GoodData key f) :
    goodContent key f = some (.data (f.kind.toNat % 4)) := by
  obtain ⟨whole, check, kind, dest⟩ := h
  simp [goodContent, whole, check, contentOf, kind, Nat.not_lt.mpr dest]

/-! ### The disposition of accepted DATA (R107, R111) -/

/-- R109: the receive queue that a key of a card's class names. -/
theorem rxQueueOf_of_class {key : Byte} {q : CardQueue} (h : keyClass key = cardClass q) : rxQueueOf key = q := by
  unfold rxQueueOf
  rw [h]
  cases q <;> rfl

/-- R107: DATA that passes every test is accepted. -/
theorem Station.acceptance_accepted {u : Station} {key seq : Byte} {q : CardQueue} (takes : Takes u (keySlot key))
    (cls : keyClass key = cardClass q) (fresh : (u.peer (keySlot key)).lastSeq ≠ some seq)
    (room : (u.rx.queue q).length < rxCapacity q) : u.acceptance key seq = .accepted := by
  obtain ⟨unbarred, notLeft, taking⟩ := takes
  have takesData : (decide (u.seat.state = .active) || decide (u.seat.state = .leaving)) = true := by
    simpa using taking
  unfold Station.acceptance
  cases q with
  | express | bulk =>
    simpa [Peer.barred, unbarred, notLeft, takesData, cls, cardClass, fresh, Rx.queue] using room

/-- R106: a good DATA frame for this station goes to the tests of R107. -/
theorem Station.disposition_data {u : Station} {key : Byte} {f : RxFrame} (good : GoodData key f)
    (forUs : ForUs u f) : u.disposition key f (goodContent key f) = u.acceptance key f.seq := by
  rw [goodContent_of_goodData good]
  simp [Station.disposition, destOf_of_forUs forUs]

/-- R26, R107: the seat states that take DATA have the mark gate open. -/
theorem markGate_of_takes {u : Station} {p : Slot} (h : Takes u p) : markGate u.seat.state = true := by
  obtain ⟨-, -, active | leaving⟩ := h
  · simp [active, markGate]
  · simp [leaving, markGate]

/-! ### Placement and hearing (R47, R48, R109) -/

@[simp] theorem Station.accept_rx (u : Station) (key : Byte) (f : RxFrame) (stamp : RxStamp) :
    (u.accept key f stamp).rx =
      u.rx.setQueue (rxQueueOf key) (u.rx.queue (rxQueueOf key) ++ [⟨arrivalOf key f stamp, f.payload⟩]) := rfl

@[simp] theorem Station.accept_peer (u : Station) (key : Byte) (f : RxFrame) (stamp : RxStamp) :
    (u.accept key f stamp).peer (keySlot key) = { u.peer (keySlot key) with lastSeq := some f.seq } :=
  Station.peer_setPeer_same _ _ _

/-- R47, R48: the source's record is settled; whatever follows from "slot present" is a notice and a review. -/
theorem Station.settle_frame (u : Station) (p : Slot) :
    ReviewFrame (u.setPeer p (heardRecord u p)) (u.settle p) := by
  have notice (v : Station) : ReviewFrame v (v.notifyPresent p) :=
    (v.unmarkMissing_frame p).toReview.trans (Station.reviews_frame _ 1)
  cases h : (u.peer p).state with
  | absent | silent => simpa [Station.settle, heardRecord, h] using notice _
  | present | left | self => simpa [Station.settle, heardRecord, h] using ReviewFrame.refl _

/-- R47: of a DATA frame the roster takes the hearing alone. -/
theorem Station.rosterTakes_data {u : Station} {p : Slot} (seq : Byte) (tier : Nat) (stamp : RxStamp) (air : Bool)
    (unbarred : (u.peer p).barredUntil = none) (notLeft : (u.peer p).state ≠ .left) :
    u.rosterTakes p seq (some (.data tier)) stamp air = u.settle p := by
  simp [Station.rosterTakes, Station.takeKind, Peer.hears, Peer.barred, unbarred, notLeft]

@[simp] theorem heardRecord_lastSeq (u : Station) (p : Slot) : (heardRecord u p).lastSeq = (u.peer p).lastSeq := by
  unfold heardRecord
  dsimp only
  split <;> rfl

@[simp] theorem heardRecord_lastHeard (u : Station) (p : Slot) :
    (heardRecord u p).lastHeard = some u.localTime := by
  unfold heardRecord
  dsimp only
  split <;> rfl

theorem heardRecord_present {u : Station} {p : Slot}
    (h : (u.peer p).state = .present ∨ (u.peer p).state = .absent ∨ (u.peer p).state = .silent) :
    (heardRecord u p).state = .present := by
  unfold heardRecord
  rcases h with h | h | h <;> simp [h]

/-! ### What ends a hearing -/

/-- What the notices of a hearing, the offer renewed and the pins judged afresh leave as it is. -/
structure HearingFrame (s t : Station) : Prop where
  pins : t.pins = s.pins
  hold : t.hold = s.hold
  localTime : t.localTime = s.localTime
  lane : t.lane = s.lane
  seat : t.seat = s.seat
  roster : t.roster = s.roster
  share : t.share = s.share
  rx : t.rx = s.rx

theorem Station.closing_settle_frame (u : Station) (p : Slot) :
    HearingFrame (u.setPeer p (heardRecord u p)) (closing (u.settle p)) := by
  have hearing := u.settle_frame p
  have offer := (u.settle p).renewOffer_spec.1
  exact ⟨offer.pins.trans hearing.pins, offer.hold.trans hearing.hold, offer.localTime.trans hearing.localTime,
    offer.lane.trans hearing.lane, offer.seat.trans hearing.seat, offer.roster.trans hearing.roster,
    offer.share.trans hearing.share, offer.rx.trans hearing.rx⟩

/-- R199: RX_READY once the event is closed, where a receive queue holds an entry. -/
theorem closing_rxReady {u : Station} (q : CardQueue) (hh : (closing u).hold = false)
    (hq : (closing u).rx.queue q ≠ []) : (closing u).outs.rxReady = true := by
  have pins : (closing u).outs = (closing u).outputs := by
    calc (closing u).outs = (closing u).outputsNow := rfl
      _ = (closing u).outputs := by rw [Station.outputsNow, hh]; rfl
  rw [pins]
  cases q with
  | express => simpa [Station.outputs] using .inl hq
  | bulk => simpa [Station.outputs] using .inr hq

/-! ### The hand-over (R12, R104) -/

/-- R12, R14: a frame from another slot is handed over, and the event closed. -/
theorem exec_frameHandover {s : State} {key : Byte} {p : Slot} (f : RxFrame) (air : Bool) (h : Receiving s key p) :
    exec (.frameHandover f air) s =
      .next { s with toStation := closing (s.toStation.handOver key f s.startStamp air) } := by
  obtain ⟨running, line, silent, keyRead, source, other⟩ := h
  have foreign : keySlot key ≠ s.seat.slot := source ▸ other
  have due : offerEvent (fun t => t.lane.receiving) (Station.frameHandover f air) s.toStation =
      closing (s.toStation.frameHandover f air) :=
    offerEvent_due _ _ _ running (by simp [Lane.receiving, line, silent])
  have handed : s.toStation.frameHandover f air = s.toStation.handOver key f s.startStamp air := by
    simp [Station.frameHandover, keyRead, foreign]
  calc exec (.frameHandover f air) s
      = s.run (offerEvent (fun t => t.lane.receiving) (Station.frameHandover f air)) := rfl
    _ = _ := by rw [State.run_eq, due, handed]

/-- R109, R111: accepted DATA is marked TAKEN and placed; then the roster hears its source. -/
theorem Station.handOver_accepted {u : Station} {key : Byte} {f : RxFrame} {q : CardQueue} (stamp : RxStamp)
    (air : Bool) (good : GoodData key f) (wanted : Wanted u f (keySlot key)) (cls : keyClass key = cardClass q)
    (fresh : (u.peer (keySlot key)).lastSeq ≠ some f.seq) (room : (u.rx.queue q).length < rxCapacity q) :
    u.handOver key f stamp air =
      (({ u with lane := u.lane.heardEnd ⟨false, true, false⟩ } : Station).accept key f stamp).settle
        (keySlot key) := by
  obtain ⟨forUs, takes⟩ := wanted
  have ⟨unbarred, notLeft, _⟩ := takes
  have accepted : u.disposition key f (goodContent key f) = .accepted :=
    (Station.disposition_data good forUs).trans (Station.acceptance_accepted takes cls fresh room)
  have marks : u.marksFor key f (goodContent key f) = ⟨false, true, false⟩ := by
    unfold Station.marksFor
    rw [accepted]
    rfl
  have acceptedAtEnd (l : Lane) :
      ({ u with lane := l } : Station).disposition key f (goodContent key f) = .accepted := accepted
  unfold Station.handOver Station.filterTakes
  simp only [markGate_of_takes takes, if_true, marks, acceptedAtEnd]
  rw [goodContent_of_goodData good]
  refine Station.rosterTakes_data _ _ _ _ ?_ ?_
  · rw [Station.accept_peer]
    exact unbarred
  · rw [Station.accept_peer]
    exact notLeft

/-- R109: the hand-over of accepted DATA, in either receive queue. -/
theorem exec_frameHandover_accepted {s : State} {key : Byte} {p : Slot} {f : RxFrame} {q : CardQueue} (air : Bool)
    (receiving : Receiving s key p) (good : GoodData key f) (wanted : Wanted s.toStation f p)
    (fresh : (s.peer p).lastSeq ≠ some f.seq) (cls : key.toNat / 64 = (cardClass q).number)
    (room : (s.rx.queue q).length < rxCapacity q) :
    ∃ t, exec (.frameHandover f air) s = .next t ∧
      t.rx = s.rx.setQueue q (s.rx.queue q ++ [⟨arrivalOf key f s.startStamp, f.payload⟩]) ∧
      (t.peer p).lastSeq = some f.seq ∧ t.lane.marks = ⟨false, true, false⟩ ∧ t.outs.rxReady = true ∧
      HeardNow s.toStation t.toStation p ∧ RxFrameKept s.toStation t.toStation := by
  obtain rfl : keySlot key = p := receiving.source
  have cls := keyClass_eq_of_number cls
  let v := ({ s.toStation with lane := s.lane.heardEnd ⟨false, true, false⟩ } : Station).accept key f s.startStamp
  let t := closing (v.settle (keySlot key))
  have frame : HearingFrame (v.setPeer (keySlot key) (heardRecord v (keySlot key))) t :=
    v.closing_settle_frame (keySlot key)
  have record : t.peer (keySlot key) = heardRecord v (keySlot key) := by
    rw [Station.peer_of_roster _ _ frame.roster, Station.peer_setPeer_same]
  have before : v.peer (keySlot key) = { s.peer (keySlot key) with lastSeq := some f.seq } :=
    Station.accept_peer _ _ _ _
  have queued : t.rx =
      s.rx.setQueue q (s.rx.queue q ++ [⟨arrivalOf key f s.startStamp, f.payload⟩]) := by
    rw [frame.rx, Station.setPeer_rx, Station.accept_rx, rxQueueOf_of_class cls]
  have ready : t.outs.rxReady = true := by
    refine closing_rxReady q (frame.hold.trans receiving.running) ?_
    rw [queued]
    cases q <;> simp [Rx.setQueue, Rx.queue]
  have lastSeq : (heardRecord v (keySlot key)).lastSeq = some f.seq := by rw [heardRecord_lastSeq, before]
  have heard : HeardNow s.toStation t (keySlot key) := by
    refine ⟨(congrArg Peer.lastHeard record).trans (heardRecord_lastHeard v _), fun known => ?_⟩
    rw [record]
    exact heardRecord_present (by rw [before]; exact known)
  have kept : RxFrameKept s.toStation t := by
    refine ⟨frame.share, frame.seat, congrArg Pins.seatPresent frame.pins, frame.hold, frame.localTime, ?_⟩
    rw [frame.lane]
    rfl
  refine ⟨{ s with toStation := t }, ?_, queued,
    (congrArg Peer.lastSeq record).trans lastSeq, congrArg Lane.marks frame.lane, ready, heard, kept⟩
  rw [exec_frameHandover f air receiving, Station.handOver_accepted _ air good wanted cls fresh room]

/-- R109: the arrival record of a frame, field by field. -/
theorem arrivalOf_eq {key : Byte} {p : Slot} {q : CardQueue} (f : RxFrame) (stamp : RxStamp)
    (source : keySlot key = p) (cls : key.toNat / 64 = (cardClass q).number) :
    arrivalOf key f stamp =
      { source := p, broadcast := decide (f.dest.toNat = 16), queue := q, tier := f.kind.toNat % 4
        seq := f.seq, length := f.payload.length, stamp := stamp.stamp, stepped := stamp.void } := by
  rw [arrivalOf, source, isBroadcast_eq, rxQueueOf_of_class (keyClass_eq_of_number cls)]

end Sys2Proof.Machine

namespace Sys2Proof.Slice0

/-- Settles O27: the filter accepts the frame and places it, and the hearing of its source, the offer and the pins
leave the placement, the mark and the seq as they are; for each of the two receive queues. -/
theorem acceptedDataIsQueuedAndMarkedTaken : Obligations.AcceptedDataIsQueuedAndMarkedTaken := by
  intro s key p f air receiving good wanted fresh arrival
  have arrives (q : CardQueue) (cls : key.toNat / 64 = (cardClass q).number) :
      arrivalOf key f s.startStamp = arrival q := arrivalOf_eq f _ receiving.source cls
  refine ⟨fun express room => ?_, fun bulk room => ?_⟩
  · rw [← arrives .express express]
    exact exec_frameHandover_accepted (q := .express) air receiving good wanted fresh express room
  · rw [← arrives .bulk bulk]
    exact exec_frameHandover_accepted (q := .bulk) air receiving good wanted fresh bulk room

end Sys2Proof.Slice0
end

section
/-! SUPPORT. The alarm lists (R169, R176, R177, R183): what the alarm unit's operations keep of the bounds of the own
list and the view, of the view's order, and of the cursor. -/

-- One theorem after another: the check's data limit has no room for a thread for each.
set_option Elab.async false

open Sys2Proof Sys2Proof.Machine Sys2Proof.Safety

namespace Sys2Proof.Machine

/-! ### The view order (R177) -/

/-- R177: of two entries that differ in identity one comes before the other. -/
theorem ViewEntry.before_or_before {a b : ViewEntry} (h : a.ident ≠ b.ident) (hn : a.before b = false) :
    b.before a = true := by
  have rank : subjectRank a.subject = subjectRank b.subject → a.subject = b.subject := by
    cases a.subject <;> cases b.subject <;> simp [subjectRank, Fin.ext_iff] <;> omega
  have same : a.source.val = b.source.val → a.code.toNat = b.code.toNat →
      subjectRank a.subject = subjectRank b.subject → False := fun h1 h2 h3 =>
    h (by simp [ViewEntry.ident, Fin.ext h1, BitVec.eq_of_toNat_eq h2, rank h3])
  unfold ViewEntry.before at hn ⊢
  grind

/-- R177: the view order is transitive. -/
theorem ViewEntry.before_trans {a b c : ViewEntry} (h : a.before b = true) (g : b.before c = true) :
    a.before c = true := by
  unfold ViewEntry.before at h g ⊢
  grind

theorem mem_insertView {e x : ViewEntry} {l : List ViewEntry} :
    x ∈ insertView e l ↔ x = e ∨ x ∈ l := by
  rw [(insertView_perm e l).mem_iff, List.mem_cons]

/-- No identity stands twice (R176). -/
def Distinct (l : List ViewEntry) : Prop := l.Pairwise fun a b => a.ident ≠ b.ident

/-- Every entry comes before the ones behind it (R177). -/
def InOrder (l : List ViewEntry) : Prop := l.Pairwise fun a b => a.before b = true

theorem Distinct.perm {l m : List ViewEntry} (h : Distinct l) (p : m.Perm l) : Distinct m :=
  (p.pairwise_iff fun h g => h g.symm).2 h

theorem Distinct.insertView {e : ViewEntry} {l : List ViewEntry} (h : Distinct l)
    (he : ∀ x ∈ l, x.ident ≠ e.ident) : Distinct (insertView e l) :=
  Distinct.perm (List.pairwise_cons.2 ⟨fun x hx => (he x hx).symm, h⟩) (insertView_perm e l)

/-- R177: an entry of another identity than all the others takes its place in the order. -/
theorem InOrder.insertView {e : ViewEntry} {l : List ViewEntry} (h : InOrder l)
    (he : ∀ x ∈ l, x.ident ≠ e.ident) : InOrder (insertView e l) := by
  induction l with
  | nil => simp [Machine.insertView, InOrder]
  | cons x l ih =>
    obtain ⟨hx, hl⟩ := List.pairwise_cons.1 h
    unfold Machine.insertView
    split
    next hb =>
      refine List.pairwise_cons.2 ⟨fun y hy => ?_, h⟩
      rcases List.mem_cons.1 hy with rfl | hy
      · exact hb
      · exact ViewEntry.before_trans hb (hx y hy)
    next hb =>
      refine List.pairwise_cons.2 ⟨fun y hy => ?_, ih hl fun y hy => he y (List.mem_cons_of_mem x hy)⟩
      rcases mem_insertView.1 hy with rfl | hy
      · exact ViewEntry.before_or_before (he x List.mem_cons_self).symm (by simpa using hb)
      · exact hx y hy

/-- R177: a list without a repeated identity is brought into order. -/
theorem Distinct.sortView {l : List ViewEntry} (h : Distinct l) : InOrder (sortView l) := by
  have go : ∀ l acc : List ViewEntry, Distinct (l ++ acc) → InOrder acc →
      InOrder (l.foldl (fun acc e => Machine.insertView e acc) acc) := by
    intro l
    induction l with
    | nil => exact fun _ _ ho => ho
    | cons e l ih =>
      intro acc hd ho
      have hd' : Distinct (l ++ Machine.insertView e acc) :=
        hd.perm (((insertView_perm e acc).append_left l).trans List.perm_middle)
      have hne : ∀ x ∈ acc, x.ident ≠ e.ident := fun x hx =>
        ((List.pairwise_cons.1 hd).1 x (List.mem_append_right l hx)).symm
      exact ih _ hd' (ho.insertView hne)
  exact go l [] (by simpa using h) List.Pairwise.nil

theorem findIdent_isSome {l : List ViewEntry} {i : Ident} :
    (findIdent l i).isSome = true ↔ ∃ e ∈ l, e.ident = i := by
  simp [findIdent, List.find?_isSome]

theorem findIdent_isNone {l : List ViewEntry} {i : Ident} :
    (findIdent l i).isNone = true ↔ ∀ e ∈ l, e.ident ≠ i := by
  simp [findIdent]

theorem findIdent_ident {l : List ViewEntry} {i : Ident} {e : ViewEntry} (h : findIdent l i = some e) :
    e.ident = i := by simpa using List.find?_some h

/-! ### Offers and merges (R178, R180) -/

theorem mem_offerEntry {view : List ViewEntry} {e x : ViewEntry} (h : x ∈ offerEntry view e) :
    x = e ∨ x ∈ view := by
  unfold offerEntry at h
  split at h
  · exact mem_insertView.1 h
  · split at h
    · split at h
      · exact (mem_insertView.1 h).imp_right List.mem_of_mem_dropLast
      · exact .inr h
    · exact .inr h

/-- R180: an entry of a new identity is placed in the view, or in that of its last entry, or kept out. -/
theorem offerEntry_cases (view : List ViewEntry) (e : ViewEntry) :
    (∃ m, m.Sublist view ∧ offerEntry view e = insertView e m) ∨ offerEntry view e = view := by
  unfold offerEntry
  split
  · exact .inl ⟨view, .refl _, rfl⟩
  · split
    · split
      · exact .inl ⟨_, List.dropLast_sublist _, rfl⟩
      · exact .inr rfl
    · exact .inr rfl

theorem Distinct.offerEntry {view : List ViewEntry} {e : ViewEntry} (h : Distinct view)
    (he : ∀ x ∈ view, x.ident ≠ e.ident) : Distinct (offerEntry view e) := by
  rcases offerEntry_cases view e with ⟨m, hm, ho⟩ | ho
  · rw [ho]
    exact Distinct.insertView (List.Pairwise.sublist hm h) fun x hx => he x (hm.subset hx)
  · rwa [ho]

theorem InOrder.offerEntry {view : List ViewEntry} {e : ViewEntry} (h : InOrder view)
    (he : ∀ x ∈ view, x.ident ≠ e.ident) : InOrder (offerEntry view e) := by
  rcases offerEntry_cases view e with ⟨m, hm, ho⟩ | ho
  · rw [ho]
    exact InOrder.insertView (List.Pairwise.sublist hm h) fun x hx => he x (hm.subset hx)
  · rwa [ho]

theorem mem_missingFrom {view entries : List ViewEntry} {e : ViewEntry} :
    e ∈ missingFrom view entries ↔ e ∈ entries ∧ ∀ x ∈ view, x.ident ≠ e.ident := by
  unfold missingFrom
  rw [(sortView_perm _).mem_iff, List.mem_filter, findIdent_isNone]

theorem Distinct.missingFrom {entries : List ViewEntry} (h : Distinct entries) (view : List ViewEntry) :
    Distinct (missingFrom view entries) :=
  Distinct.perm (List.Pairwise.filter _ h) (sortView_perm _)

/-- R178 step 2: an updated entry keeps its identity. -/
theorem updated_ident (mine : ViewEntry → Bool) (entries : List ViewEntry) (e : ViewEntry) :
    (if mine e then (findIdent entries e.ident).getD e else e).ident = e.ident := by
  split
  · cases h : findIdent entries e.ident with
    | none => rfl
    | some x => exact findIdent_ident h
  · rfl

/-- The entries of a view after an update, before they are sorted, differ in identity as before. -/
theorem Distinct.updated {view : List ViewEntry} (h : Distinct view) (mine : ViewEntry → Bool)
    (entries : List ViewEntry) :
    Distinct (view.map fun e => if mine e then (findIdent entries e.ident).getD e else e) := by
  refine List.pairwise_map.2 (h.imp fun {a b} hab => ?_)
  rwa [updated_ident, updated_ident]

theorem Distinct.updateFrom {view : List ViewEntry} (h : Distinct view) (mine : ViewEntry → Bool)
    (entries : List ViewEntry) : Distinct (updateFrom mine entries view) :=
  (h.updated mine entries).perm (sortView_perm _)

theorem updateFrom_length (mine : ViewEntry → Bool) (entries view : List ViewEntry) :
    (updateFrom mine entries view).length = view.length := by
  rw [updateFrom, (sortView_perm _).length_eq, List.length_map]

/-! ### The cursor (R183) -/

/-- R183: the cursor follows onto an entry that the new view holds. -/
theorem followCursor_mem {old new : List ViewEntry} {c : Option Ident} {i : Ident}
    (h : followCursor old new c = some i) : ∃ e ∈ new, e.ident = i := by
  unfold followCursor at h
  split at h
  · cases h
  · obtain ⟨e, he, rfl⟩ := Option.map_eq_some_iff.1 h
    have hs : (findIdent new e.ident).isSome = true := by simpa using List.find?_some he
    exact findIdent_isSome.1 hs

/-! ### What an operation keeps of the alarm lists -/

/-- R169, R176: the bounds of the own list and of the view. -/
def Lists (s : Station) : Prop := OwnListBounded s ∧ ViewBounded s

/-- R177, R183: the order of the view and the place of the cursor. -/
def OrderAndCursor (s : Station) : Prop := ViewOrdered s ∧ CursorInView s

/-- An operation keeps the bounds of the alarm lists, and beside them the order and the cursor. -/
structure AlarmKept (s t : Station) : Prop where
  lists : Lists s → Lists t
  order : Lists s → OrderAndCursor s → OrderAndCursor t

theorem AlarmKept.trans {s t u : Station} (h : AlarmKept s t) (g : AlarmKept t u) : AlarmKept s u :=
  ⟨g.lists ∘ h.lists, fun hl ho => g.order (h.lists hl) (h.order hl ho)⟩

theorem ownListBounded_congr {s t : Station} (ho : t.alarm.own = s.alarm.own) (h : OwnListBounded s) :
    OwnListBounded t where
  card := by rw [AlarmUnit.cardEntries, ho]; exact h.card
  codes := by rw [ho]; exact h.codes
  internal := by rw [ho]; exact h.internal
  distinct := by rw [ho]; exact h.distinct

theorem viewBounded_congr {s t : Station} (hv : t.alarm.view = s.alarm.view) (h : ViewBounded s) :
    ViewBounded t where
  size := by rw [hv]; exact h.size
  distinct := by rw [hv]; exact h.distinct

/-- The lists, the view's order and the cursor as they were. -/
theorem AlarmKept.of_same {s t : Station} (ho : t.alarm.own = s.alarm.own)
    (hv : t.alarm.view = s.alarm.view) (hc : t.alarm.cursor = s.alarm.cursor) : AlarmKept s t where
  lists h := ⟨ownListBounded_congr ho h.1, viewBounded_congr hv h.2⟩
  order _ h := by simpa [OrderAndCursor, ViewOrdered, CursorInView, hv, hc] using h

theorem AlarmKept.refl (s : Station) : AlarmKept s s := .of_same rfl rfl rfl

/-- R177, R183: a new view within its bound, without a repeated identity, and in order; the cursor follows. -/
theorem Station.setView_kept (s : Station) (new : List ViewEntry)
    (hb : Lists s → new.length ≤ Config.viewSize ∧ Distinct new)
    (ho : Lists s → InOrder s.alarm.view → InOrder new) : AlarmKept s (s.setView new) where
  lists h := ⟨ownListBounded_congr (s := s) rfl h.1, ⟨(hb h).1, (hb h).2⟩⟩
  order h g := ⟨ho h g.1, fun _ hi => followCursor_mem hi⟩

/-- R178 step 1: a view with entries taken out. -/
theorem Station.setView_sublist_kept (s : Station) (new : List ViewEntry)
    (hs : new.Sublist s.alarm.view) : AlarmKept s (s.setView new) :=
  s.setView_kept new (fun h => ⟨hs.length_le.trans h.2.size, h.2.distinct.sublist hs⟩)
    fun _ ho => List.Pairwise.sublist hs ho

/-- R180: entries of identities that differ, none of them in the view, offered one by one. -/
theorem Station.offerEach_kept (l : List ViewEntry) (hl : Distinct l) (s : Station)
    (hn : ∀ e ∈ l, ∀ x ∈ s.alarm.view, x.ident ≠ e.ident) : AlarmKept s (s.offerEach l) := by
  induction l generalizing s with
  | nil => exact .refl s
  | cons e l ih =>
    obtain ⟨he, hl⟩ := List.pairwise_cons.1 hl
    have hne := hn e List.mem_cons_self
    have one : AlarmKept s (s.setView (offerEntry s.alarm.view e)) :=
      s.setView_kept _
        (fun h => ⟨(offerEntry_length _ _).trans (max_le h.2.size le_rfl),
          Distinct.offerEntry h.2.distinct hne⟩)
        fun _ ho => InOrder.offerEntry ho hne
    refine one.trans (ih hl _ fun d hd x hx => ?_)
    rcases mem_offerEntry hx with rfl | hx
    · exact he d hd
    · exact hn d (List.mem_cons_of_mem e hd) x hx

theorem Station.offerMissing_kept (s : Station) (entries : List ViewEntry) (h : Distinct entries) :
    AlarmKept s (s.offerEach (missingFrom s.alarm.view entries)) :=
  Station.offerEach_kept _ (h.missingFrom _) s fun _ he => (mem_missingFrom.1 he).2


/-! ### The own list -/

/-- R170: the ten internal codes. -/
abbrev InternalCode (code : Word16) : Prop := 1 ≤ code.toNat ∧ code.toNat ≤ 10

/-- R169: what an own list is held to. -/
structure OwnOk (l : List AlarmEntry) : Prop where
  card : l.countP (fun e => cardCode e.code) ≤ Config.cardAlarms
  codes : ∀ e ∈ l, cardCode e.code = true ∨ InternalCode e.code
  internal : (l.filter fun e => !cardCode e.code).Pairwise fun a b => a.code ≠ b.code
  distinct : l.Pairwise fun a b => (a.code, a.subject) ≠ (b.code, b.subject)

theorem ownListBounded_iff (s : Station) : OwnListBounded s ↔ OwnOk s.alarm.own :=
  ⟨fun ⟨h1, h2, h3, h4⟩ => ⟨h1, h2, h3, h4⟩, fun ⟨h1, h2, h3, h4⟩ => ⟨h1, h2, h3, h4⟩⟩

theorem OwnOk.sublist {l m : List AlarmEntry} (h : OwnOk l) (hs : m.Sublist l) : OwnOk m where
  card := (hs.countP_le).trans h.card
  codes e he := h.codes e (hs.subset he)
  internal := h.internal.sublist (hs.filter _)
  distinct := h.distinct.sublist hs

/-- R170: an internal code that does not stand is raised. -/
theorem OwnOk.raised {l : List AlarmEntry} (h : OwnOk l) (e : AlarmEntry)
    (hc : InternalCode e.code) (hn : ∀ x ∈ l, x.code ≠ e.code) : OwnOk (l ++ [e]) := by
  have hcard : cardCode e.code = false := by simp [cardCode]; omega
  constructor
  · simpa [List.countP_append, hcard] using h.card
  · intro x hx
    rcases List.mem_append.1 hx with hx | hx
    · exact h.codes x hx
    · rw [List.mem_singleton.1 hx]
      exact .inr hc
  · rw [List.filter_append]
    refine List.pairwise_append.2 ⟨h.internal, by simp [hcard], fun a ha b hb => ?_⟩
    have hb' : b = e := by simpa using (List.mem_filter.1 hb).1
    exact hb' ▸ hn a (List.mem_filter.1 ha).1
  · refine List.pairwise_append.2 ⟨h.distinct, by simp, fun a ha b hb => ?_⟩
    rw [List.mem_singleton.1 hb]
    exact fun he => hn a ha (congrArg Prod.fst he)

/-- R171: the card adds an entry of a new identity while it has fewer than 22. -/
theorem OwnOk.cardRaised {l : List AlarmEntry} (h : OwnOk l) (e : AlarmEntry) (hc : cardCode e.code = true)
    (hr : l.countP (fun e => cardCode e.code) < Config.cardAlarms)
    (hn : ∀ x ∈ l, x.is e.code e.subject = false) : OwnOk (l ++ [e]) := by
  constructor
  · simpa [List.countP_append, hc] using hr
  · intro x hx
    rcases List.mem_append.1 hx with hx | hx
    · exact h.codes x hx
    · rw [List.mem_singleton.1 hx]
      exact .inl hc
  · rw [List.filter_append]
    simpa [List.filter_singleton, hc] using h.internal
  · refine List.pairwise_append.2 ⟨h.distinct, by simp, fun a ha b hb => ?_⟩
    rw [List.mem_singleton.1 hb]
    have := hn a ha
    intro he
    simp [AlarmEntry.is] at this he
    exact this he.1 he.2

/-- R171: entries that change their severity alone. -/
theorem OwnOk.regraded {l : List AlarmEntry} (h : OwnOk l) (f : AlarmEntry → AlarmEntry)
    (hf : ∀ e, (f e).code = e.code ∧ (f e).subject = e.subject) : OwnOk (l.map f) := by
  constructor
  · simpa [List.countP_map, Function.comp_def, hf] using h.card
  · simpa [hf] using h.codes
  · rw [List.filter_map, List.pairwise_map]
    simpa [Function.comp_def, hf] using h.internal
  · rw [List.pairwise_map]
    simpa only [hf] using h.distinct

/-- R170: the one entry of an internal code changes its subject. -/
theorem OwnOk.resubjected {l : List AlarmEntry} (h : OwnOk l) (code : Word16) (hc : cardCode code = false)
    (p : Option Slot) :
    OwnOk (l.map fun x => if x.code = code then { x with subject := p } else x) := by
  have hcode : ∀ x : AlarmEntry, (if x.code = code then { x with subject := p } else x).code = x.code := by
    intro x
    split <;> rfl
  have hone : ∀ a b : AlarmEntry, a.code = code → b.code = code →
      (cardCode a.code = false → cardCode b.code = false → a.code ≠ b.code) → False :=
    fun a b ha hb hi => hi (ha ▸ hc) (hb ▸ hc) (ha.trans hb.symm)
  constructor
  · simpa [List.countP_map, Function.comp_def, hcode] using h.card
  · simpa [hcode] using h.codes
  · rw [List.filter_map, List.pairwise_map]
    simpa [Function.comp_def, hcode] using h.internal
  · rw [List.pairwise_map]
    have hi := List.pairwise_filter.1 h.internal
    refine (h.distinct.and hi).imp fun {a b} ⟨hd, hi⟩ he => ?_
    simp only [Bool.not_eq_true'] at hi
    by_cases ha : a.code = code <;> by_cases hb : b.code = code
    · exact hone a b ha hb hi
    all_goals simp_all

theorem AlarmUnit.has_false_iff (a : AlarmUnit) (code : Word16) :
    a.has code = false ↔ ∀ e ∈ a.own, e.code ≠ code := by simp [AlarmUnit.has]

/-- R173: placing an ALARM frame moves no list of the alarm unit. -/
theorem Station.placeAlarmIfPermitted_alarmKept (s : Station) : AlarmKept s s.placeAlarmIfPermitted := by
  unfold Station.placeAlarmIfPermitted Station.placeAlarm
  split
  · split <;> exact .of_same rfl rfl rfl
  · exact .refl s

theorem Station.announceList_alarmKept (s : Station) : AlarmKept s s.announceList := by
  unfold Station.announceList
  split
  · exact .of_same rfl rfl rfl
  · exact s.placeAlarmIfPermitted_alarmKept

/-- R172: the own list replaced by one within its bounds. -/
theorem Station.setOwn_kept (s : Station) (l : List AlarmEntry) (h : OwnOk s.alarm.own → OwnOk l) :
    AlarmKept s (s.setOwn l) := by
  have one : AlarmKept s
      { s with alarm := { s.alarm with own := l, ownSeq := s.alarm.ownSeq + 1 } } :=
    ⟨fun g => ⟨(ownListBounded_iff _).2 (h ((ownListBounded_iff s).1 g.1)), viewBounded_congr (s := s) rfl g.2⟩,
      fun _ g => g⟩
  exact one.trans (Station.announceList_alarmKept _)

/-! ### The sources of the view (R176) -/

theorem Station.ownEntries_distinct {s : Station} (h : OwnListBounded s) : Distinct s.ownEntries := by
  refine List.pairwise_map.2 (h.distinct.imp fun {a b} hab he => hab ?_)
  simp only [AlarmEntry.inView, ViewEntry.ident, Ident.mk.injEq] at he
  simp [he]

theorem markerEntry_subject {own p : Slot} {m : Marker} {e : ViewEntry} (h : markerEntry own p m = some e) :
    e.source = own ∧ e.subject = some p ∧ syntheticCode e.code = true := by
  cases m <;> cases h <;> exact ⟨rfl, rfl, rfl⟩

theorem Station.syntheticEntries_distinct (s : Station) : Distinct s.syntheticEntries := by
  have hslots : allSlots.Pairwise fun p q => p ≠ q := by decide
  refine List.pairwise_filterMap.2 (hslots.imp fun {p q} hpq a ha b hb he => hpq ?_)
  have h1 := (markerEntry_subject ha).2.1
  have h2 := (markerEntry_subject hb).2.1
  simp only [ViewEntry.ident, Ident.mk.injEq] at he
  simpa [h1, h2] using he.2.2

/-- R176: no own entry has the code of a synthetic one. -/
theorem Station.own_not_synthetic {s : Station} (h : OwnListBounded s) {e : AlarmEntry}
    (he : e ∈ s.alarm.own) : syntheticCode e.code = false := by
  have hc := h.codes e he
  have other (code : Word16) (hn : ¬(cardCode code = true ∨ InternalCode code)) : e.code ≠ code :=
    fun h => hn (h ▸ hc)
  simp [syntheticCode, other cardMissing (by decide), other cardRemoved (by decide)]

theorem Station.ownAndSynthetic_distinct {s : Station} (h : OwnListBounded s) :
    Distinct (s.ownEntries ++ s.syntheticEntries) := by
  refine List.pairwise_append.2
    ⟨Station.ownEntries_distinct h, s.syntheticEntries_distinct, fun a ha b hb he => ?_⟩
  obtain ⟨x, hx, rfl⟩ := List.mem_map.1 ha
  obtain ⟨p, -, hp⟩ := List.mem_filterMap.1 hb
  have hs := (markerEntry_subject hp).2.2
  have hx := Station.own_not_synthetic h hx
  simp only [AlarmEntry.inView, ViewEntry.ident, Ident.mk.injEq] at he
  simp [he.2.1, hs] at hx

theorem firstOfEach_distinct (l : List ViewEntry) : Distinct (firstOfEach l) := by
  induction l with
  | nil => exact List.Pairwise.nil
  | cons e t ih =>
    refine List.pairwise_cons.2 ⟨fun x hx => ?_, List.Pairwise.filter _ ih⟩
    have hx := (List.mem_filter.1 hx).2
    simp only [Bool.not_eq_true', decide_eq_false_iff_not] at hx
    exact Ne.symm hx

theorem Station.peerEntries_distinct (p : Slot) (s : Station) : Distinct (s.peerEntries p) := by
  unfold Station.peerEntries
  dsimp only
  split
  · exact firstOfEach_distinct _
  · exact List.Pairwise.nil

/-! ### The operations of the alarm unit -/

/-- Whatever follows may assume the bounds that the lists have before. -/
theorem AlarmKept.of_lists {s t : Station} (h : Lists s → AlarmKept s t) : AlarmKept s t :=
  ⟨fun hl => (h hl).lists hl, fun hl => (h hl).order hl⟩

theorem Station.raiseViewFull_kept (s : Station) : AlarmKept s s.raiseViewFull := by
  unfold Station.raiseViewFull
  split
  · exact .refl s
  next h =>
    have raised (ho : OwnOk s.alarm.own) : OwnOk (s.alarm.own ++
        [{ code := alarmViewFull, sev := .warning, subject := none, raised := s.time.sec }]) :=
      ho.raised _ (by decide : InternalCode alarmViewFull) ((AlarmUnit.has_false_iff _ _).1 (by simpa using h))
    exact (s.setOwn_kept _ raised).trans
      (.of_lists fun hl => Station.offerMissing_kept _ _ (Station.ownEntries_distinct hl.1))

theorem Station.offer_kept (s : Station) (entries : List ViewEntry) (h : Distinct entries) :
    AlarmKept s (s.offer entries) := by
  unfold Station.offer
  dsimp only
  split
  · exact (s.offerMissing_kept _ h).trans (Station.raiseViewFull_kept _)
  · exact s.offerMissing_kept _ h

theorem removeFrom_sublist (mine : ViewEntry → Bool) (entries view : List ViewEntry) :
    (removeFrom mine entries view).Sublist view := List.filter_sublist

theorem Station.clearViewFull_kept (s : Station) : AlarmKept s s.clearViewFull :=
  ((s.setOwn_kept _ fun ho => ho.sublist List.filter_sublist).trans
    (Station.setView_sublist_kept _ _ (removeFrom_sublist _ _ _))).trans
      (.of_lists fun hl => Station.offer_kept _ _ (Station.ownAndSynthetic_distinct hl.1))

theorem Station.clearViewFullIfLow_kept (s : Station) (before : List ViewEntry) :
    AlarmKept s (s.clearViewFullIfLow before) := by
  unfold Station.clearViewFullIfLow
  split
  · exact s.clearViewFull_kept
  · exact .refl s

/-- R178: a merge of a source that names no identity twice. -/
theorem Station.merge_kept (s : Station) (mine : Station → ViewEntry → Bool)
    (entries : Station → List ViewEntry) (h : ∀ u, OwnListBounded u → Distinct (entries u)) :
    AlarmKept s (s.merge mine entries) := by
  have update (u : Station) :
      AlarmKept u (u.setView (updateFrom (mine u) (entries u) u.alarm.view)) :=
    u.setView_kept _
      (fun hl => ⟨(updateFrom_length _ _ _).trans_le hl.2.size, Distinct.updateFrom hl.2.distinct _ _⟩)
      fun hl _ => (Distinct.updated hl.2.distinct _ _).sortView
  exact (((s.setView_sublist_kept _ (removeFrom_sublist _ _ _)).trans
    (Station.clearViewFullIfLow_kept _ _)).trans (update _)).trans
      (.of_lists fun hl => Station.offer_kept _ _ (h _ hl.1))

theorem Station.mergePeer_kept (s : Station) (p : Slot) : AlarmKept s (s.mergePeer p) :=
  s.merge_kept _ _ fun u _ => u.peerEntries_distinct p

/-- R172, R178: a change of the own list to one within its bounds. -/
theorem Station.changeOwn_kept (s : Station) (l : List AlarmEntry) (h : OwnOk s.alarm.own → OwnOk l) :
    AlarmKept s (s.changeOwn l) :=
  (s.setOwn_kept l h).trans (Station.merge_kept _ _ _ fun _ => Station.ownEntries_distinct)

theorem Station.raiseInternal_kept (s : Station) (code : Word16) (hc : InternalCode code) :
    AlarmKept s (s.raiseInternal code) := by
  unfold Station.raiseInternal
  split
  · exact .refl s
  next h =>
    exact s.changeOwn_kept _ fun ho => ho.raised _ hc ((AlarmUnit.has_false_iff _ _).1 (by simpa using h))

theorem Station.clearInternal_kept (s : Station) (code : Word16) : AlarmKept s (s.clearInternal code) := by
  unfold Station.clearInternal
  split
  · exact s.changeOwn_kept _ fun ho => ho.sublist List.filter_sublist
  · exact .refl s

theorem AlarmUnit.talker_none {a : AlarmUnit} (h : a.talker = none) :
    ∀ e ∈ a.own, e.code ≠ talkerBarred := by
  simpa [AlarmUnit.talker] using h

theorem Station.keepTalker_kept (s : Station) : AlarmKept s s.keepTalker := by
  unfold Station.keepTalker
  split
  next h =>
    exact s.changeOwn_kept _ fun ho =>
      ho.raised _ (by decide : InternalCode talkerBarred) (AlarmUnit.talker_none h)
  · split
    · exact .refl s
    · exact s.changeOwn_kept _ fun ho => ho.resubjected _ (by decide) _
  · exact s.clearInternal_kept _
  · exact .refl s

theorem Station.setMarker_kept (s : Station) (p : Slot) (m : Marker) : AlarmKept s (s.setMarker p m) := by
  have one : AlarmKept s { s with alarm := { s.alarm with markers := s.alarm.markers.set p m } } :=
    .of_same rfl rfl rfl
  refine one.trans (Station.merge_kept _ _ _ fun u _ => ?_)
  cases h : markerEntry u.seat.slot p (u.alarm.markers.get p) with
  | none => exact List.Pairwise.nil
  | some e => exact List.pairwise_singleton _ _

/-- R171: the alarm unit takes a RAISE of one of the card's codes. -/
theorem Station.takeRaise_own (s : Station) (code : Word16) (sev : Severity) (subject : Option Slot)
    (hc : cardCode code = true) (ho : OwnOk s.alarm.own) :
    (∀ e, s.alarm.own.find? (fun e => e.is code subject) = some e →
      OwnOk (s.alarm.own.map fun x => if x.is code subject then { x with sev := sev } else x)) ∧
    (s.alarm.own.find? (fun e => e.is code subject) = none →
      s.alarm.cardEntries < Config.cardAlarms →
      OwnOk (s.alarm.own ++ [⟨code, sev, subject, s.time.sec⟩])) := by
  refine ⟨fun _ _ => ho.regraded _ fun e => ?_, fun hn hr => ho.cardRaised _ hc hr fun x hx => ?_⟩
  · split <;> exact ⟨rfl, rfl⟩
  · simpa using List.find?_eq_none.1 hn x hx

theorem Station.resetView_kept (s : Station) : AlarmKept s s.resetView := by
  have filtered : AlarmKept s (s.setView (s.alarm.view.filter fun e => e.source = s.seat.slot)) :=
    s.setView_sublist_kept _ List.filter_sublist
  have atEnd (u : Station) :
      AlarmKept u { u with alarm := { u.alarm with cursor := none, viewChanged := true } } :=
    ⟨fun h => ⟨ownListBounded_congr (s := u) rfl h.1, viewBounded_congr (s := u) rfl h.2⟩,
      fun _ h => ⟨h.1, fun _ hi => absurd hi (by simp)⟩⟩
  unfold Station.resetView
  dsimp only
  refine (filtered.trans (atEnd _)).trans (.trans ?_
    (.of_lists fun hl => Station.offer_kept _ _ (Station.ownAndSynthetic_distinct hl.1)))
  split
  · exact Station.clearViewFull_kept _
  · exact .refl _

end Sys2Proof.Machine
end

section
/-! SUPPORT. The queues (R66, R67, R70, R78): what the scheduler's operations keep of the capacities, the tags, the
place of the entry on the lane, and the reservation. -/

-- One theorem after another: the check's data limit has no room for a thread for each.
set_option Elab.async false

open Sys2Proof Sys2Proof.Machine Sys2Proof.Safety

namespace Sys2Proof.Machine

/-! ### What the queues are held to -/

/-- R67: behind the head no entry is on the lane. -/
def HeadOnly (l : List Entry) : Prop := l.Pairwise fun _ b => b.onLane = false

/-- SEND frames in any queue, plus the records not reaped. Internal queues carry no tag, so that this is the
reservation count of R78 (`QueueOk.held_eq`). -/
def Sched.held (c : Sched) : Nat :=
  sendFrames c.timing + sendFrames c.control + sendFrames c.express + sendFrames c.bulk + c.completions.length

/-- R66, R67, R70, R78: what `QueuesBounded` says outside a reset hold, queue by queue, of the scheduler and the
attempt in progress. -/
structure QueueOk (c : Sched) (attempt : Option Attempt) : Prop where
  size : ∀ q, (c.queue q).length ≤ q.capacity
  internal : ∀ q, q = .timing ∨ q = .control → ∀ e ∈ c.queue q, e.tag = none
  headOnly : ∀ q, HeadOnly (c.queue q)
  lane : ∀ q, ∀ e ∈ c.queue q, e.onLane = true → ∃ a ∈ attempt, a.queue = q
  held : c.held ≤ Config.reservation
  offered : c.offer.isSome → attempt = none

theorem sendFrames_eq_zero {l : List Entry} : sendFrames l = 0 ↔ ∀ e ∈ l, e.tag = none := by
  simp [sendFrames, List.countP_eq_zero]

theorem Sched.held_eq_reserved {c : Sched}
    (h : ∀ q, q = .timing ∨ q = .control → ∀ e ∈ c.queue q, e.tag = none) : c.held = c.reserved := by
  have ht : sendFrames c.timing = 0 := sendFrames_eq_zero.2 (h .timing (.inl rfl))
  have hc : sendFrames c.control = 0 := sendFrames_eq_zero.2 (h .control (.inr rfl))
  simp [Sched.held, Sched.reserved, ht, hc]

theorem onLaneAtHead_iff (s : Station) (q : FrameClass) :
    OnLaneAtHead s q ↔
      HeadOnly (s.sched.queue q) ∧
        ∀ e ∈ s.sched.queue q, e.onLane = true → ∃ a ∈ s.lane.attempt, a.queue = q := by
  unfold OnLaneAtHead HeadOnly Sched.behindHead Sched.onLaneHead
  cases s.sched.queue q with
  | nil => simp
  | cons e l =>
    constructor
    · rintro ⟨hb, ho⟩
      refine ⟨List.pairwise_cons.2 ⟨fun x hx => hb x hx, ?_⟩, fun x hx hl => ?_⟩
      · exact List.pairwise_of_forall_mem_list fun _ _ b hb' => hb b hb'
      · rcases List.mem_cons.1 hx with rfl | hx
        · exact ho (by simp [hl])
        · simp [hb x hx] at hl
    · rintro ⟨hp, ho⟩
      refine ⟨(List.pairwise_cons.1 hp).1, fun hs => ?_⟩
      by_cases hl : e.onLane = true
      · exact ho e List.mem_cons_self hl
      · simp [hl] at hs

/-- Outside a reset hold the invariant is `QueueOk`. -/
theorem queuesBounded_iff {s : Station} (hh : s.hold = false) :
    QueuesBounded s ↔ QueueOk s.sched s.lane.attempt := by
  constructor
  · intro h
    have internal : ∀ q, q = .timing ∨ q = .control → ∀ e ∈ s.sched.queue q, e.tag = none := by
      rintro q (rfl | rfl) e he
      · exact h.internal e (List.mem_append_left _ he)
      · exact h.internal e (List.mem_append_right _ he)
    exact {
      size := fun q => by
        cases q
        · exact h.timing
        · exact h.control
        · exact h.express
        · exact h.bulk
      internal := internal
      headOnly := fun q => ((onLaneAtHead_iff s q).1 (h.lane hh q)).1
      lane := fun q => ((onLaneAtHead_iff s q).1 (h.lane hh q)).2
      held := (Sched.held_eq_reserved internal).trans_le h.reserved
      offered := h.offered }
  · intro h
    exact {
      timing := h.size .timing
      control := h.size .control
      express := h.size .express
      bulk := h.size .bulk
      reserved := (Sched.held_eq_reserved h.internal).symm.trans_le h.held
      internal := fun e he => (List.mem_append.1 he).elim
        (h.internal .timing (.inl rfl) e) (h.internal .control (.inr rfl) e)
      lane := fun _ q => (onLaneAtHead_iff s q).2 ⟨h.headOnly q, h.lane q⟩
      offered := h.offered }

/-- One queue and the records replaced, and perhaps the attempt: everything that has to be looked at. -/
theorem QueueOk.replace {c d : Sched} {attempt now : Option Attempt} (h : QueueOk c attempt) (q : FrameClass)
    (others : ∀ r, r ≠ q → d.queue r = c.queue r)
    (size : (d.queue q).length ≤ q.capacity)
    (internal : (∀ e ∈ c.queue q, e.tag = none) → ∀ e ∈ d.queue q, e.tag = none)
    (headOnly : HeadOnly (d.queue q))
    (lane : ∀ e ∈ d.queue q, e.onLane = true → ∃ a ∈ now, a.queue = q)
    (kept : ∀ r, r ≠ q → (∃ a ∈ attempt, a.queue = r) → ∃ a ∈ now, a.queue = r)
    (held : sendFrames (d.queue q) + d.completions.length ≤ sendFrames (c.queue q) + c.completions.length)
    (offered : d.offer.isSome → now = none) : QueueOk d now where
  size r := by
    by_cases hr : r = q
    · exact hr ▸ size
    · rw [others r hr]; exact h.size r
  internal r hi := by
    by_cases hr : r = q
    · subst hr; exact internal (h.internal r hi)
    · rw [others r hr]; exact h.internal r hi
  headOnly r := by
    by_cases hr : r = q
    · exact hr ▸ headOnly
    · rw [others r hr]; exact h.headOnly r
  lane r e he hl := by
    by_cases hr : r = q
    · subst hr; exact lane e he hl
    · rw [others r hr] at he; exact kept r hr (h.lane r e he hl)
  held := by
    have hh := h.held
    have ht := others .timing
    have hc := others .control
    have he := others .express
    have hb := others .bulk
    cases q <;> simp [Sched.queue] at ht hc he hb held <;> simp only [Sched.held, *] at hh ⊢ <;> omega
  offered := offered

/-- `QueueOk.replace` with the attempt and the offer as they were. -/
theorem QueueOk.replaceQueue {c d : Sched} {attempt : Option Attempt} (h : QueueOk c attempt) (q : FrameClass)
    (others : ∀ r, r ≠ q → d.queue r = c.queue r)
    (size : (d.queue q).length ≤ q.capacity)
    (internal : (∀ e ∈ c.queue q, e.tag = none) → ∀ e ∈ d.queue q, e.tag = none)
    (headOnly : HeadOnly (d.queue q))
    (lane : ∀ e ∈ d.queue q, e.onLane = true → ∃ x ∈ c.queue q, x.onLane = true)
    (held : sendFrames (d.queue q) + d.completions.length ≤ sendFrames (c.queue q) + c.completions.length)
    (offer : d.offer = c.offer) : QueueOk d attempt :=
  h.replace q others size internal headOnly
    (fun e he hl => (lane e he hl).elim fun x hx => h.lane q x hx.1 hx.2) (fun _ _ ha => ha) held
    (offer ▸ h.offered)

/-! ### Queues that shrink -/

/-- Entries have left a queue, and those that stay keep their tag and their place on the lane. -/
def Thinned (l m : List Entry) : Prop :=
  ∃ (k : List Entry) (f : Entry → Entry), k.Sublist l ∧ m = k.map f ∧
    ∀ e, (f e).tag = e.tag ∧ (f e).onLane = e.onLane

theorem Thinned.ofSublist {l m : List Entry} (h : m.Sublist l) : Thinned l m :=
  ⟨m, id, h, by simp, fun _ => ⟨rfl, rfl⟩⟩

theorem Thinned.ofMap (l : List Entry) (f : Entry → Entry)
    (hf : ∀ e, (f e).tag = e.tag ∧ (f e).onLane = e.onLane) : Thinned l (l.map f) :=
  ⟨l, f, .refl _, rfl, hf⟩

theorem Withdrawn.thinned {l m : List Entry} (h : Withdrawn l m) : Thinned l m := by
  obtain ⟨keep, f, rfl, hf, -⟩ := h
  refine ⟨_, f, List.filter_sublist, rfl, fun e => ?_⟩
  obtain ⟨w, hw⟩ := hf e
  rw [hw]
  exact ⟨rfl, rfl⟩

section Thinned
variable {l m : List Entry}

theorem Thinned.length_le (h : Thinned l m) : m.length ≤ l.length := by
  obtain ⟨k, f, hk, rfl, -⟩ := h
  simpa using hk.length_le

theorem Thinned.tags (h : Thinned l m) (ht : ∀ e ∈ l, e.tag = none) : ∀ e ∈ m, e.tag = none := by
  obtain ⟨k, f, hk, rfl, hf⟩ := h
  rintro e he
  obtain ⟨x, hx, rfl⟩ := List.mem_map.1 he
  rw [(hf x).1]
  exact ht x (hk.subset hx)

theorem Thinned.headOnly (h : Thinned l m) (ho : HeadOnly l) : HeadOnly m := by
  obtain ⟨k, f, hk, rfl, hf⟩ := h
  exact List.pairwise_map.2 ((ho.sublist hk).imp fun {_ b} hb => (hf b).2.trans hb)

theorem Thinned.lane (h : Thinned l m) : ∀ e ∈ m, e.onLane = true → ∃ x ∈ l, x.onLane = true := by
  obtain ⟨k, f, hk, rfl, hf⟩ := h
  rintro e he hl
  obtain ⟨x, hx, rfl⟩ := List.mem_map.1 he
  exact ⟨x, hk.subset hx, (hf x).2 ▸ hl⟩

theorem Thinned.sendFrames_le (h : Thinned l m) : sendFrames m ≤ sendFrames l := by
  obtain ⟨k, f, hk, rfl, hf⟩ := h
  simpa [sendFrames, List.countP_map, Function.comp_def, hf] using hk.countP_le

end Thinned

/-- A queue thinned, with no more records than frames that left it. -/
theorem QueueOk.thinned {c d : Sched} {attempt : Option Attempt} (h : QueueOk c attempt) (q : FrameClass)
    (thin : Thinned (c.queue q) (d.queue q)) (others : ∀ r, r ≠ q → d.queue r = c.queue r)
    (held : sendFrames (d.queue q) + d.completions.length ≤ sendFrames (c.queue q) + c.completions.length)
    (offer : d.offer = c.offer) : QueueOk d attempt :=
  h.replaceQueue q others (thin.length_le.trans (h.size q)) thin.tags (thin.headOnly (h.headOnly q)) thin.lane
    held offer

/-- A queue thinned, with no record written. -/
theorem QueueOk.setQueue {c : Sched} {attempt : Option Attempt} (h : QueueOk c attempt) (q : FrameClass)
    (l : List Entry) (thin : Thinned (c.queue q) l) : QueueOk (c.setQueue q l) attempt :=
  h.thinned q (by simpa using thin) (fun r hr => Sched.queue_setQueue_other _ _ _ _ hr)
    (by simpa using thin.sendFrames_le) (by simp)

/-! ### Records and flushes (R76, R79 to R82) -/

theorem sendFrames_append (l m : List Entry) : sendFrames (l ++ m) = sendFrames l + sendFrames m :=
  List.countP_append

theorem sendFrames_cons (e : Entry) (l : List Entry) :
    sendFrames (e :: l) = sendFrames l + if e.tag.isSome then 1 else 0 := by
  simp [sendFrames, List.countP_cons]

/-- R76: each SEND frame writes one record. -/
theorem filterMap_record_length (l : List Entry) (o : FrameOutcome) :
    (l.filterMap (Entry.record · o)).length = sendFrames l := by
  induction l with
  | nil => rfl
  | cons e l ih => cases h : e.tag <;> simp [Entry.record, h, sendFrames_cons, ← ih]

theorem sendFrames_filter (l : List Entry) (p : Entry → Bool) :
    sendFrames (l.filter fun e => !p e) + sendFrames (l.filter p) = sendFrames l := by
  induction l with
  | nil => rfl
  | cons e l ih => cases h : p e <;> simp [h, sendFrames_cons, ← ih] <;> omega

theorem Entry.markPending_same (e : Entry) (o : FrameOutcome) :
    (e.markPending o).tag = e.tag ∧ (e.markPending o).onLane = e.onLane := ⟨rfl, rfl⟩

theorem Station.flush_queueOk (s : Station) (q : FrameClass) (hit : Entry → Bool) (o : FrameOutcome)
    {attempt : Option Attempt} (h : QueueOk s.sched attempt) : QueueOk (s.flush q hit o).sched attempt := by
  obtain ⟨-, hq, ho, hf, hc⟩ := s.flush_spec q hit o
  have same (e : Entry) : (if hit e then e.markPending o else e).tag = e.tag ∧
      (if hit e then e.markPending o else e).onLane = e.onLane := by split <;> exact ⟨rfl, rfl⟩
  refine h.thinned q ⟨_, _, List.filter_sublist, hq, same⟩ ho ?_ hf
  have marked (l : List Entry) :
      sendFrames (l.map fun e => if hit e then e.markPending o else e) = sendFrames l := by
    simp [sendFrames, List.countP_map, Function.comp_def, same]
  rw [hq, hc, marked, List.length_append, filterMap_record_length]
  have := sendFrames_filter (s.sched.queue q) fun e => hit e && !e.onLane
  omega

theorem Station.flushSlot_queueOk (s : Station) (p : Slot) {attempt : Option Attempt}
    (h : QueueOk s.sched attempt) : QueueOk (s.flushSlot p).sched attempt :=
  Station.flush_queueOk _ _ _ _ (s.flush_queueOk _ _ _ h)

theorem Station.flushCards_queueOk (s : Station) {attempt : Option Attempt} (h : QueueOk s.sched attempt) :
    QueueOk s.flushCards.sched attempt :=
  Station.flush_queueOk _ _ _ _ (s.flush_queueOk _ _ _ h)

theorem Station.emptyInternal_queueOk (s : Station) {attempt : Option Attempt} (h : QueueOk s.sched attempt) :
    QueueOk s.emptyInternal.sched attempt :=
  (h.setQueue .timing [] (.ofSublist (List.nil_sublist _))).setQueue .control []
    (.ofSublist (List.nil_sublist _))

/-! ### The offer (R70, R97) -/

theorem Station.bulkSelection_queueOk (s : Station) {attempt : Option Attempt} (h : QueueOk s.sched attempt)
    (ho : s.bulkSelection.sched.offer = s.sched.offer) : QueueOk s.bulkSelection.sched attempt := by
  obtain ⟨-, hother, hsheds, hstays⟩ := s.bulkSelection_spec
  by_cases hm : s.seat.maySendAlarms = true
  · obtain ⟨hb, hc⟩ := hsheds hm
    have hq : s.bulkSelection.sched.queue .bulk = s.sched.bulk.dropWhile s.sheds := hb
    refine h.thinned .bulk (hq ▸ .ofSublist (List.dropWhile_sublist _)) hother ?_ ho
    have hsplit := congrArg sendFrames (List.takeWhile_append_dropWhile (p := s.sheds) (l := s.sched.bulk))
    rw [sendFrames_append] at hsplit
    rw [hq, hc, List.length_append, filterMap_record_length]
    simp only [Sched.queue]
    omega
  · rw [hstays (by simpa using hm)]
    exact h

theorem Station.bulkSelection_offer (s : Station) : s.bulkSelection.sched.offer = s.sched.offer := by
  unfold Station.bulkSelection
  split
  · exact (foldl_retire _ _ _).2.2.1.trans (by simp)
  · rfl

/-- The same queues with the same number of records. -/
theorem QueueOk.congr {c d : Sched} {attempt : Option Attempt} (h : QueueOk c attempt)
    (same : ∀ q, d.queue q = c.queue q) (records : d.completions.length ≤ c.completions.length)
    (offered : d.offer.isSome → attempt = none) : QueueOk d attempt :=
  h.replace .timing (fun r _ => same r) (same .timing ▸ h.size .timing) (same .timing ▸ fun hi => hi)
    (same .timing ▸ h.headOnly .timing) (same .timing ▸ h.lane .timing) (fun _ _ ha => ha)
    (by rw [same .timing]; omega) offered

theorem QueueOk.withOffer {c : Sched} {attempt : Option Attempt} (h : QueueOk c attempt) (o : Option FrameClass)
    (ho : o.isSome → attempt = none) : QueueOk { c with offer := o } attempt :=
  h.congr (fun q => by cases q <;> rfl) le_rfl ho

/-- R70: renewing the offer asks nothing of the offer before. -/
theorem Station.renewOffer_queueOk (s : Station)
    (h : QueueOk { s.sched with offer := none } s.lane.attempt) :
    QueueOk s.renewOffer.sched s.lane.attempt := by
  have set (o : Option FrameClass) (ho : o.isSome → s.lane.attempt = none) :
      QueueOk (s.setOffer o).sched s.lane.attempt := h.withOffer o ho
  unfold Station.renewOffer
  split
  · exact set none (by simp)
  next hn =>
    have idle : s.lane.attempt = none := by simp_all
    split
    · exact set _ fun _ => idle
    · split
      · exact set _ fun _ => idle
      · split
        · exact set _ fun _ => idle
        · have full : QueueOk s.sched s.lane.attempt := h.withOffer s.sched.offer fun _ => idle
          exact (s.bulkSelection_queueOk full s.bulkSelection_offer).withOffer _ fun _ => idle

/-! ### Results (R72) -/

/-- R71 to R74: an entry that stays is off the lane and keeps its tag; one that leaves keeps its tag. -/
theorem Entry.fate_tag (e : Entry) (r : AttemptEnd) (contending : Bool) (start : Option Stamp) (now : Nat) :
    match e.fate r contending start now with
    | .stays e' => e'.tag = e.tag ∧ e'.onLane = false
    | .leaves e' _ => e'.tag = e.tag := by
  unfold Entry.fate Entry.afterFault Entry.afterRefusal Entry.counted Entry.lost
  grind

theorem HeadOnly.tail_off {l : List Entry} (h : HeadOnly l) : ∀ e ∈ l.tail, e.onLane = false := by
  cases l with
  | nil => simp
  | cons x l => exact (List.pairwise_cons.1 h).1

/-- With no head on the lane nothing of the queue is. -/
theorem QueueOk.off_of_onLaneHead_none {c : Sched} {attempt : Option Attempt} (h : QueueOk c attempt)
    (q : FrameClass) (hn : c.onLaneHead q = none) : ∀ e ∈ c.queue q, e.onLane = false := by
  have ho := h.headOnly q
  unfold Sched.onLaneHead at hn
  cases hq : c.queue q with
  | nil => simp
  | cons x l =>
    rw [hq] at hn ho
    intro e he
    rcases List.mem_cons.1 he with rfl | he
    · simpa using hn
    · exact (List.pairwise_cons.1 ho).1 e he

/-- R72: the attempt's result at its queue, with the attempt gone. -/
theorem Station.result_queueOk (s : Station) (a : Attempt) (r : AttemptEnd)
    (h : QueueOk s.sched (some a)) :
    QueueOk ((s.clearAttempt).applyFate a.queue (s.resultFate a r)).sched none := by
  have off (r : FrameClass) (hr : r ≠ a.queue) : ∀ e ∈ s.sched.queue r, e.onLane = false := by
    intro e he
    by_contra hl
    obtain ⟨b, hb, hq⟩ := h.lane r e he (by simpa using hl)
    cases hb
    exact hr hq.symm
  have gone : ∀ r, r ≠ a.queue → (∃ b ∈ some a, b.queue = r) → ∃ b ∈ (none : Option Attempt), b.queue = r := by
    rintro r hr ⟨b, hb, hq⟩
    cases hb
    exact absurd hq.symm hr
  cases he : s.sched.onLaneHead a.queue with
  | none =>
    have hs : ((s.clearAttempt).applyFate a.queue (s.resultFate a r)).sched = s.sched := by
      simp [Station.resultFate, he, Station.applyFate]
    rw [hs]
    refine h.replace a.queue (fun _ _ => rfl) (h.size _) (fun hi => hi) (h.headOnly _) ?_ gone le_rfl
      (fun _ => rfl)
    intro e hm hl
    simp [h.off_of_onLaneHead_none _ he e hm] at hl
  | some e =>
    obtain ⟨hon, hq⟩ := (Sched.onLaneHead_eq_some _ _ _).1 he
    have hho := h.headOnly a.queue
    have hsz := h.size a.queue
    rw [hq] at hho hsz
    have htail := (List.pairwise_cons.1 hho).1
    have fate := Entry.fate_tag e r (a.phase = .contending) a.start s.localTime
    have hf : s.resultFate a r = some (e.fate r (a.phase = .contending) a.start s.localTime) := by
      simp [Station.resultFate, he]
    rw [hf]
    have hother (r : FrameClass) (f : Fate) (hr : r ≠ a.queue) :
        ((s.clearAttempt).applyFate a.queue (some f)).sched.queue r = s.sched.queue r :=
      Station.applyFate_queue_other _ _ _ _ hr
    have hnew := Station.applyFate_queue s.clearAttempt a.queue
      (some (e.fate r (a.phase = .contending) a.start s.localTime))
    cases hfate : e.fate r (a.phase = .contending) a.start s.localTime with
    | stays e' =>
      rw [hfate] at fate hnew
      obtain ⟨htag, hoff⟩ := fate
      have hnew : ((s.clearAttempt).applyFate a.queue (some (.stays e'))).sched.queue a.queue =
          e' :: s.sched.behindHead a.queue := hnew
      refine h.replace a.queue (fun r hr => hother r _ hr) ?_ ?_ ?_ ?_ gone ?_ fun _ => rfl
      · rw [hnew]; simpa using hsz
      · rw [hnew, hq]
        simp [htag]
      · rw [hnew]
        exact List.pairwise_cons.2 ⟨htail, (List.pairwise_cons.1 hho).2⟩
      · rw [hnew]
        intro x hx hl
        rcases List.mem_cons.1 hx with rfl | hx
        · simp [hoff] at hl
        · simp [htail x hx] at hl
      · rw [hnew, hq, sendFrames_cons, sendFrames_cons, htag]
        simp [Station.applyFate]
    | leaves e' o =>
      rw [hfate] at fate hnew
      have hnew : ((s.clearAttempt).applyFate a.queue (some (.leaves e' o))).sched.queue a.queue =
          s.sched.behindHead a.queue := hnew
      refine h.replace a.queue (fun r hr => hother r _ hr) ?_ ?_ ?_ ?_ gone ?_ fun _ => rfl
      · rw [hnew]
        simp at hsz
        omega
      · rw [hnew, hq]
        exact fun hi x hx => hi x (List.mem_cons_of_mem e hx)
      · rw [hnew]
        exact (List.pairwise_cons.1 hho).2
      · rw [hnew]
        intro x hx hl
        simp [htail x hx] at hl
      · have hrec : (e'.record o).toList.length = if e.tag.isSome then 1 else 0 := by
          rw [← fate]
          cases ht : e'.tag <;> simp [Entry.record, ht]
        rw [hnew, hq, sendFrames_cons]
        simp only [Station.applyFate, Station.retire_completions, List.length_append, hrec,
          Station.setQueue_sched, Sched.setQueue_completions]
        simp
        omega

/-! ### Placements (R66 to R68) -/

theorem Entry.internal_tag (kind : FrameKind) (payload : List Byte) : (Entry.internal kind payload).tag = none :=
  rfl

theorem Sched.hasRoom_iff (c : Sched) (q : FrameClass) :
    c.hasRoom q = true ↔ (c.queue q).length < q.capacity := by simp [Sched.hasRoom]

theorem HeadOnly.append {l m : List Entry} (h : HeadOnly l) (hm : ∀ e ∈ m, e.onLane = false) :
    HeadOnly (l ++ m) :=
  List.pairwise_append.2
    ⟨h, List.pairwise_of_forall_mem_list fun _ _ b hb => hm b hb, fun _ _ b hb => hm b hb⟩

/-- R68: an entry placed at the tail of a queue with room, counted against the reservation where it has a tag. -/
theorem QueueOk.append {c : Sched} {attempt : Option Attempt} (h : QueueOk c attempt) (q : FrameClass)
    (e : Entry) (room : c.hasRoom q = true) (off : e.onLane = false)
    (tag : q = .timing ∨ q = .control → e.tag = none)
    (held : c.held + (if e.tag.isSome then 1 else 0) ≤ Config.reservation) :
    QueueOk (c.append q e) attempt := by
  have others (r : FrameClass) (hr : r ≠ q) : (c.append q e).queue r = c.queue r :=
    Sched.queue_setQueue_other _ _ _ _ hr
  have new : (c.append q e).queue q = c.queue q ++ [e] := Sched.queue_setQueue_same _ _ _
  have hroom := (c.hasRoom_iff q).1 room
  constructor
  · intro r
    by_cases hr : r = q
    · subst hr; rw [new, List.length_append]; exact hroom
    · rw [others r hr]; exact h.size r
  · intro r hi x hx
    by_cases hr : r = q
    · subst hr
      rw [new] at hx
      rcases List.mem_append.1 hx with hx | hx
      · exact h.internal r hi x hx
      · rw [List.mem_singleton.1 hx]; exact tag hi
    · rw [others r hr] at hx; exact h.internal r hi x hx
  · intro r
    by_cases hr : r = q
    · subst hr; rw [new]; exact (h.headOnly r).append fun x hx => by rw [List.mem_singleton.1 hx]; exact off
    · rw [others r hr]; exact h.headOnly r
  · intro r x hx hl
    by_cases hr : r = q
    · subst hr
      rw [new] at hx
      rcases List.mem_append.1 hx with hx | hx
      · exact h.lane r x hx hl
      · rw [List.mem_singleton.1 hx, off] at hl; cases hl
    · rw [others r hr] at hx; exact h.lane r x hx hl
  · refine le_trans (le_of_eq ?_) held
    cases q <;> simp [Sched.append, Sched.setQueue, Sched.queue, Sched.held, sendFrames] <;> omega
  · rw [Sched.append, Sched.setQueue_offer]; exact h.offered

/-- An entry without a tag placed at the tail of a queue with room. -/
theorem QueueOk.appendUntagged {c : Sched} {attempt : Option Attempt} (h : QueueOk c attempt) (q : FrameClass)
    (e : Entry) (room : c.hasRoom q = true) (off : e.onLane = false) (tag : e.tag = none) :
    QueueOk (c.append q e) attempt :=
  h.append q e room off (fun _ => tag) (by simpa [tag] using h.held)

/-- R68: with room for one, or an entry off the lane to discard, CONTROL holds seven at most. -/
theorem controlWithRoom_length {l : List Entry} (hs : l.length ≤ 8) (ho : HeadOnly l) :
    (controlWithRoom l).length ≤ 7 := by
  unfold controlWithRoom
  split
  next h => simp [FrameClass.capacity] at h; omega
  next h =>
    have hlen : l.length = 8 := by simp [FrameClass.capacity] at h; omega
    obtain ⟨x, y, t, rfl⟩ : ∃ x y t, l = x :: y :: t := by
      match l with
      | x :: y :: t => exact ⟨x, y, t, rfl⟩
      | [x] | [] => simp at hlen
    have hy : y.onLane = false := (List.pairwise_cons.1 ho).1 y List.mem_cons_self
    rw [List.length_reverse, List.length_eraseP_of_mem (a := y) (by simp) (by simp [hy]), List.length_reverse]
    omega

theorem controlWithRoom_sublist (l : List Entry) : (controlWithRoom l).Sublist l := by
  unfold controlWithRoom
  split
  · exact .refl l
  · have h := (List.eraseP_sublist (p := fun e : Entry => !e.onLane) (l := l.reverse)).reverse
    rwa [List.reverse_reverse] at h

/-- R68: the entry placed behind the one on the lane, or first. -/
theorem insertAtHead_perm (l : List Entry) (e : Entry) : (insertAtHead l e).Perm (e :: l) := by
  unfold insertAtHead
  split
  · split
    · exact .swap _ _ _
    · exact .refl _
  · exact .refl _

theorem HeadOnly.insertAtHead {l : List Entry} (h : HeadOnly l) (e : Entry) (off : e.onLane = false) :
    HeadOnly (insertAtHead l e) := by
  unfold Machine.insertAtHead
  split
  next x t =>
    obtain ⟨hx, ht⟩ := List.pairwise_cons.1 h
    split
    · exact List.pairwise_cons.2
        ⟨fun y hy => (List.mem_cons.1 hy).elim (fun hy => hy ▸ off) (hx y), List.pairwise_cons.2 ⟨hx, ht⟩⟩
    next hn =>
      refine List.pairwise_cons.2 ⟨fun y hy => ?_, h⟩
      rcases List.mem_cons.1 hy with rfl | hy
      · simpa using hn
      · exact hx y hy
  · exact List.pairwise_singleton _ _

/-- R68: a JOIN or a LEAVE at the head of CONTROL. -/
theorem QueueOk.placeAtHead {c : Sched} {attempt : Option Attempt} (h : QueueOk c attempt) (kind : FrameKind) :
    QueueOk (c.placeAtHead (Entry.internal kind [])) attempt := by
  have hsub := controlWithRoom_sublist c.control
  have hperm := insertAtHead_perm (controlWithRoom c.control) (Entry.internal kind [])
  have hmem (x : Entry) (hx : x ∈ insertAtHead (controlWithRoom c.control) (Entry.internal kind [])) :
      x = Entry.internal kind [] ∨ x ∈ c.control :=
    (List.mem_cons.1 (hperm.mem_iff.1 hx)).imp_right (hsub.subset ·)
  refine h.replaceQueue .control (fun r hr => by cases r <;> first | rfl | exact absurd rfl hr) ?_ ?_ ?_ ?_ ?_ rfl
  · have := controlWithRoom_length (l := c.control) (h.size .control) (h.headOnly .control)
    simp only [Sched.placeAtHead, Sched.queue, hperm.length_eq, List.length_cons, FrameClass.capacity]
    omega
  · intro hi x hx
    rcases hmem x hx with rfl | hx
    · rfl
    · exact hi x hx
  · exact HeadOnly.insertAtHead ((h.headOnly .control).sublist hsub) _ rfl
  · intro x hx hl
    rcases hmem x hx with rfl | hx
    · cases hl
    · exact ⟨x, hx, hl⟩
  · have hc : sendFrames (insertAtHead (controlWithRoom c.control) (Entry.internal kind [])) = 0 := by
      refine sendFrames_eq_zero.2 fun x hx => ?_
      rcases hmem x hx with rfl | hx
      · rfl
      · exact h.internal .control (.inr rfl) x hx
    simp [Sched.placeAtHead, Sched.queue, hc]

/-- R173: CONTROL as the alarm unit leaves it. -/
theorem QueueOk.controlTold {c d : Sched} {attempt : Option Attempt} (h : QueueOk c attempt)
    (others : ∀ r, r ≠ .control → d.queue r = c.queue r) (told : ControlTold c.control d.control)
    (records : d.completions = c.completions) (offer : d.offer = c.offer) : QueueOk d attempt := by
  obtain ⟨f, tail, hd, hf, -, ht, hl⟩ := told
  have hsame (e : Entry) : (f e).tag = e.tag ∧ (f e).onLane = e.onLane := by
    obtain ⟨p, hp⟩ := hf e
    rw [hp]; exact ⟨rfl, rfl⟩
  have htail (e : Entry) (he : e ∈ tail) : e.tag = none ∧ e.onLane = false := by
    obtain ⟨p, rfl⟩ := ht e he
    exact ⟨rfl, rfl⟩
  have thin := Thinned.ofMap c.control f hsame
  have hq : d.queue .control = c.control.map f ++ tail := hd
  have tags (hi : ∀ e ∈ c.control, e.tag = none) : ∀ e ∈ d.queue .control, e.tag = none := by
    rw [hq]
    exact fun e he => (List.mem_append.1 he).elim (thin.tags hi e) fun he => (htail e he).1
  refine h.replaceQueue .control others ?_ tags ?_ ?_ ?_ offer
  · have := h.size .control
    simp only [Sched.queue, FrameClass.capacity] at this hl ⊢
    omega
  · rw [hq]
    exact (thin.headOnly (h.headOnly .control)).append fun e he => (htail e he).2
  · rw [hq]
    intro e he hl
    rcases List.mem_append.1 he with he | he
    · exact thin.lane e he hl
    · simp [(htail e he).2] at hl
  · rw [records, sendFrames_eq_zero.2 (tags (h.internal .control (.inr rfl)))]
    omega

/-! ### The entry at the head (R5, R8) -/

/-- R5: the head of a queue goes on the lane with the attempt that begins. -/
theorem QueueOk.begun {c : Sched} (h : QueueOk c none) (a : Attempt) (e : Entry) (l : List Entry)
    (hq : c.queue a.queue = e :: l) :
    QueueOk { c.setQueue a.queue ({ e with onLane := true } :: l) with offer := none } (some a) := by
  have hho := h.headOnly a.queue
  have hsz := h.size a.queue
  have same (r : FrameClass) :
      ({ c.setQueue a.queue ({ e with onLane := true } :: l) with offer := none } : Sched).queue r =
        (c.setQueue a.queue ({ e with onLane := true } :: l)).queue r := by cases r <;> rfl
  have new := (same a.queue).trans (Sched.queue_setQueue_same _ _ _)
  rw [hq] at hho hsz
  refine h.replace a.queue (fun r hr => (same r).trans (Sched.queue_setQueue_other _ _ _ _ hr))
    ?_ ?_ ?_ (fun _ _ _ => ⟨a, rfl, rfl⟩) (fun r _ ⟨b, hb, _⟩ => by cases hb) ?_ (by simp)
  · rw [new]; simpa using hsz
  · rw [new, hq]; simp
  · rw [new]; exact List.pairwise_cons.2 (List.pairwise_cons.1 hho)
  · rw [new, hq, sendFrames_cons, sendFrames_cons]; simp

/-- R8, R71: the head rewritten, with its tag and its place on the lane. -/
theorem QueueOk.rewriteHead {c : Sched} {attempt : Option Attempt} (h : QueueOk c attempt) (q : FrameClass)
    (e d : Entry) (l : List Entry) (hq : c.queue q = e :: l) (tag : d.tag = e.tag)
    (lane : d.onLane = e.onLane) : QueueOk (c.setQueue q (d :: l)) attempt := by
  have hho := h.headOnly q
  have hsz := h.size q
  rw [hq] at hho hsz
  refine h.replaceQueue q (fun r hr => Sched.queue_setQueue_other _ _ _ _ hr) ?_ ?_ ?_ ?_ ?_ (by simp)
  · simpa using hsz
  · rw [Sched.queue_setQueue_same, hq]; simp [tag]
  · rw [Sched.queue_setQueue_same]; exact List.pairwise_cons.2 (List.pairwise_cons.1 hho)
  · rw [Sched.queue_setQueue_same, hq]
    intro x hx hl
    rcases List.mem_cons.1 hx with rfl | hx
    · exact ⟨e, List.mem_cons_self, lane ▸ hl⟩
    · exact ⟨x, List.mem_cons_of_mem e hx, hl⟩
  · rw [Sched.queue_setQueue_same, hq, sendFrames_cons, sendFrames_cons, tag]; simp

/-- Another attempt of the same queue. -/
theorem QueueOk.nextAttempt {c : Sched} {a b : Attempt} (h : QueueOk c (some a)) (hb : b.queue = a.queue) :
    QueueOk c (some b) := by
  refine ⟨h.size, h.internal, h.headOnly, fun q e he hl => ?_, h.held, fun ho => ?_⟩
  · obtain ⟨x, hx, hq⟩ := h.lane q e he hl
    cases hx
    exact ⟨b, rfl, hb.trans hq⟩
  · cases h.offered ho

/-- The attempt in progress moved on, in its queue. -/
theorem QueueOk.attempt {c : Sched} {attempt : Option Attempt} (h : QueueOk c attempt) (f : Attempt → Attempt)
    (hf : ∀ a, (f a).queue = a.queue) : QueueOk c (attempt.map f) := by
  cases attempt with
  | none => exact h
  | some a => exact h.nextAttempt (hf a)

end Sys2Proof.Machine
end

section
/-! SUPPORT. What the operations of the blocks keep: one relation for all the invariants, with one lemma per operation.
`BoundsKept` covers the invariants of single blocks; `Moved` adds that the servo follows the selector's source; `Kept`
adds what a review restores, that the source is present and that beaconing is allowed. -/

-- One theorem after another: the check's data limit has no room for a thread for each.
set_option Elab.async false

open Sys2Proof Sys2Proof.Machine Sys2Proof.Safety

namespace Sys2Proof.Machine

/-! ### The relations -/

/-- The operation from `s` to `t` keeps the ranges, the bounds of the queues, and the alarm lists. -/
structure BoundsKept (s t : Station) : Prop where
  hold : t.hold = s.hold := by rfl
  time : TimeInRange s → TimeInRange t := by exact id
  rates : RatesBounded s → RatesBounded t := by exact id
  seat : SeatCounts s → SeatCounts t := by exact id
  rx : RxBounded s → RxBounded t := by exact id
  queues : QueueOk s.sched s.lane.attempt → QueueOk t.sched t.lane.attempt := by exact id
  alarm : AlarmKept s t := by exact .of_same rfl rfl rfl

/-- As `BoundsKept`, with the servo's source the selector's; a review may be due. -/
structure Moved (s t : Station) : Prop extends BoundsKept s t where
  follows : s.servo.source = s.sel.source → t.servo.source = t.sel.source := by exact id

/-- Every invariant is kept. -/
structure Kept (s t : Station) : Prop extends Moved s t where
  source : SourcePresent s → SourcePresent t := by exact id
  beacons : BeaconsOnlyWhenAllowed s → BeaconsOnlyWhenAllowed t := by exact id

theorem BoundsKept.trans {s t u : Station} (h : BoundsKept s t) (g : BoundsKept t u) : BoundsKept s u where
  hold := g.hold.trans h.hold
  time := g.time ∘ h.time
  rates := g.rates ∘ h.rates
  seat := g.seat ∘ h.seat
  rx := g.rx ∘ h.rx
  queues := g.queues ∘ h.queues
  alarm := h.alarm.trans g.alarm

theorem Moved.trans {s t u : Station} (h : Moved s t) (g : Moved t u) : Moved s u where
  toBoundsKept := h.toBoundsKept.trans g.toBoundsKept
  follows := g.follows ∘ h.follows

theorem Kept.trans {s t u : Station} (h : Kept s t) (g : Kept t u) : Kept s u where
  toMoved := h.toMoved.trans g.toMoved
  source := g.source ∘ h.source
  beacons := g.beacons ∘ h.beacons

theorem Kept.refl (s : Station) : Kept s s := {}

/-! ### From frames -/

/-- R143: the beaconing condition and the state of beaconing where the selector and the seat stand. -/
theorem beaconsAllowed_congr {s t : Station} (hold : t.hold = s.hold) (seat : t.seat = s.seat)
    (sel : t.sel = s.sel) (h : BeaconsOnlyWhenAllowed s) : BeaconsOnlyWhenAllowed t := by
  unfold BeaconsOnlyWhenAllowed Station.beaconCondition at *
  rwa [hold, seat, sel]

theorem sourcePresent_congr {s t : Station} (roster : t.roster = s.roster) (sel : t.sel = s.sel)
    (servo : t.servo = s.servo) (h : SourcePresent s) : SourcePresent t := by
  unfold SourcePresent Station.peer at *
  rwa [roster, sel, servo]

/-- The alarm unit's operations touch its lists and CONTROL alone. -/
theorem AlarmFrame.kept {s t : Station} (h : AlarmFrame s t) (a : AlarmKept s t) : Kept s t where
  hold := h.hold
  time := by rw [TimeInRange, TimeInRange, h.time]; exact id
  rates := by rw [RatesBounded, RatesBounded, h.time, h.servo]; exact id
  seat := by rw [SeatCounts, SeatCounts, h.seat]; exact id
  rx := by rw [RxBounded, RxBounded, h.rx]; exact id
  queues hq := by
    rw [h.lane]
    have others (r : FrameClass) (hr : r ≠ .control) : t.sched.queue r = s.sched.queue r := by
      cases r with
      | timing => exact h.timing
      | control => exact absurd rfl hr
      | express => exact h.express
      | bulk => exact h.bulk
    exact hq.controlTold others h.control h.completions h.offer
  alarm := a
  follows := by rw [h.servo, h.sel]; exact id
  source := sourcePresent_congr h.roster h.sel h.servo
  beacons := beaconsAllowed_congr h.hold h.seat h.sel

/-- The scheduler's operations touch the queues and the records alone. -/
theorem QueueFrame.kept {s t : Station} (h : QueueFrame s t)
    (q : QueueOk s.sched s.lane.attempt → QueueOk t.sched s.lane.attempt) : Kept s t where
  hold := h.hold
  time := by rw [TimeInRange, TimeInRange, h.time]; exact id
  rates := by rw [RatesBounded, RatesBounded, h.time, h.servo]; exact id
  seat := by rw [SeatCounts, SeatCounts, h.seat]; exact id
  rx := by rw [RxBounded, RxBounded, h.rx]; exact id
  queues := by rw [h.lane]; exact q
  alarm := .of_same (by rw [h.alarm]) (by rw [h.alarm]) (by rw [h.alarm])
  follows := by rw [h.servo, h.sel]; exact id
  source := sourcePresent_congr h.roster h.sel h.servo
  beacons := beaconsAllowed_congr h.hold h.seat h.sel

/-! ### The alarm unit -/

theorem Station.raiseInternal_keeps (s : Station) (code : Word16) (hc : InternalCode code) :
    Kept s (s.raiseInternal code) := (s.raiseInternal_frame code).kept (s.raiseInternal_kept code hc)

theorem Station.clearInternal_keeps (s : Station) (code : Word16) : Kept s (s.clearInternal code) :=
  (s.clearInternal_frame code).kept (s.clearInternal_kept code)

theorem Station.keepTalker_keeps (s : Station) : Kept s s.keepTalker :=
  s.keepTalker_frame.kept s.keepTalker_kept

theorem Station.mergePeer_keeps (s : Station) (p : Slot) : Kept s (s.mergePeer p) :=
  (s.mergePeer_frame p).kept (s.mergePeer_kept p)

theorem Station.setMarker_keeps (s : Station) (p : Slot) (m : Marker) : Kept s (s.setMarker p m) :=
  (s.setMarker_frame p m).kept (s.setMarker_kept p m)

theorem Station.markMissing_keeps (s : Station) (p : Slot) : Kept s (s.markMissing p) := by
  unfold Station.markMissing
  split
  · exact .refl s
  all_goals exact s.setMarker_keeps _ _

theorem Station.unmarkRemoved_keeps (s : Station) (p : Slot) : Kept s (s.unmarkRemoved p) := by
  unfold Station.unmarkRemoved
  split
  · exact s.setMarker_keeps _ _
  all_goals exact .refl s

theorem Station.markRemoved_keeps (s : Station) (p : Slot) : Kept s (s.markRemoved p) := by
  unfold Station.markRemoved
  split
  · exact .refl s
  all_goals exact s.setMarker_keeps _ _

theorem Station.unmarkMissing_keeps (s : Station) (p : Slot) : Kept s (s.unmarkMissing p) := by
  unfold Station.unmarkMissing
  split
  · exact s.setMarker_keeps _ _
  all_goals exact .refl s

theorem Station.unmark_keeps (s : Station) (p : Slot) : Kept s (s.unmark p) := by
  unfold Station.unmark
  split
  · exact .refl s
  all_goals exact s.setMarker_keeps _ _

theorem Station.placeAlarmIfPermitted_keeps (s : Station) : Kept s s.placeAlarmIfPermitted :=
  s.placeAlarmIfPermitted_frame.kept s.placeAlarmIfPermitted_alarmKept

theorem Station.startStagger_keeps (s : Station) : Kept s s.startStagger := by
  unfold Station.startStagger
  split
  · exact {}
  · exact .refl s

theorem Station.startAlarms_keeps (s : Station) : Kept s s.startAlarms :=
  s.startAlarms_frame.kept (.of_same rfl rfl rfl)

theorem Station.changeOwn_keeps (s : Station) (l : List AlarmEntry) (h : OwnOk s.alarm.own → OwnOk l) :
    Kept s (s.changeOwn l) := (s.changeOwn_frame l).kept (s.changeOwn_kept l h)

theorem Station.resetView_keeps (s : Station) : Kept s s.resetView := s.resetView_frame.kept s.resetView_kept

/-! ### The peer table -/

/-- R141: a record that stays PRESENT and not barred where it was. -/
theorem Station.setPeer_keeps (s : Station) (p : Slot) (r : Peer)
    (state : (s.peer p).state = .present → r.state = .present)
    (barred : (s.peer p).barred = false → r.barred = false) : Kept s (s.setPeer p r) where
  source := by
    rintro ⟨hf, hp⟩
    refine ⟨hf, fun q hq => ?_⟩
    obtain ⟨h1, h2⟩ := hp q hq
    rw [s.peer_setPeer]
    split
    next h => subst h; exact ⟨state h1, barred h2⟩
    next => exact ⟨h1, h2⟩

theorem Station.setPeer_moved (s : Station) (p : Slot) (r : Peer) : Moved s (s.setPeer p r) := {}

/-- Records renewed one after another. -/
theorem foldl_keeps {α : Type} (f : Station → α → Station) (hf : ∀ s a, Kept s (f s a)) (l : List α)
    (s : Station) : Kept s (l.foldl f s) := by
  induction l generalizing s with
  | nil => exact .refl s
  | cons a l ih => exact (hf s a).trans (ih _)

theorem Station.voidStamps_keeps (s : Station) : Kept s s.voidStamps := by
  have one (u : Station) (p : Slot) : Kept u (u.setPeer p (u.peer p).voidStamp) := u.setPeer_keeps p _ id id
  exact foldl_keeps _ one _ s

/-! ### The servo -/

theorem Station.setTimingCause_keeps (s : Station) : Kept s s.setTimingCause := {}

/-- R160: a rate within its limits handed to the time base. -/
theorem Station.handRate_keeps (s : Station) (a : Int)
    (h : RatesBounded s → -Config.rateLimit ≤ a ∧ a ≤ Config.rateLimit) : Kept s (s.handRate a) where
  rates hr := ⟨hr.1, hr.2.1, (h hr).1, (h hr).2, rfl⟩

theorem Station.setServoState_keeps (s : Station) (state : ServoState) : Kept s (s.setServoState state) := by
  unfold Station.setServoState
  split
  · exact .refl s
  · exact {}

theorem Station.startUnlocked_keeps (s : Station) : Kept s s.startUnlocked := {}

theorem Station.startUnlockedIfLocked_keeps (s : Station) : Kept s s.startUnlockedIfLocked := by
  unfold Station.startUnlockedIfLocked
  split
  · exact s.startUnlocked_keeps
  · exact .refl s

theorem Station.expireHoldover_keeps (s : Station) : Kept s s.expireHoldover :=
  Kept.trans (t := ({ s with servo := { s.servo with holdTimer := none, expired := true } }).setTimingCause)
    {} (Station.raiseInternal_keeps _ _ (by decide))

/-- R162: A takes the value of I, which is within the same limits. -/
theorem Station.enterHoldover_keeps (s : Station) : Kept s s.enterHoldover := by
  have rate (u : Station) : Kept u (u.handRate u.servo.i) := u.handRate_keeps _ fun h => ⟨h.1, h.2.1⟩
  have timer (u : Station) (d : Option Nat) :
      Kept u { u with servo := { u.servo with holdTimer := d, expired := false } } := {}
  have h (d : Option Nat) := ((s.startUnlockedIfLocked_keeps.trans (rate _)).trans (timer _ d)).trans
    (Station.setServoState_keeps _ .holdover)
  unfold Station.enterHoldover
  dsimp only
  split
  · exact (h _).trans (Station.expireHoldover_keeps _)
  · exact h _

theorem Station.acquireSource_keeps (s : Station) : Kept s s.acquireSource := by
  have counts (u : Station) : Kept u { u with
      servo := { u.servo with inCount := 0, outCount := 0, holdTimer := none, expired := false } } := {}
  exact (s.startUnlockedIfLocked_keeps.trans (counts _)).trans (Station.setServoState_keeps _ _)

/-- R152: the source handed to the servo; that it is the selector's is `review`'s to see to. -/
theorem Station.takeSource_boundsKept (s : Station) (new : Source) : BoundsKept s (s.takeSource new) := by
  have h : BoundsKept s ({ s with servo := { s.servo with source := new } }).setTimingCause := {}
  unfold Station.takeSource
  dsimp only
  split
  · split
    · exact h.trans (Station.enterHoldover_keeps _).toBoundsKept
    · exact h.trans (Station.enterHoldover_keeps _).toBoundsKept
    · exact h
    · exact h
  · exact h.trans (Station.acquireSource_keeps _).toBoundsKept

theorem Station.enterLocked_keeps (s : Station) : Kept s s.enterLocked := by
  have h : Kept s { s with
      servo := { s.servo with inCount := 0, outCount := 0, unlocked := .stopped }
      sel := { s.sel with lockedSource := some s.sel.source } } := {}
  exact ((h.trans (Station.setServoState_keeps _ _)).trans (Station.clearInternal_keeps _ _)).trans
    (Station.clearInternal_keeps _ _)

theorem Station.countSample_keeps (s : Station) (e : Int) : Kept s (s.countSample e) := by
  have counts (u : Station) (m n : Nat) :
      Kept u { u with servo := { u.servo with inCount := m, outCount := n } } := {}
  have h : Kept s (if s.servo.state = .free then s.setServoState .acquire else s) := by
    split
    · exact s.setServoState_keeps _
    · exact .refl s
  unfold Station.countSample
  dsimp only
  refine h.trans ?_
  generalize (if s.servo.state = .free then s.setServoState .acquire else s) = u
  split
  · split
    · split
      · exact (counts u _ _).trans (Station.enterLocked_keeps _)
      · exact counts u _ _
    · exact counts u _ _
  · split
    · exact counts u _ _
    · split
      · exact ((counts u 0 (u.servo.outCount + 1)).trans (Station.startUnlocked_keeps _)).trans
          (Station.setServoState_keeps _ _)
      · exact counts u _ _
  all_goals exact .refl u

theorem clampInt_bounds {m : Int} (hm : 0 ≤ m) (x : Int) : -m ≤ clampInt m x ∧ clampInt m x ≤ m := by
  unfold clampInt
  omega

/-- R160: I and A after a sample are within their limits. -/
theorem slew_bounds (i d limit f : Int) (h : -Config.rateLimit ≤ i ∧ i ≤ Config.rateLimit) :
    (-Config.rateLimit ≤ (slew i d limit f).1 ∧ (slew i d limit f).1 ≤ Config.rateLimit) ∧
      -Config.rateLimit ≤ (slew i d limit f).2 ∧ (slew i d limit f).2 ≤ Config.rateLimit := by
  have hm : 0 ≤ Config.rateLimit := by decide
  unfold slew
  dsimp only
  refine ⟨?_, clampInt_bounds hm _⟩
  split
  · exact clampInt_bounds hm _
  · exact h

theorem Station.clearOffsetHigh_keeps (s : Station) (e : Int) : Kept s (s.clearOffsetHigh e) := by
  unfold Station.clearOffsetHigh
  split
  · exact s.clearInternal_keeps _
  · exact .refl s

theorem Station.slewSample_keeps (s : Station) (f d : Int) (deferred : Bool) :
    Kept s (s.slewSample f d deferred) := by
  have rates (limit : Int) (sample : Option Sample) : Kept s
      (({ s with servo := { s.servo with i := (slew s.servo.i d limit f).1, lastSample := sample } } :
        Station).handRate (slew s.servo.i d limit f).2) :=
    { rates := fun h =>
        have b := slew_bounds s.servo.i d limit f ⟨h.1, h.2.1⟩
        ⟨b.1.1, b.1.2, b.2.1, b.2.2, rfl⟩ }
  exact ((rates _ _).trans (Station.countSample_keeps _ _)).trans (Station.clearOffsetHigh_keeps _ _)

theorem Station.deferStep_keeps (s : Station) (f d : Int) : Kept s (s.deferStep f d) := by
  unfold Station.deferStep
  dsimp only
  split
  · exact (s.slewSample_keeps _ _ _).trans (Station.raiseInternal_keeps _ _ (by decide))
  · exact s.slewSample_keeps _ _ _

/-- R117, R125: a step leaves cabinet time and the step count in their ranges. -/
theorem TimeBase.step_inRange (t : TimeBase) (d : Int) :
    (t.step d).sec < Config.secRange ∧ (t.step d).ns < Config.nsPerSec ∧ (t.step d).stepCount < 65536 := by
  have h := Nat.mod_lt (((t.total : Int) + d) % (Config.timeRange : Int)).toNat
    (show 0 < Config.timeRange by decide)
  refine ⟨?_, Nat.mod_lt _ (by decide), Nat.mod_lt _ (by decide)⟩
  exact Nat.div_lt_of_lt_mul (lt_of_lt_of_eq h (by decide))

theorem Station.stepTime_keeps (s : Station) (d : Int) : Kept s (s.stepTime d) := by
  have step (u : Station) : Kept u
      ({ u with time := u.time.step d, lane := u.lane.voidStamp, sel := u.sel.markStepped } :
        Station).setTimingCause :=
    { time := fun ⟨_, _, h3, h4, _⟩ =>
        have ⟨g1, g2, g3⟩ := u.time.step_inRange d
        ⟨g1, g2, h3, h4, g3⟩ }
  exact s.voidStamps_keeps.trans (step _)

theorem Station.takeStep_keeps (s : Station) (d : Int) : Kept s (s.takeStep d) := by
  have counts (u : Station) : Kept u
      { u with servo := { u.servo with inCount := 0, lastSample := some ⟨d, none, .stepped⟩ } } := {}
  have rate (u : Station) : Kept u (u.handRate u.servo.i) := u.handRate_keeps _ fun h => ⟨h.1, h.2.1⟩
  exact (((s.stepTime_keeps d).trans (counts _)).trans (rate _)).trans (Station.setServoState_keeps _ _)

theorem Station.judgeSample_keeps (s : Station) (f d : Int) (air : Bool) :
    Kept s (s.judgeSample f d air) := by
  have pins : Kept s { s with pins := { s.pins with airActive := air } } := {}
  unfold Station.judgeSample
  dsimp only
  split
  · split
    · exact pins.trans (Station.deferStep_keeps _ _ _)
    · exact pins.trans (Station.takeStep_keeps _ _)
  · exact s.slewSample_keeps _ _ _

theorem Station.busSample_keeps (s : Station) (p : Slot) (previous : Option Stamp) (stepped : Bool)
    (seq : Byte) (record : Option BeaconRec) (air : Bool) :
    Kept s (s.busSample p previous stepped seq record air) := by
  unfold Station.busSample
  split
  · exact s.judgeSample_keeps _ _ _
  · exact .refl s

theorem Station.discardStale_keeps (s : Station) : Kept s s.discardStale := by
  unfold Station.discardStale
  split
  · split
    · exact {}
    · exact .refl s
  · exact .refl s

theorem Station.externalSample_keeps (s : Station) (second : Nat) (air : Bool) :
    Kept s (s.externalSample second air) := by
  unfold Station.externalSample
  split
  · exact s.judgeSample_keeps _ _ _
  · exact .refl s

theorem Station.resetServo_keeps (s : Station) : Kept s s.resetServo := by
  have zero : -Config.rateLimit ≤ 0 ∧ 0 ≤ Config.rateLimit := by decide
  have reset (u : Station) : Kept u
      (({ u with
          servo :=
            { u.servo with
              i := 0, inCount := 0, outCount := 0, lastSample := none, holdTimer := none, expired := false } } :
        Station).handRate 0) :=
    { rates := fun _ => ⟨zero.1, zero.2, zero.1, zero.2, rfl⟩ }
  exact ((s.startUnlockedIfLocked_keeps.trans (reset _)).trans (Station.setServoState_keeps _ _)).trans
    (Station.clearInternal_keeps _ _)

/-! ### The selector's reviews (R142) -/

theorem QueueOk.withdraw {c : Sched} {attempt : Option Attempt} (h : QueueOk c attempt) (q : FrameClass)
    (kind : FrameKind) : QueueOk (c.withdraw q kind) attempt := by
  refine h.setQueue q _ ⟨_, _, List.filter_sublist, rfl, fun e => ?_⟩
  split <;> exact ⟨rfl, rfl⟩

theorem Station.decideBeaconing_boundsKept (s : Station) : BoundsKept s s.decideBeaconing := by
  unfold Station.decideBeaconing
  split
  · exact {}
  · exact {}
  · exact { queues := fun h => h.withdraw .timing .beacon }
  all_goals exact {}

/-- R142: what the beaconing decision leaves of the selector, the servo, the seat and the roster. -/
theorem Station.decideBeaconing_same (s : Station) :
    s.decideBeaconing.servo = s.servo ∧ s.decideBeaconing.roster = s.roster ∧
      s.decideBeaconing.seat = s.seat ∧ s.decideBeaconing.hold = s.hold ∧
      s.decideBeaconing.sel.source = s.sel.source ∧ s.decideBeaconing.beaconCondition = s.beaconCondition := by
  unfold Station.decideBeaconing
  split <;> exact ⟨rfl, rfl, rfl, rfl, rfl, rfl⟩

/-- R143, R144: after the decision the station claims or beacons only where the condition holds. -/
theorem Station.decideBeaconing_allowed (s : Station)
    (h : s.decideBeaconing.sel.beaconing ≠ .off) : s.beaconCondition = true := by
  revert h
  unfold Station.decideBeaconing
  split <;> simp_all [Station.stopBeaconing]

theorem Station.review_boundsKept (s : Station) : BoundsKept s s.review := by
  have h : BoundsKept s ({ s with sel := s.chosen }).decideBeaconing :=
    BoundsKept.trans (t := { s with sel := s.chosen }) {} (Station.decideBeaconing_boundsKept _)
  unfold Station.review
  dsimp only
  split
  · exact h
  · exact h.trans (Station.takeSource_boundsKept _ _)

@[simp] theorem Station.setServoState_sel (s : Station) (state : ServoState) :
    (s.setServoState state).sel = s.sel := by
  unfold Station.setServoState
  split <;> rfl

@[simp] theorem Station.startUnlockedIfLocked_sel (s : Station) : s.startUnlockedIfLocked.sel = s.sel := by
  unfold Station.startUnlockedIfLocked
  split <;> rfl

@[simp] theorem Station.startUnlockedIfLocked_source (s : Station) :
    s.startUnlockedIfLocked.servo.source = s.servo.source := by
  unfold Station.startUnlockedIfLocked
  split <;> rfl

theorem Station.expireHoldover_same (s : Station) :
    s.expireHoldover.servo = { s.servo with holdTimer := none, expired := true } ∧
      s.expireHoldover.sel = s.sel :=
  ⟨(Station.raiseInternal_frame _ _).servo, (Station.raiseInternal_frame _ _).sel⟩

theorem Station.enterHoldover_same (s : Station) :
    s.enterHoldover.servo.source = s.servo.source ∧ s.enterHoldover.sel = s.sel := by
  unfold Station.enterHoldover
  dsimp only
  split
  · rw [(Station.expireHoldover_same _).1, (Station.expireHoldover_same _).2, Station.setServoState_servo]
    exact ⟨s.startUnlockedIfLocked_source, by simp⟩
  · rw [Station.setServoState_servo]
    exact ⟨s.startUnlockedIfLocked_source, by simp⟩

theorem Station.acquireSource_same (s : Station) :
    s.acquireSource.servo.source = s.servo.source ∧ s.acquireSource.sel = s.sel := by
  unfold Station.acquireSource
  rw [Station.setServoState_servo]
  simp

/-- R152: the servo has the source that it is handed, and the selector is not touched. -/
theorem Station.takeSource_same (s : Station) (new : Source) :
    (s.takeSource new).servo.source = new ∧ (s.takeSource new).sel = s.sel := by
  unfold Station.takeSource
  dsimp only
  split
  · split
    · exact Station.enterHoldover_same _
    · exact Station.enterHoldover_same _
    · exact ⟨rfl, rfl⟩
    · exact ⟨rfl, rfl⟩
  · exact Station.acquireSource_same _

/-- R142: the source after a review is the one chosen, at the selector and, where it followed before, at the
servo. -/
theorem Station.review_source (s : Station) :
    s.review.sel.source = s.chosen.source ∧
      (s.servo.source = s.sel.source → s.review.servo.source = s.chosen.source) := by
  obtain ⟨hservo, -, -, -, hsel, -⟩ := Station.decideBeaconing_same { s with sel := s.chosen }
  unfold Station.review
  dsimp only
  split
  next h =>
    rw [hservo]
    exact ⟨hsel, fun hf => hf.trans h.symm⟩
  next =>
    obtain ⟨h1, h2⟩ := Station.takeSource_same ({ s with sel := s.chosen }).decideBeaconing s.chosen.source
    exact ⟨(congrArg Selector.source h2).trans hsel, fun _ => h1⟩

/-- R136, R141: a bus source chosen is a candidate, so that it is PRESENT and not barred. -/
theorem Station.chosen_bus (s : Station) (p : Slot) (h : s.chosen.source = .bus p) :
    (s.peer p).state = .present ∧ (s.peer p).barred = false := by
  have hc : s.chooseSource (s.refreshed s.sel.cands) = .bus p := h
  unfold Station.chooseSource at hc
  split at hc
  · cases hc
  · split at hc
    next b l hl =>
      split at hc
      · have hb : b ∈ s.refreshed s.sel.cands := hl ▸ List.mem_cons_self
        obtain ⟨d, -, k, hk, rfl⟩ := (s.mem_refreshed _ b).1 hb
        cases hc
        obtain ⟨h1, h2, -⟩ := s.candidateClass_some _ _ hk
        exact ⟨h1, h2⟩
      · cases hc
    · cases hc

/-- R141, R152: after a review the bus source is present, where the servo followed the selector before. -/
theorem Station.review_present (s : Station) (h : s.servo.source = s.sel.source) : SourcePresent s.review := by
  obtain ⟨h1, h2⟩ := s.review_source
  refine ⟨(h2 h).trans h1.symm, fun p hp => ?_⟩
  rw [s.peer_of_roster _ s.review_frame.roster]
  exact s.chosen_bus p (h1.symm.trans hp)

/-- R143: after a review the station claims or beacons only where the condition holds. -/
theorem Station.review_allowed (s : Station) : BeaconsOnlyWhenAllowed s.review := by
  have decided : BeaconsOnlyWhenAllowed ({ s with sel := s.chosen }).decideBeaconing := fun _ hb => by
    obtain ⟨-, -, -, -, -, hc⟩ := Station.decideBeaconing_same { s with sel := s.chosen }
    rw [hc]
    exact Station.decideBeaconing_allowed _ hb
  unfold Station.review
  dsimp only
  split
  · exact decided
  · have f := Station.takeSource_frame ({ s with sel := s.chosen }).decideBeaconing s.chosen.source
    exact beaconsAllowed_congr f.hold f.seat (Station.takeSource_same _ _).2 decided

theorem Station.review_keeps (s : Station) : Kept s s.review where
  toBoundsKept := s.review_boundsKept
  follows h := (s.review_present h).1
  source h := s.review_present h.1
  beacons _ := s.review_allowed

theorem reviewLoop_keeps (fuel events : Nat) (s : Station) : Kept s (reviewLoop fuel events s) := by
  induction fuel generalizing events s with
  | zero => exact .refl s
  | succ fuel ih =>
    cases events with
    | zero => exact .refl s
    | succ events => exact s.review_keeps.trans (ih _ _)

theorem Station.reviews_keeps (s : Station) (events : Nat) : Kept s (s.reviews events) :=
  reviewLoop_keeps 8 events s

/-- R142: whatever moved before, every invariant holds again after a review. -/
theorem Moved.reviewed {s t : Station} (h : Moved s t) (events : Nat) : Kept s (t.reviews (events + 1)) := by
  have first : Kept s t.review :=
    { toMoved := h.trans t.review_keeps.toMoved
      source := fun hs => t.review_present (h.follows hs.1)
      beacons := fun _ => t.review_allowed }
  exact first.trans (reviewLoop_keeps 7 _ _)

theorem Station.thenReviews_keeps (f : Station → Station) (s : Station) (h : Kept s (f s)) :
    Kept s (s.thenReviews f) := h.trans (Station.reviews_keeps _ _)

end Sys2Proof.Machine
end

section
/-! SUPPORT. What the seat controller, the roster, the receive filter, the lane, the strobes and the card port keep:
one lemma `…_keeps` per operation, up to the meanings of the commands. -/

-- One theorem after another: the check's data limit has no room for a thread for each.
set_option Elab.async false

open Sys2Proof Sys2Proof.Machine Sys2Proof.Safety

namespace Sys2Proof.Machine

/-! ### The scheduler -/

theorem Station.flushCards_keeps (s : Station) : Kept s s.flushCards :=
  s.flushCards_queueFrame.kept s.flushCards_queueOk

theorem Station.flushSlot_keeps (s : Station) (p : Slot) : Kept s (s.flushSlot p) :=
  (s.flushSlot_queueFrame p).kept (s.flushSlot_queueOk p)

theorem Station.emptyInternal_keeps (s : Station) : Kept s s.emptyInternal :=
  s.emptyInternal_queueFrame.kept s.emptyInternal_queueOk

theorem Station.setMissed_keeps (s : Station) (i : Fin 4) : Kept s (s.setMissed i) :=
  (s.setMissed_queueFrame i).kept fun h =>
    h.congr (s.setMissed_queue i) (by rw [s.setMissed_completions]) (by
      unfold Station.setMissed
      dsimp only
      split <;> exact h.offered)

/-- R70: renewing the offer, whatever the offer was before. -/
theorem Station.renewOffer_keeps (s : Station) : Kept s s.renewOffer :=
  s.renewOffer_spec.1.kept fun h => s.renewOffer_queueOk (h.withOffer none (by simp))

/-- A change of the lane and the queues, and what the scheduler then did. -/
theorem Kept.ofLaneAndQueues {s u t : Station} (f : QueueFrame u t)
    (hu : u = { s with lane := u.lane, sched := u.sched })
    (q : QueueOk s.sched s.lane.attempt → QueueOk t.sched u.lane.attempt) : Kept s t := by
  have changed : Kept s { s with lane := t.lane, sched := t.sched } := { queues := by rw [f.lane]; exact q }
  refine changed.trans (QueueFrame.kept ?_ fun h => h)
  exact {
    pins := f.pins.trans (by rw [hu])
    hold := f.hold.trans (by rw [hu])
    localTime := f.localTime.trans (by rw [hu])
    lane := rfl
    seat := f.seat.trans (by rw [hu])
    roster := f.roster.trans (by rw [hu])
    share := f.share.trans (by rw [hu])
    rx := f.rx.trans (by rw [hu])
    time := f.time.trans (by rw [hu])
    sel := f.sel.trans (by rw [hu])
    servo := f.servo.trans (by rw [hu])
    alarm := f.alarm.trans (by rw [hu])
    outs := f.outs.trans (by rw [hu])
    freeIdx := f.freeIdx.trans (by rw [hu])
    port := f.port.trans (by rw [hu])
    completions := List.prefix_refl _ }

/-- R72: the result of the attempt in progress. -/
theorem Station.result_keeps (s : Station) (a : Attempt) (r : AttemptEnd) (ha : s.lane.attempt = some a) :
    Kept s ((s.clearAttempt).applyFate a.queue (s.resultFate a r)) :=
  .ofLaneAndQueues (u := s.clearAttempt) (Station.applyFate_queueFrame _ _ _) rfl
    fun h => s.result_queueOk a r (ha ▸ h)

theorem Station.releaseEntry_keeps (count : Nat) (s : Station) (i : Fin 4) :
    Kept s (s.releaseEntry count i) := by
  unfold Station.releaseEntry
  dsimp only
  split
  · split
    · exact s.setMissed_keeps i
    next h =>
      have room : s.sched.hasRoom .express = true := by
        simp only [Station.skipsRelease, Bool.not_eq_true, Bool.or_eq_false_iff, Bool.not_eq_false'] at h
        exact h.1.1
      exact { queues := fun h => h.appendUntagged .express _ room rfl rfl }
  · exact .refl s

theorem Station.releasePeriodic_keeps (s : Station) (count : Nat) : Kept s (s.releasePeriodic count) :=
  foldl_keeps _ (Station.releaseEntry_keeps count) _ s

/-! ### The seat controller -/

theorem Station.readbackClean_keeps (s : Station) : Kept s s.readbackClean := by
  unfold Station.readbackClean
  split
  · exact { seat := fun ⟨_, h2, h3⟩ => ⟨Nat.zero_le _, h2, h3⟩ }
  · exact .refl s

theorem Station.cutAttempt_keeps (s : Station) : Kept s s.cutAttempt := by
  unfold Station.cutAttempt
  split
  next a ha =>
    dsimp only
    split
    · exact s.result_keeps a .cut ha
    · exact (s.result_keeps a .cut ha).trans (Station.readbackClean_keeps _)
    · exact .refl s
  · exact .refl s

theorem Station.closeGates_keeps (s : Station) : Kept s s.closeGates := by
  have marks : Kept s
      (if markGate s.seat.state then s else { s with lane := { s.lane with marks := Marks.none } }) := by
    split
    · exact .refl s
    · exact {}
  have gate (u : Station) : Kept u
      (if closesGate u.seat.state then (((u.stopDelimiter).cutAttempt).flushCards).emptyInternal else u) := by
    have delimiter : Kept u u.stopDelimiter := {}
    split
    · exact ((delimiter.trans (Station.cutAttempt_keeps _)).trans (Station.flushCards_keeps _)).trans
        (Station.emptyInternal_keeps _)
    · exact .refl u
  exact marks.trans (gate _)

theorem Station.seatTimers_keeps (s : Station) : Kept s s.seatTimers := by
  have timers : Kept s
      { s with
        roster :=
          { s.roster with
            silence :=
              if decide (s.seat.state = .active) then some (s.localTime + Config.silence) else none }
        port :=
          { s.port with
            watchdog := s.port.watchdogIn (decide (s.seat.state = .active)) s.localTime } } := {}
  unfold Station.seatTimers
  dsimp only
  split
  · exact timers.trans (Station.startAlarms_keeps _)
  · exact timers
  all_goals exact {}

/-- R27, R35: the new state, for LEAVING with the drain timer running. -/
theorem Station.announceSeat_moved (s : Station) (new : SeatState)
    (hd : new = .leaving → s.seat.drain.isSome = true) : Moved s (s.announceSeat new) where
  seat h := by
    refine ⟨h.1, Nat.zero_le _, ?_⟩
    simp only [Station.announceSeat]
    by_cases hn : new = .leaving
    · simp [hn, hd hn]
    · simp [hn]

/-- R27: a change of seat state ends in a review, which restores what the change has moved. -/
theorem Moved.entered {s t : Station} {new : SeatState} (h : Moved s (t.announceSeat new)) :
    Kept s (t.enterSeat new) :=
  ((h.trans (Station.closeGates_keeps _).toMoved).trans (Station.seatTimers_keeps _).toMoved).reviewed 0

theorem Station.enterSeat_keeps (s : Station) (new : SeatState) (hn : new ≠ .leaving) :
    Kept s (s.enterSeat new) :=
  (s.announceSeat_moved new fun h => absurd h hn).entered

theorem Station.enterListen_keeps (s : Station) : Kept s s.enterListen := s.enterSeat_keeps _ (by decide)

theorem Station.tellUnsent_keeps (s : Station) (e : Option Entry) : Kept s (s.tellUnsent e) := by
  unfold Station.tellUnsent
  split
  · split
    · exact s.placeAlarmIfPermitted_keeps
    · exact .refl s
  · exact .refl s

theorem Station.placeAtHead_keeps (s : Station) (kind : FrameKind) : Kept s (s.placeAtHead kind) := by
  have placed : Kept s { s with sched := s.sched.placeAtHead (Entry.internal kind []) } :=
    { queues := fun h => h.placeAtHead kind }
  exact placed.trans (Station.tellUnsent_keeps _ _)

theorem Station.enterJoining_keeps (s : Station) : Kept s s.enterJoining := by
  have counted : Kept s
      { s with seat := { s.seat with generation := s.seat.generation + 1, mismatch := 0 } } :=
    { seat := fun ⟨_, h2, h3⟩ => ⟨Nat.zero_le _, h2, h3⟩ }
  exact (counted.trans (Station.enterSeat_keeps _ .joining (by decide))).trans (Station.placeAtHead_keeps _ _)

/-- R35: the drain timer starts with LEAVING. -/
theorem Station.enterLeaving_keeps (s : Station) (reason : LeaveReason) : Kept s (s.enterLeaving reason) :=
  Moved.entered
    { seat := fun h => ⟨h.1, Nat.zero_le _, by simp [Station.announceSeat]⟩ }

theorem Station.placeLeave_keeps (s : Station) : Kept s s.placeLeave := by
  have placed : Kept s
      { s with seat := { s.seat with leavePlaced := true }, alarm := s.alarm.stopTimers } := {}
  exact placed.trans (Station.placeAtHead_keeps _ _)

theorem Station.enterClashed_keeps (s : Station) : Kept s s.enterClashed :=
  (s.enterSeat_keeps _ (by decide)).trans (Station.raiseInternal_keeps _ _ (by decide))

theorem Station.readbackMismatch_keeps (s : Station) : Kept s s.readbackMismatch := by
  have counted : Kept s { s with seat := { s.seat with mismatch := min 2 (s.seat.mismatch + 1) } } :=
    { seat := fun ⟨_, h2, h3⟩ => ⟨Nat.min_le_left _ _, h2, h3⟩ }
  unfold Station.readbackMismatch
  dsimp only
  split
  · split
    · exact counted.trans (Station.enterClashed_keeps _)
    · exact counted
  · exact .refl s

theorem Station.ownKeyHeard_keeps (s : Station) : Kept s s.ownKeyHeard := by
  unfold Station.ownKeyHeard
  split
  case h_1 | h_2 | h_3 | h_4 => exact s.enterClashed_keeps
  all_goals exact .refl s

theorem Station.joinDelivered_keeps (s : Station) : Kept s s.joinDelivered :=
  (s.enterSeat_keeps _ (by decide)).trans (Station.clearInternal_keeps _ _)

theorem Station.joinFlawed_keeps (s : Station) : Kept s s.joinFlawed :=
  s.enterListen_keeps.trans (Station.raiseInternal_keeps _ _ (by decide))

theorem Station.beaconRemoved_keeps (s : Station) : Kept s { s with sel := s.sel.beaconRemoved } := by
  unfold Selector.beaconRemoved
  split
  · exact {}
  · exact .refl s

theorem Station.tellOwner_keeps (s : Station) (e : Entry) (o : FrameOutcome) : Kept s (s.tellOwner e o) := by
  unfold Station.tellOwner
  split
  · split
    · exact .refl s
    · split
      · exact s.joinDelivered_keeps
      · exact s.joinFlawed_keeps
  · split
    · exact .refl s
    · exact s.enterSeat_keeps _ (by decide)
  · exact s.beaconRemoved_keeps
  · split
    · exact {}
    · exact .refl s
  all_goals exact .refl s

theorem Station.handResult_keeps (s : Station) (a : Attempt) (r : AttemptEnd) (ha : s.lane.attempt = some a) :
    Kept s (s.handResult a r) := by
  have result := s.result_keeps a r ha
  unfold Station.handResult
  dsimp only
  split
  · exact result.trans (Station.tellOwner_keeps _ _ _)
  all_goals exact result

/-! ### The roster (R53: an open order keeps what both effects keep) -/

theorem eitherOrder_keeps (f g : Station → Station) (hf : ∀ s, Kept s (f s)) (hg : ∀ s, Kept s (g s))
    (s : Station) : Kept s (eitherOrder f g s) := by
  have drawn : Kept s { s with freeIdx := s.freeIdx + 1 } := {}
  rcases eitherOrder_cases f g s with h | h
  · rw [h]; exact (drawn.trans (hf _)).trans (hg _)
  · rw [h]; exact (drawn.trans (hg _)).trans (hf _)

/-- R142: an open order of effects, one of which ends in a review. -/
theorem Moved.eitherOrder {s t : Station} (h : Moved s t) (f g : Station → Station)
    (hf : ∀ u, Moved s u → Kept s (f u)) (hg : ∀ u, Kept u (g u)) : Kept s (eitherOrder f g t) := by
  have drawn : Moved t { t with freeIdx := t.freeIdx + 1 } := {}
  rcases eitherOrder_cases f g t with e | e
  · rw [e]; exact (hf _ (h.trans drawn)).trans (hg _)
  · rw [e]; exact hf _ ((h.trans drawn).trans (hg _).toMoved)

theorem Station.notifyPresent_keeps (s : Station) (p : Slot) : Kept s (s.notifyPresent p) :=
  (s.unmarkMissing_keeps p).trans (Station.reviews_keeps _ _)

theorem Moved.dropAndReview {s t : Station} (h : Moved s t) (p : Slot) : Kept s (t.dropAndReview p) :=
  (h.trans (u := t.removeCandidate p) {}).reviewed 0

theorem Station.dropAndReview_keeps (s : Station) (p : Slot) : Kept s (s.dropAndReview p) :=
  Moved.dropAndReview (Kept.refl s).toMoved p

theorem Moved.notifySilent {s t : Station} (h : Moved s t) (p : Slot) : Kept s (t.notifySilent p) :=
  (h.trans (t.mergePeer_keeps p).toMoved).dropAndReview p

theorem Moved.notifyAbsent {s t : Station} (h : Moved s t) (p : Slot) (missing : Bool) :
    Kept s (t.notifyAbsent p missing) := by
  have marker (u : Station) : Kept u (if missing then u.markMissing p else u.unmarkRemoved p) := by
    split
    · exact u.markMissing_keeps p
    · exact u.unmarkRemoved_keeps p
  exact ((h.trans (t.flushSlot_keeps p).toMoved).dropAndReview p).trans
    (eitherOrder_keeps _ _ (fun u => u.mergePeer_keeps p) marker _)

theorem Station.recordHandover_keeps (s : Station) (p : Slot) (handover : Bool) :
    Kept s (s.recordHandover p handover) := by
  unfold Station.recordHandover
  split
  · exact {}
  · exact .refl s

theorem Moved.notifyLeft {s t : Station} (h : Moved s t) (p : Slot) (handover : Bool) :
    Kept s (t.notifyLeft p handover) :=
  (((h.trans (t.flushSlot_keeps p).toMoved).trans
    (Station.recordHandover_keeps _ p handover).toMoved).dropAndReview p).trans
      (eitherOrder_keeps _ _ (fun u => u.mergePeer_keeps p) (fun u => u.markRemoved_keeps p) _)

theorem Moved.notifyJoined {s t : Station} (h : Moved s t) (p : Slot) (setChanged : Bool) :
    Kept s (t.notifyJoined p setChanged) := by
  have told (u : Station) : Kept u (if setChanged then u.mergePeer p else u) := by
    split
    · exact u.mergePeer_keeps p
    · exact .refl u
  exact (h.dropAndReview p).trans
    (eitherOrder_keeps _ _ (fun u => (u.unmark_keeps p).trans (Station.startStagger_keeps _)) told _)

theorem Station.settle_keeps (s : Station) (p : Slot) : Kept s (s.settle p) := by
  unfold Station.settle
  dsimp only
  split
  · refine .trans ?_ (Station.notifyPresent_keeps _ p)
    exact s.setPeer_keeps p _ (fun _ => rfl) id
  · refine .trans ?_ (Station.notifyPresent_keeps _ p)
    exact s.setPeer_keeps p _ (fun _ => rfl) id
  all_goals exact s.setPeer_keeps p _ id id

theorem Moved.renewCandidate {s t : Station} (h : Moved s t) (p : Slot) : Moved s (t.renewCandidate p) :=
  h.trans {}

theorem Station.candidateFollows_keeps (s : Station) (p : Slot) : Kept s (s.candidateFollows p) := by
  rcases s.candidateFollows_cases p with ⟨-, h⟩ | ⟨-, h⟩
  · rw [h]; exact .refl s
  · rw [h]; exact ((Kept.refl s).toMoved.renewCandidate p).reviewed 0

theorem Station.takeRollcall_keeps (s : Station) (p : Slot) (cardType : Byte) (cls : Nat) (cardOk : Bool)
    (generation listSeq : Byte) : Kept s (s.takeRollcall p cardType cls cardOk generation listSeq) := by
  have renewed : Kept s (s.setPeer p ((s.peer p).rollcall cardType cls cardOk generation listSeq)) :=
    s.setPeer_keeps p _ id id
  unfold Station.takeRollcall
  dsimp only
  split
  · exact renewed.trans (Station.candidateFollows_keeps _ p)
  · exact (renewed.trans (Station.mergePeer_keeps _ p)).trans (Station.candidateFollows_keeps _ p)

/-- R153: in either order of the review and the sample. -/
theorem Station.takeBeacon_keeps (s : Station) (p : Slot) (seq : Byte) (cls : Nat) (previous : Option Stamp)
    (stepped : Bool) (stamp : RxStamp) (air : Bool) :
    Kept s (s.takeBeacon p seq cls previous stepped stamp air) := by
  have record : Kept s (s.setPeer p
      { s.peer p with
        beacon := some ⟨seq, stamp.stamp, stamp.void, cls, s.localTime⟩
        cls := some cls }) := s.setPeer_keeps p _ id id
  have sample (u : Station) : Kept u
      (u.thenReviews fun v => v.busSample p previous stepped seq (s.peer p).beacon air) :=
    Station.thenReviews_keeps _ u (u.busSample_keeps _ _ _ _ _ _)
  unfold Station.takeBeacon
  dsimp only
  split
  · exact record.toMoved.eitherOrder _ _ (fun u hu => (hu.renewCandidate p).reviewed 0) sample
  · exact ((record.toMoved.renewCandidate p).reviewed 0).trans (sample _)

theorem Station.takeKind_keeps (s : Station) (p : Slot) (seq : Byte) (c : Content) (stamp : RxStamp)
    (air : Bool) : Kept s (s.takeKind p seq c stamp air) := by
  cases c with
  | beacon cls previous stepped => exact s.takeBeacon_keeps _ _ _ _ _ _ _
  | rollcall cardType cls cardOk generation listSeq => exact s.takeRollcall_keeps _ _ _ _ _ _
  | join generation cardType cls cardOk cause first => exact (s.setPeer_moved p _).notifyJoined p _
  | leave generation handover reason => exact (s.setPeer_moved p _).notifyLeft p _
  | alarm listSeq entries =>
    refine .trans ?_ (Station.mergePeer_keeps _ p)
    exact s.setPeer_keeps p _ id id
  | data tier => exact .refl s

theorem Station.beginBar_keeps (s : Station) (p : Slot) : Kept s (s.beginBar p) :=
  ((s.setPeer_moved p _).dropAndReview p).trans (Station.keepTalker_keeps _)

theorem Station.countFlaw_keeps (s : Station) (p : Slot) : Kept s (s.countFlaw p) := by
  unfold Station.countFlaw
  dsimp only
  split
  · exact .refl s
  · split
    · exact s.beginBar_keeps p
    · exact s.setPeer_keeps p _ id id

theorem Station.rosterTakes_keeps (s : Station) (p : Slot) (seq : Byte) (c : Option Content)
    (stamp : RxStamp) (air : Bool) : Kept s (s.rosterTakes p seq c stamp air) := by
  unfold Station.rosterTakes
  split
  · split
    · exact (s.settle_keeps p).trans (Station.takeKind_keeps _ _ _ _ _ _)
    · exact .refl s
  · exact s.countFlaw_keeps p

/-! ### The receive filter -/

/-- R107: DATA is accepted only where its receive queue has room. -/
theorem Station.room_of_accepted (s : Station) (key : Byte) (f : RxFrame) (c : Option Content)
    (h : s.disposition key f c = .accepted) :
    (s.rx.queue (rxQueueOf key)).length < rxCapacity (rxQueueOf key) := by
  unfold Station.disposition Station.acceptance rxQueueOf Rx.queue at *
  grind

/-- R109: an accepted frame in a queue with room. -/
theorem Station.accept_keeps (s : Station) (key : Byte) (f : RxFrame) (stamp : RxStamp)
    (room : (s.rx.queue (rxQueueOf key)).length < rxCapacity (rxQueueOf key)) :
    Kept s (s.accept key f stamp) := by
  have placed (q : CardQueue) (e : RxEntry) (hq : (s.rx.queue q).length < rxCapacity q) :
      Kept s { s with rx := s.rx.setQueue q (s.rx.queue q ++ [e]) } :=
    { rx := fun h => by
        simp only [RxBounded] at h ⊢
        cases q <;> simp [Rx.queue, Rx.setQueue, rxCapacity, cardClass, FrameClass.capacity] at hq ⊢ <;> omega }
  exact (placed _ _ room).trans (Station.setPeer_keeps _ _ _ id id)

theorem Station.overrun_keeps (s : Station) : Kept s s.overrun := by
  unfold Station.overrun
  split
  · exact .refl s
  · exact Kept.trans (t := { s with rx := { s.rx with overrun := true } }) {}
      (Station.raiseInternal_keeps _ _ (by decide))

theorem Station.clearOverrun_keeps (s : Station) : Kept s s.clearOverrun := by
  unfold Station.clearOverrun
  split
  · exact Kept.trans (t := { s with rx := { s.rx with overrun := false } }) {}
      (Station.clearInternal_keeps _ _)
  · exact .refl s

theorem Station.filterTakes_keeps (s : Station) (key : Byte) (f : RxFrame) (c : Option Content)
    (stamp : RxStamp) : Kept s (s.filterTakes key f c stamp) := by
  unfold Station.filterTakes
  split
  next h => exact s.accept_keeps key f stamp (s.room_of_accepted key f c h)
  · split
    · exact s.overrun_keeps
    · exact .refl s
  all_goals exact .refl s

theorem Station.handOver_keeps (s : Station) (key : Byte) (f : RxFrame) (stamp : RxStamp) (air : Bool) :
    Kept s (s.handOver key f stamp air) := by
  have endField (m : Marks) : Kept s { s with lane := s.lane.heardEnd m } := {}
  exact ((endField _).trans (Station.filterTakes_keeps _ key f _ stamp)).trans
    (Station.rosterTakes_keeps _ _ _ _ _ _)

/-! ### The lane -/

theorem Station.contender_some {s : Station} {q : FrameClass} {e : Entry} (h : s.contender = some (q, e)) :
    s.sched.offer.isSome = true ∧ s.sched.queue q = e :: s.sched.behindHead q := by
  unfold Station.contender at h
  split at h
  next p hp =>
    split at h
    next x l hl =>
      split at h
      · cases h
        exact ⟨by simp [hp], by rw [Sched.behindHead, hl, List.tail_cons]⟩
      · cases h
    · cases h
  · cases h

/-- R5, R70: a start mark with the renewed offer; an offer stands with no attempt alone. -/
theorem Station.startMark_keeps (s : Station) : Kept s s.startMark.renewOffer := by
  unfold Station.startMark
  split
  next q e h =>
    obtain ⟨hoffer, hq⟩ := Station.contender_some h
    refine .ofLaneAndQueues (Station.renewOffer_spec _).1 rfl fun h => Station.renewOffer_queueOk _ ?_
    rw [h.offered hoffer] at h
    exact h.begun (Attempt.begun q e s.seat.slot) e _ hq
  · exact Kept.trans (t := { s with lane := s.lane.startMark s.stamp }) {} (Station.renewOffer_keeps _)

theorem Station.restartSilence_keeps (s : Station) : Kept s s.restartSilence := {}

theorem Station.tellWon_keeps (s : Station) (e : Entry) (start : RxStamp) : Kept s (s.tellWon e start) := by
  unfold Station.tellWon
  split
  · exact {}
  · split
    · exact {}
    · exact .refl s
  all_goals exact .refl s

/-- R8: the key won by the head that is on the lane. -/
theorem Station.winKey_keeps (s : Station) (a : Attempt) (e : Entry) (ha : s.lane.attempt = some a)
    (he : s.sched.onLaneHead a.queue = some e) : Kept s (s.winKey a e) := by
  obtain ⟨-, hq⟩ := (Sched.onLaneHead_eq_some _ _ _).1 he
  have won (lane : Lane) (share : Share) (b : Attempt) (hb : b.queue = a.queue) (d : Entry)
      (tag : d.tag = e.tag) (on : d.onLane = e.onLane) : Kept s
      (({ s with lane := { lane with attempt := some b }, share := share } : Station).setHead a.queue d) :=
    { queues := fun h => by
        rw [ha] at h
        exact (h.rewriteHead a.queue e d _ hq tag on).nextAttempt hb }
  unfold Station.winKey
  refine .trans ?_ (Station.tellWon_keeps _ _ _)
  refine .trans ?_ (Station.restartSilence_keeps _)
  apply won <;> rfl

theorem Station.judgeKey_keeps (s : Station) (lane : Byte) : Kept s (s.judgeKey lane) := by
  unfold Station.judgeKey
  split
  · exact s.ownKeyHeard_keeps
  · exact .refl s

theorem Station.contenderKey_keeps (s : Station) (a : Attempt) (lane : Byte) (ha : s.lane.attempt = some a) :
    Kept s (s.contenderKey a lane) := by
  unfold Station.contenderKey
  split
  · split
    next e he => exact s.winKey_keeps a e ha he
    · exact .refl s
  · exact (s.handResult_keeps a .lost ha).trans (Station.judgeKey_keeps _ lane)
  · exact (s.handResult_keeps a .flaw ha).trans (Station.readbackMismatch_keeps _)

theorem Lane.keyRead_attempt (l : Lane) (lane : Byte) : (l.keyRead lane).attempt = l.attempt := by
  unfold Lane.keyRead
  split <;> rfl

theorem Station.keyComplete_keeps (lane : Byte) (s : Station) : Kept s (s.keyComplete lane) := by
  have read : Kept s { s with lane := s.lane.keyRead lane } :=
    { queues := by rw [Lane.keyRead_attempt]; exact id }
  unfold Station.keyComplete
  dsimp only
  split
  next a ha =>
    split
    · exact read.trans (Station.contenderKey_keeps _ a lane ((s.lane.keyRead_attempt lane).trans ha))
    · exact read
  · exact read.trans (Station.judgeKey_keeps _ lane)

theorem Station.readbackFails_keeps (s : Station) : Kept s s.readbackFails := by
  have aborted : Kept s { s with lane := { s.lane with attempt := s.lane.attempt.map Attempt.aborts } } :=
    { queues := fun h => h.attempt _ fun _ => rfl }
  exact aborted.trans (Station.readbackMismatch_keeps _)

theorem Station.frameHandover_keeps (f : RxFrame) (air : Bool) (s : Station) :
    Kept s (s.frameHandover f air) := by
  unfold Station.frameHandover
  split
  · split
    · exact {}
    · exact s.handOver_keeps _ _ _ _
  · exact {}

theorem Station.attemptResult_keeps (flaw taken refused : Bool) (s : Station) :
    Kept s (s.attemptResult flaw taken refused) := by
  have ended : Kept s { s with lane := s.lane.endFieldOver } := {}
  have clean (u : Station) (h : u.lane = s.lane.endFieldOver) : u.readbackClean.lane = u.lane := by
    unfold Station.readbackClean
    split <;> rfl
  unfold Station.attemptResult
  split
  next a ha =>
    dsimp only
    split
    · exact ended.trans (Station.handResult_keeps _ a _ ha)
    · refine (ended.trans (Station.readbackClean_keeps _)).trans (Station.handResult_keeps _ a _ ?_)
      rw [clean _ rfl]
      exact ha
  · exact .refl s

theorem Station.stuckBegins_keeps (s : Station) : Kept s s.stuckBegins := by
  have stuck : Kept s { s with
      lane :=
        { s.lane with
          line := .stuck, marks := Marks.none, delimiter := false, endLeft := 0, stuckClear := none } } := {}
  exact stuck.trans (Station.raiseInternal_keeps _ _ (by decide))

theorem Station.stuckClears_keeps (s : Station) : Kept s s.stuckClears :=
  Kept.trans (t := { s with lane := { s.lane with stuckClear := none } }) {} (Station.clearInternal_keeps _ _)

/-! ### The pins -/

theorem Station.latchOpened_keeps (s : Station) : Kept s s.latchOpened := by
  have withdrawn : Kept s { s with sched := s.sched.withdraw .control .join } :=
    { queues := fun h => h.withdraw .control .join }
  unfold Station.latchOpened
  split
  · exact s.enterSeat_keeps _ (by decide)
  · exact withdrawn.trans (Station.enterLeaving_keeps _ _)
  · exact s.enterLeaving_keeps _
  all_goals exact .refl s

theorem Station.latchClosed_keeps (s : Station) : Kept s s.latchClosed := by
  have withdrawn : Kept s { s with sched := s.sched.withdraw .control .leave } :=
    { queues := fun h => h.withdraw .control .leave }
  exact withdrawn.trans (Station.enterListen_keeps _)

theorem Station.ppsEdge_keeps (air : Bool) (s : Station) : Kept s (s.ppsEdge air) := by
  have paired : Kept s s.pairEdge := {}
  have reported (u : Station) : Moved u { u with sel := { u.sel with extPresent := true } } := {}
  unfold Station.ppsEdge Station.edgePairs
  split
  · split
    · exact paired.trans (Station.thenReviews_keeps _ _ (Station.externalSample_keeps _ _ _))
    · exact (paired.toMoved.trans (reported _)).reviewed 0
  · exact s.discardStale_keeps

/-! ### Time and strobes -/

/-- R117, R118: a local period leaves cabinet time in its range. -/
theorem TimeBase.advance_inRange (t : TimeBase) :
    t.advance.sec < Config.secRange ∧ t.advance.ns < Config.nsPerSec ∧ t.advance.frac < Config.fracUnit :=
  ⟨Nat.mod_lt _ (by decide), Nat.mod_lt _ (by decide), Nat.mod_lt _ (by decide)⟩

/-- The fields of the time base that the invariants speak of. -/
def TimeBase.clock (t : TimeBase) : Nat × Nat × Nat × Nat × Nat × Int :=
  (t.sec, t.ns, t.frac, t.offset, t.stepCount, t.a)

theorem TimeBase.clock_eq_iff {t u : TimeBase} :
    u.clock = t.clock ↔ u.sec = t.sec ∧ u.ns = t.ns ∧ u.frac = t.frac ∧ u.offset = t.offset ∧
      u.stepCount = t.stepCount ∧ u.a = t.a := by
  simp [TimeBase.clock]

theorem TimeBase.oweSub_clock (t : TimeBase) (b : Option Nat) : (t.oweSub b).clock = t.clock := by
  cases b <;> rfl

theorem TimeBase.oweFrame_clock (t : TimeBase) (b : Option Nat) : (t.oweFrame b).clock = t.clock := by
  unfold TimeBase.oweFrame
  dsimp only
  repeat' split
  all_goals rfl

theorem TimeBase.owePps_clock (t : TimeBase) (b : Option Nat) : (t.owePps b).clock = t.clock := by
  cases b <;> rfl

/-- R121: what is owed is no part of the time. -/
theorem TimeBase.period_clock (t : TimeBase) : t.period.clock = t.advance.clock :=
  ((TimeBase.owePps_clock _ _).trans (TimeBase.oweFrame_clock _ _)).trans (TimeBase.oweSub_clock _ _)

theorem TimeBase.emitSub_clock (t : TimeBase) (now : Nat) : (t.emitSub now).clock = t.clock := by
  unfold TimeBase.emitSub
  split <;> rfl

theorem TimeBase.emitFrame_clock (t : TimeBase) (now : Nat) : (t.emitFrame now).clock = t.clock := by
  unfold TimeBase.emitFrame
  split <;> rfl

theorem TimeBase.emitPps_clock (t : TimeBase) (now : Nat) : (t.emitPps now).clock = t.clock := by
  unfold TimeBase.emitPps
  split <;> rfl

theorem TimeBase.endPulseOn_clock (t : TimeBase) (pin : StrobePin) (now : Nat) :
    (t.endPulseOn pin now).clock = t.clock := by cases pin <;> rfl

/-- R121, R122: a change of the time base that leaves the time itself. -/
theorem Station.setTime_keeps (s : Station) (t : TimeBase) (h : t.clock = s.time.clock) :
    Kept s { s with time := t } := by
  obtain ⟨h1, h2, h3, h4, h5, h6⟩ := TimeBase.clock_eq_iff.1 h
  exact {
    time := by simp only [TimeInRange, h1, h2, h3, h4, h5]; exact id
    rates := by simp only [RatesBounded, h6]; exact id }

theorem Lane.sendPeriod_attempt (l : Lane) (gate : Bool) :
    (l.sendPeriod gate).attempt = l.attempt ∨
      ∃ a b, l.attempt = some a ∧ (l.sendPeriod gate).attempt = some b ∧ b.queue = a.queue := by
  unfold Lane.sendPeriod
  split
  next a ha =>
    split
    · split
      · exact .inr ⟨a, _, ha, rfl, rfl⟩
      · exact .inr ⟨a, _, ha, rfl, rfl⟩
    · exact .inl rfl
  · exact .inl rfl

theorem Station.localPeriod_keeps (level : LaneLevel) (s : Station) : Kept s (s.localPeriod level) := by
  obtain ⟨hsec, hns, hfrac, hoff, hstep, ha⟩ := TimeBase.clock_eq_iff.1 s.time.period_clock
  have same : ((s.lane.period s.localTime level).endPeriod).attempt = s.lane.attempt := by
    rw [Lane.endPeriod_frame]
    rfl
  exact {
    time := fun ⟨_, _, _, h4, h5⟩ => by
      obtain ⟨g1, g2, g3⟩ := s.time.advance_inRange
      exact ⟨hsec.trans_lt g1, hns.trans_lt g2, hfrac.trans_lt g3, hoff.trans_lt h4, hstep.trans_lt h5⟩
    rates := fun ⟨h1, h2, h3, h4, h5⟩ => ⟨h1, h2, h3, h4, ha.trans h5⟩
    seat := fun ⟨h1, h2, h3⟩ => by
      simp only [Station.localPeriod, Seat.listenPeriod, SeatCounts]
      split
      next hl =>
        simp only [Bool.and_eq_true, decide_eq_true_eq] at hl
        exact ⟨h1, hl.2, h3⟩
      next => exact ⟨h1, h2, h3⟩
    queues := fun h => by
      rcases Lane.sendPeriod_attempt ((s.lane.period s.localTime level).endPeriod)
        (markGate s.seat.state) with e | ⟨a, b, e1, e2, hq⟩
      · exact (e.trans same).symm ▸ h
      · rw [← same, e1] at h
        exact e2.symm ▸ h.nextAttempt hq
    beacons := fun h hh hb => by
      simp only [Station.localPeriod, Station.beaconCondition, Seat.listenPeriod] at *
      split <;> exact h hh hb }

theorem Station.subframeStrobe_keeps (s : Station) : Kept s s.subframeStrobe := by
  have window (u : Station) (share : Share) : Kept u { u with share := share, lane := u.lane.newWindow } :=
    { queues := fun h => h.attempt _ fun _ => rfl }
  exact (s.setTime_keeps _ (s.time.emitSub_clock s.localTime)).trans (window _ _)

theorem Station.frameStrobe_keeps (s : Station) : Kept s s.frameStrobe := by
  have emitted := s.setTime_keeps _ (s.time.emitFrame_clock s.localTime)
  unfold Station.frameStrobe
  dsimp only
  split
  · exact emitted.trans (Station.releasePeriodic_keeps _ _)
  · exact emitted

theorem Station.ppsStrobe_keeps (s : Station) : Kept s s.ppsStrobe :=
  s.setTime_keeps _ (s.time.emitPps_clock s.localTime)

theorem Station.pulseEnds_keeps (pin : StrobePin) (s : Station) : Kept s (s.pulseEnds pin) :=
  s.setTime_keeps _ (s.time.endPulseOn_clock pin s.localTime)

/-! ### The local timers -/

theorem Station.fallSilent_keeps (p : Slot) (s : Station) : Kept s (s.fallSilent p) :=
  (s.setPeer_moved p _).notifySilent p

theorem Station.becomeAbsent_keeps (missing : Bool) (p : Slot) (s : Station) :
    Kept s (s.becomeAbsent missing p) := (s.setPeer_moved p _).notifyAbsent p missing

theorem Station.ageFlaws_keeps (p : Slot) (s : Station) : Kept s (s.ageFlaws p) := s.setPeer_keeps p _ id id

theorem Station.endBar_keeps (p : Slot) (s : Station) : Kept s (s.endBar p) :=
  ((s.setPeer_moved p _).reviewed 0).trans (Station.keepTalker_keeps _)

theorem Station.silenceExpires_keeps (s : Station) : Kept s s.silenceExpires := by
  unfold Station.silenceExpires
  dsimp only
  split
  next h =>
    have room : s.sched.hasRoom .control = true := by
      simp only [Bool.and_eq_true] at h
      exact h.2
    exact { queues := fun h => h.appendUntagged .control _ room rfl rfl }
  · exact {}

theorem Station.endBackoff_keeps (q : CardQueue) (s : Station) : Kept s (s.endBackoff q) := by
  have same (e : Entry) :
      (if e.backoffOver s.localTime then { e with backoff := none } else e).tag = e.tag ∧
        (if e.backoffOver s.localTime then { e with backoff := none } else e).onLane = e.onLane := by
    split <;> exact ⟨rfl, rfl⟩
  exact { queues := fun h => h.setQueue (cardClass q) _ (Thinned.ofMap _ _ same) }

/-- R145: a beacon placed where TIMING is empty. -/
theorem Station.placeBeacon_keeps (s : Station) : Kept s s.placeBeacon := by
  unfold Station.placeBeacon
  dsimp only
  split
  next room => exact { queues := fun h => h.appendUntagged .timing _ room rfl rfl }
  · exact {}

/-- R144: beaconing begins where its condition holds. -/
theorem Station.claimBeaconing_keeps (s : Station) (h : s.beaconCondition = true) :
    Kept s s.claimBeaconing := by
  have on : Kept s { s with
      sel :=
        { s.sel with
          beaconing := .on, claim := none, previous := none, current := none
          steppedPrevious := false, steppedCurrent := false } } := { beacons := fun _ _ _ => h }
  exact on.trans (Station.placeBeacon_keeps _)

theorem Station.externalLost_keeps (s : Station) : Kept s s.externalLost := by
  have lost : Moved s { s with
      servo := { s.servo with extLoss := none, extPresent := false }
      sel := { s.sel with extPresent := false } } := {}
  exact lost.reviewed 0

theorem Station.unlockedExpires_keeps (s : Station) : Kept s s.unlockedExpires :=
  Kept.trans (t := { s with servo := { s.servo with unlocked := .expired } }) {}
    (Station.raiseInternal_keeps _ _ (by decide))

theorem Station.refreshExpires_keeps (s : Station) : Kept s s.refreshExpires :=
  Kept.trans (t := { s with alarm := { s.alarm with refresh := some (s.localTime + Config.refresh) } }) {}
    (Station.placeAlarmIfPermitted_keeps _)

theorem Station.staggerExpires_keeps (s : Station) : Kept s s.staggerExpires :=
  Kept.trans (t := { s with alarm := { s.alarm with stagger := none } }) {}
    (Station.placeAlarmIfPermitted_keeps _)

theorem Station.retryExpires_keeps (s : Station) : Kept s s.retryExpires :=
  Kept.trans (t := { s with alarm := { s.alarm with retry := none } }) {}
    (Station.placeAlarmIfPermitted_keeps _)

theorem Station.watchdogExpires_keeps (s : Station) : Kept s s.watchdogExpires :=
  Kept.trans (t := { s with port := { s.port with watchdog := .expired, cardOk := false } }) {}
    (Station.raiseInternal_keeps _ _ (by decide))

/-! ### The card port -/

theorem Station.cardAlive_keeps (s : Station) : Kept s s.cardAlive := by
  have renewed : Kept s s.renewWatchdog := {}
  unfold Station.cardAlive
  dsimp only
  split
  · exact (renewed.trans (Station.clearInternal_keeps _ _)).trans (Station.renewOffer_keeps _)
  · exact renewed

theorem Station.answerOffer_keeps (s : Station) (body : Body) : Kept s (s.answerOffer body).1 :=
  s.renewOffer_keeps

/-- R124, R190: CONFIGURE's fields; a review is due, and the air offset is within a frame. -/
theorem Station.takeConfig_moved (s : Station) (c : ConfigArgs) : Moved s (s.takeConfig (heldConfig c)) := by
  have offset : (heldConfig c).airOffset < Config.frameNs := Nat.mod_lt _ (by decide)
  have realigned (t : TimeBase) (n : Nat) : (t.realign n).sec = t.sec ∧ (t.realign n).ns = t.ns ∧
      (t.realign n).frac = t.frac ∧ (t.realign n).offset = n ∧ (t.realign n).stepCount = t.stepCount ∧
      (t.realign n).a = t.a := by
    unfold TimeBase.realign
    split
    next h => exact ⟨rfl, rfl, rfl, h.symm, rfl, rfl⟩
    next => exact ⟨rfl, rfl, rfl, rfl, rfl, rfl⟩
  obtain ⟨h1, h2, h3, h4, h5, h6⟩ := realigned s.time (heldConfig c).airOffset
  exact {
    time := fun ⟨g1, g2, g3, _, g5⟩ =>
      ⟨h1.trans_lt g1, h2.trans_lt g2, h3.trans_lt g3, h4.trans_lt offset, h5.trans_lt g5⟩
    rates := fun ⟨g1, g2, g3, g4, g5⟩ => ⟨g1, g2, g3, g4, h6.trans g5⟩ }

theorem Station.configure_keeps (c : ConfigArgs) (s : Station) : Kept s (s.configure c).1 := by
  have entered : Kept s (s.takeConfig (heldConfig c)).leaveConfig := by
    have enter (new : SeatState) (hn : new ≠ .leaving) :
        Kept s ((s.takeConfig (heldConfig c)).enterSeat new) :=
      ((s.takeConfig_moved c).trans (Station.announceSeat_moved _ new fun h => absurd h hn)).entered
    unfold Station.leaveConfig
    split
    · exact enter .listen (by decide)
    · exact enter .waitSeat (by decide)
  have unlocked (u : Station) : Kept u u.startUnlockedUnlessLocked := by
    unfold Station.startUnlockedUnlessLocked
    split
    · exact .refl u
    · exact u.startUnlocked_keeps
  unfold Station.configure
  dsimp only
  split
  · exact .refl s
  · exact ((entered.trans (unlocked _)).trans (Station.reviews_keeps _ _)).trans
      (Station.answerOffer_keeps _ _)

theorem Station.placeSend_keeps (s : Station) (q : CardQueue) (d : Dest) (tier : Nat) (tag : Word16)
    (payload : List Byte) : Kept s (s.placeSend q d tier tag payload).1 := by
  unfold Station.placeSend
  dsimp only
  split
  · exact .refl s
  next reserved =>
    split
    · exact .refl s
    next room =>
      split
      · exact .refl s
      · have placed (e : Entry) (off : e.onLane = false) (tag : e.tag = some tag) :
            Kept s { s with sched := s.sched.append (cardClass q) e } :=
          { queues := fun h => by
              have held := Sched.held_eq_reserved h.internal
              refine h.append (cardClass q) e (by simpa using room) off (by cases q <;> simp [cardClass]) ?_
              simp only [tag, Option.isSome_some, if_true]
              omega }
        exact (placed _ rfl rfl).trans (Station.answerOffer_keeps _ _)

theorem Station.send_keeps (tag : Word16) (cls tier dest : Byte) (payload : List Byte) (s : Station) :
    Kept s (s.send tag cls tier dest payload).1 := by
  unfold Station.send
  split
  · exact .refl s
  · split
    · exact .refl s
    · split
      · split
        · exact .refl s
        · exact s.placeSend_keeps _ _ _ _ _
      · exact .refl s

theorem Station.take_keeps (selector : Byte) (s : Station) : Kept s (s.take selector).1 := by
  have taken (q : CardQueue) (e : RxEntry) (l : List RxEntry) (h : s.rx.queue q = e :: l) :
      Kept s { s with rx := s.rx.setQueue q l } :=
    { rx := fun hb => by
        simp only [RxBounded] at hb ⊢
        cases q <;> simp [Rx.queue] at h <;> simp [Rx.setQueue, h] at hb ⊢ <;> omega }
  unfold Station.take
  split
  · split
    next h =>
      exact ((taken _ _ _ h).trans (Station.clearOverrun_keeps _)).trans (Station.answerOffer_keeps _ _)
    · exact .refl s
  · exact .refl s

theorem Station.reap_keeps (s : Station) : Kept s s.reap.1 := by
  unfold Station.reap
  split
  · exact .refl s
  · exact { queues := fun h => h.congr (fun q => by cases q <;> rfl) (by simp [Station.answer]) h.offered }

theorem Station.setPeriodic_keeps (index skip phase dest tier : Byte) (payload : List Byte) (s : Station) :
    Kept s (s.setPeriodic index skip phase dest tier payload).1 := by
  have written (v : Vector PeriodicEntry 4) : Kept s { s with sched := { s.sched with periodic := v } } :=
    { queues := fun h => h.congr (fun q => by cases q <;> rfl) le_rfl h.offered }
  unfold Station.setPeriodic
  split
  · exact .refl s
  · split
    · exact .refl s
    · split
      · exact written _
      · exact .refl s

theorem Station.viewQueues_keeps (s : Station) : Kept s s.viewQueues.1 :=
  { queues := fun h => h.congr (fun q => by cases q <;> rfl) le_rfl h.offered }

theorem Station.viewRoster_keeps (slot : Byte) (s : Station) : Kept s (s.viewRoster slot).1 := by
  unfold Station.viewRoster
  split <;> exact .refl s

theorem Station.announceTime_keeps (second : Word32) (s : Station) : Kept s (s.announceTime second).1 := by
  unfold Station.announceTime
  split
  · exact {}
  · exact .refl s

theorem Station.readPeek_keeps (k : Byte) (s : Station) : Kept s (s.readPeek k).1 := by
  unfold Station.readPeek
  split <;> exact .refl s

/-- R183, R184: the cursor placed on an entry of the view, or at END. -/
theorem Station.setCursor_keeps (s : Station) (c : Option ViewEntry) (h : ∀ e ∈ c, e ∈ s.alarm.view) :
    Kept s (s.setCursor c) where
  alarm :=
    { lists := fun g => ⟨ownListBounded_congr (s := s) rfl g.1, viewBounded_congr (s := s) rfl g.2⟩
      order := fun _ g => ⟨g.1, fun i hi => by
        obtain ⟨e, he, rfl⟩ := Option.map_eq_some_iff.1 hi
        exact ⟨e, h e he, rfl⟩⟩ }

theorem successor_mem {l : List ViewEntry} {i : Ident} {e : ViewEntry} (h : successor l i = some e) :
    e ∈ l :=
  (List.dropWhile_sublist _).subset (List.mem_of_mem_drop (List.mem_of_head? h))

theorem predecessor_mem {l : List ViewEntry} {i : Ident} {e : ViewEntry} (h : predecessor l i = some e) :
    e ∈ l :=
  (List.takeWhile_sublist _).subset (List.mem_of_getLast? h)

theorem Station.afterCursor_mem (s : Station) : ∀ e ∈ s.afterCursor, e ∈ s.alarm.view := by
  intro e he
  obtain ⟨i, -, h⟩ := Option.bind_eq_some_iff.1 he
  exact successor_mem h

theorem Station.beforeCursor_mem (s : Station) : ∀ e ∈ s.beforeCursor, e ∈ s.alarm.view := by
  intro e he
  obtain ⟨i, -, h⟩ := Option.bind_eq_some_iff.1 he
  exact predecessor_mem h

theorem Station.seek_keeps (s : Station) (target : Option ViewEntry) (h : ∀ e ∈ target, e ∈ s.alarm.view) :
    Kept s (s.seek target).1 := by
  have cleared (u : Station) : Kept u { u with alarm := { u.alarm with viewChanged := false } } := {}
  exact (s.setCursor_keeps target h).trans (cleared _)

/-- R197: the arguments of RAISE name a code of the card's. -/
theorem raiseArgs_cardCode {code : Word16} {severity : Byte} {subject : Option Byte}
    {x : Severity × Option Slot} (h : raiseArgs code severity subject = some x) : cardCode code = true := by
  unfold raiseArgs at h
  split at h
  next hc => exact hc
  next => cases h

theorem Station.takeRaise_keeps (s : Station) (code : Word16) (sev : Severity) (subject : Option Slot)
    (hc : cardCode code = true) : Kept s (s.takeRaise code sev subject).1 := by
  unfold Station.takeRaise
  split
  next e he =>
    split
    · exact .refl s
    · exact (s.changeOwn_keeps _ fun ho => (s.takeRaise_own code sev subject hc ho).1 e he).trans
        (Station.answerOffer_keeps _ _)
  next hn =>
    split
    next hr =>
      exact (s.changeOwn_keeps _ fun ho => (s.takeRaise_own code sev subject hc ho).2 hn hr).trans
        (Station.answerOffer_keeps _ _)
    next => exact .refl s

theorem Station.raiseCard_keeps (code : Word16) (severity : Byte) (subject : Option Byte) (s : Station) :
    Kept s (s.raiseCard code severity subject).1 := by
  unfold Station.raiseCard
  split
  next h => exact s.takeRaise_keeps _ _ _ (raiseArgs_cardCode h)
  · exact .refl s

theorem Station.clearCard_keeps (code : Word16) (subject : Option Byte) (s : Station) :
    Kept s (s.clearCard code subject).1 := by
  unfold Station.clearCard Station.takeClear
  split
  · split
    · exact (s.changeOwn_keeps _ fun ho => ho.sublist List.filter_sublist).trans
        (Station.answerOffer_keeps _ _)
    · exact .refl s
  · exact .refl s

theorem Station.release_keeps (s : Station) : Kept s s.release.1 := by
  unfold Station.release
  split
  · exact (s.enterLeaving_keeps _).trans (Station.answerOffer_keeps _ _)
  · exact .refl s

theorem Station.clearTraffic_keeps (s : Station) : Kept s s.clearTraffic := by
  have periodic : Kept s s.clearPeriodic :=
    { queues := fun h => h.congr (fun q => by cases q <;> rfl) le_rfl h.offered }
  have emptied (u : Station) : Kept u { u with rx := { u.rx with express := [], bulk := [] } } :=
    { rx := fun _ => ⟨Nat.zero_le _, Nat.zero_le _⟩ }
  exact ((periodic.trans (Station.flushCards_keeps _)).trans (emptied _)).trans (Station.clearOverrun_keeps _)

theorem Station.resetTraffic_keeps (s : Station) : Kept s s.resetTraffic.1 := by
  unfold Station.resetTraffic
  split
  · exact .refl s
  · exact s.clearTraffic_keeps.trans (Station.answerOffer_keeps _ _)

theorem Station.resetTiming_keeps (s : Station) : Kept s s.resetTiming.1 := by
  have forgotten (u : Station) : Moved u { u with sel := u.sel.forgetLock } := {}
  have reset : Kept s s.resetTimingBlocks := by
    unfold Station.resetTimingBlocks
    dsimp only
    rw [Nat.add_comm]
    exact ((s.voidStamps_keeps.trans (Station.resetServo_keeps _)).toMoved.trans (forgotten _)).reviewed _
  exact reset.trans (Station.answerOffer_keeps _ _)

theorem Station.emptySets_keeps (s : Station) : Kept s s.emptySets := by
  have one (u : Station) (p : Slot) : Kept u (u.setPeer p { u.peer p with alarms := AlarmSet.empty }) :=
    u.setPeer_keeps p _ id id
  exact foldl_keeps _ one _ s

theorem Station.resetViewRequest_keeps (s : Station) : Kept s s.resetViewRequest.1 :=
  (s.emptySets_keeps.trans (Station.resetView_keeps _)).trans (Station.answerOffer_keeps _ _)

end Sys2Proof.Machine
end

section
/-! SUPPORT. What every command keeps: events, requests and resets, command by command, and the statements that every
step keeps the invariants. -/

-- One theorem after another: the check's data limit has no room for a thread for each.
set_option Elab.async false

open Sys2Proof Sys2Proof.Machine Sys2Proof.Safety

namespace Sys2Proof.Machine

/-! ### The invariants of a station, and what keeps them -/

/-- From `s` to `t` every invariant is kept. -/
structure InvariantsKept (s t : Station) : Prop where
  time : TimeInRange s → TimeInRange t := by exact id
  rates : RatesBounded s → RatesBounded t := by exact id
  seat : SeatCounts s → SeatCounts t := by exact id
  rx : RxBounded s → RxBounded t := by exact id
  queues : QueuesBounded s → QueuesBounded t
  alarm : AlarmKept s t := by exact .of_same rfl rfl rfl
  source : SourcePresent s → SourcePresent t := by exact id
  beacons : BeaconsOnlyWhenAllowed s → BeaconsOnlyWhenAllowed t := by exact id
  pins : PinsDriven s → PinsDriven t

theorem queuesBounded_congr {s t : Station} (sched : t.sched = s.sched)
    (attempt : t.lane.attempt = s.lane.attempt) (hold : t.hold = s.hold) (h : QueuesBounded s) :
    QueuesBounded t where
  timing := sched ▸ h.timing
  control := sched ▸ h.control
  express := sched ▸ h.express
  bulk := sched ▸ h.bulk
  reserved := sched ▸ h.reserved
  internal := sched ▸ h.internal
  lane hh q := by
    have := h.lane (hold.symm.trans hh) q
    unfold OnLaneAtHead at *
    rwa [sched, attempt]
  offered := by rw [sched, attempt]; exact h.offered

theorem InvariantsKept.refl (s : Station) : InvariantsKept s s := { queues := id, pins := id }

/-- Outside a reset hold an operation that keeps every invariant, with the pins judged at its end. -/
theorem Kept.driven {s t : Station} (h : Kept s t) (hh : s.hold = false) : InvariantsKept s t.drive where
  time := h.time
  rates := h.rates
  seat := h.seat
  rx := h.rx
  queues hq :=
    queuesBounded_congr (s := t) rfl rfl rfl
      ((queuesBounded_iff (h.hold.trans hh)).2 (h.queues ((queuesBounded_iff hh).1 hq)))
  alarm := h.alarm.trans (.of_same rfl rfl rfl)
  source := h.source
  beacons := h.beacons
  pins _ := rfl

/-- R25, log 3: an event acts outside a reset hold and when it is due. -/
theorem event_invariants {isDue : Station → Bool} {f : Station → Station}
    (h : ∀ u, isDue u = true → Kept u (f u)) (s : Station) : InvariantsKept s (event isDue f s) := by
  unfold event
  split
  next hd =>
    simp only [Bool.and_eq_true, Bool.not_eq_true'] at hd
    exact (h s hd.2).driven hd.1
  next => exact .refl s

theorem offerEvent_invariants {isDue : Station → Bool} {f : Station → Station}
    (h : ∀ u, isDue u = true → Kept u (f u)) (s : Station) : InvariantsKept s (offerEvent isDue f s) :=
  event_invariants (fun u hu => (h u hu).trans (Station.renewOffer_keeps _)) s

/-- The output pins do not read the input pins. -/
theorem setPins_invariants (s : Station) (pins : Pins) : InvariantsKept s { s with pins := pins } where
  queues := queuesBounded_congr rfl rfl rfl
  pins := id

theorem InvariantsKept.trans {s t u : Station} (h : InvariantsKept s t) (g : InvariantsKept t u) :
    InvariantsKept s u where
  time := g.time ∘ h.time
  rates := g.rates ∘ h.rates
  seat := g.seat ∘ h.seat
  rx := g.rx ∘ h.rx
  queues := g.queues ∘ h.queues
  alarm := h.alarm.trans g.alarm
  source := g.source ∘ h.source
  beacons := g.beacons ∘ h.beacons
  pins := g.pins ∘ h.pins

/-- R29, R40: a level is recorded, and then an event may follow. -/
theorem pinEvent_invariants {isDue : Station → Bool} {f : Station → Station}
    (h : ∀ u, isDue u = true → Kept u (f u)) (s : Station) (pins : Pins) :
    InvariantsKept s (offerEvent isDue f { s with pins := pins }) :=
  (setPins_invariants s pins).trans (offerEvent_invariants h _)

/-- R188: a request keeps what its owner keeps. -/
theorem Station.serve_invariants {req : Instr} {f : Station → Answer} (h : ∀ u, Kept u (f u).1)
    (s : Station) : InvariantsKept s (s.serve req f) := by
  have replied (u : Station) (r : Option Reply) :
      Kept u { u with port := { u.port with request := some req, reply := r } } := {}
  unfold Station.serve
  split
  next => exact .refl s
  next hn =>
    simp only [Bool.or_eq_true, not_or, Bool.not_eq_true] at hn
    exact ((s.cardAlive_keeps.trans (h _)).trans (replied _ _)).driven hn.1

/-! ### Resets -/

/-- R18, R25: a hold begins; the attempt is gone, its entry waits for the reset. -/
theorem Station.held_invariants (s : Station) : InvariantsKept s s.held where
  queues h :=
    { timing := h.timing, control := h.control, express := h.express, bulk := h.bulk
      reserved := h.reserved, internal := h.internal
      lane := fun hh => by cases hh
      offered := fun _ => rfl }
  beacons _ hh := by cases hh
  pins _ := rfl

/-- R25: the reset values meet every invariant. -/
theorem Station.afterReset_invariants (s : Station) (pins : Pins) (slot : Slot) (cause : ResetCause) (i : Nat) :
    InvariantsKept s (Station.afterReset pins slot cause i) where
  time _ := by
    have zero : 0 < Config.secRange ∧ 0 < Config.nsPerSec ∧ 0 < Config.fracUnit ∧ 0 < Config.frameNs ∧
      0 < 65536 := by decide
    exact zero
  rates _ := by
    have zero : -Config.rateLimit ≤ 0 ∧ 0 ≤ Config.rateLimit := by decide
    exact ⟨zero.1, zero.2, zero.1, zero.2, rfl⟩
  seat _ := ⟨Nat.zero_le _, Nat.zero_le _, by simp [Station.afterReset, Seat.reset]⟩
  rx _ := ⟨Nat.zero_le _, Nat.zero_le _⟩
  queues _ := by
    have empty (q : FrameClass) : (Station.afterReset pins slot cause i).sched.queue q = [] := by
      cases q <;> rfl
    exact {
      timing := Nat.zero_le _
      control := Nat.zero_le _
      express := Nat.zero_le _
      bulk := Nat.zero_le _
      reserved := Nat.zero_le _
      internal := fun e he => by cases he
      lane := fun _ q => (onLaneAtHead_iff _ q).2 (by rw [empty]; exact ⟨List.Pairwise.nil, by simp⟩)
      offered := fun _ => rfl }
  alarm :=
    { lists := fun _ => ⟨⟨Nat.zero_le _, by simp [Station.afterReset, AlarmUnit.reset], List.Pairwise.nil,
        List.Pairwise.nil⟩, ⟨Nat.zero_le _, List.Pairwise.nil⟩⟩
      order := fun _ _ => ⟨List.Pairwise.nil, fun i hi => by cases hi⟩ }
  source _ := ⟨rfl, fun p hp => by cases hp⟩
  beacons _ _ hb := absurd rfl hb
  pins _ := rfl

/-- R24: the slot, the cause and the transaction are no part of an invariant at the begin of a hold. -/
theorem Station.resetCause_invariants (s : Station) (pins : Pins) (slot : Slot) (cause : ResetCause)
    (port : Port) :
    InvariantsKept s
      ({ s with pins := pins, seat := { s.seat with slot := slot, cause := cause }, port := port } : Station).held where
  queues h := (Station.held_invariants
    { s with pins := pins, seat := { s.seat with slot := slot, cause := cause }, port := port }).queues
      (queuesBounded_congr (s := s) rfl rfl rfl h)
  beacons _ hh := by cases hh
  pins _ := rfl

theorem Station.restartReset_invariants (s : Station) : InvariantsKept s s.restartReset := by
  unfold Station.restartReset
  dsimp only
  split
  · split
    next hh =>
      exact {
        queues := queuesBounded_congr rfl rfl rfl
        beacons := fun _ hn => by rw [hh] at hn; cases hn
        pins := fun h => by simpa [PinsDriven, Station.outputsNow, hh] using h }
    next => exact s.afterReset_invariants _ _ _ _
  · exact .refl s

theorem Station.holdEnds_invariants (s : Station) : InvariantsKept s s.holdEnds := by
  unfold Station.holdEnds
  dsimp only
  split
  · exact s.afterReset_invariants _ _ _ _
  · exact setPins_invariants s _

theorem Station.discardTransaction_invariants (s : Station) : InvariantsKept s s.discardTransaction := by
  unfold Station.discardTransaction
  split
  · exact .refl s
  · exact { queues := queuesBounded_congr rfl rfl rfl, pins := id }

/-! ### Every command -/

/-- The command answers a next state in which every invariant is kept. -/
def AnswersKept (s : State) (o : Host.Outcome State Fault Refusal) : Prop :=
  ∃ t, o = .next t ∧ InvariantsKept s.toStation t.toStation

theorem AnswersKept.run {s : State} {f : Station → Station} (h : InvariantsKept s.toStation (f s.toStation)) :
    AnswersKept s (s.run f) := ⟨_, rfl, h⟩

theorem AnswersKept.event {s : State} {isDue : Station → Bool} {f : Station → Station}
    (h : ∀ u, Kept u (f u)) : AnswersKept s (s.run (event isDue f)) :=
  .run (event_invariants (fun u _ => h u) _)

theorem AnswersKept.offerEvent {s : State} {isDue : Station → Bool} {f : Station → Station}
    (h : ∀ u, Kept u (f u)) : AnswersKept s (s.run (offerEvent isDue f)) :=
  .run (offerEvent_invariants (fun u _ => h u) _)

theorem AnswersKept.pin {s : State} {pins : Pins} {isDue : Station → Bool} {f : Station → Station}
    (h : ∀ u, Kept u (f u)) :
    AnswersKept s
      (.next { s with toStation := Machine.offerEvent isDue f { s.toStation with pins := pins } }) :=
  ⟨_, rfl, pinEvent_invariants (fun u _ => h u) _ pins⟩

theorem AnswersKept.serve {s : State} {req : Instr} {f : Station → Answer} (h : ∀ u, Kept u (f u).1) :
    AnswersKept s (s.run (Station.serve req f)) := .run (Station.serve_invariants h _)

/-- Command by command, every invariant is kept. -/
theorem exec_keeps (c : Instr) (s : State) : AnswersKept s (exec c s) := by
  cases c with
  | powerReset straps => exact .run (Station.resetCause_invariants _ _ _ _ _)
  | pinReset => exact .run (Station.resetCause_invariants _ _ _ _ _)
  | restartReset => exact .run (Station.restartReset_invariants _)
  | resetHoldEnd => exact .run (Station.holdEnds_invariants _)
  | pwrGoodFalls => exact .run ((setPins_invariants _ _).trans (Station.held_invariants _))
  | seatLost => exact .pin fun u => u.enterSeat_keeps _ (by decide)
  | seatPresent => exact .pin Station.enterListen_keeps
  | latchOpens => exact .pin Station.latchOpened_keeps
  | latchCloses => exact .pin Station.latchClosed_keeps
  | extPpsEdge air => exact .offerEvent (Station.ppsEdge_keeps air)
  | localPeriod level => exact .event (Station.localPeriod_keeps level)
  | subframeStrobe => exact .offerEvent Station.subframeStrobe_keeps
  | frameStrobe => exact .offerEvent Station.frameStrobe_keeps
  | ppsStrobe => exact .event Station.ppsStrobe_keeps
  | strobePulseEnd pin => exact .event (Station.pulseEnds_keeps pin)
  | laneOpening => exact .offerEvent fun _ => {}
  | startMark => exact .run (event_invariants (fun u _ => u.startMark_keeps) _)
  | keyComplete lane => exact .offerEvent (Station.keyComplete_keeps lane)
  | readbackMismatch => exact .offerEvent Station.readbackFails_keeps
  | frameHandover f air => exact .offerEvent (Station.frameHandover_keeps f air)
  | frameAbandoned _ => exact .offerEvent fun _ => {}
  | attemptResult flaw taken refused => exact .offerEvent (Station.attemptResult_keeps flaw taken refused)
  | stuckBegins => exact .offerEvent Station.stuckBegins_keeps
  | stuckEnds => exact .offerEvent fun _ => {}
  | stuckClearExpiry => exact .offerEvent Station.stuckClears_keeps
  | listenComplete => exact .offerEvent Station.enterJoining_keeps
  | leavePlaced | drain40ms => exact .offerEvent Station.placeLeave_keeps
  | drain50ms => exact .offerEvent fun u => u.enterSeat_keeps _ (by decide)
  | silentTimeout slot => exact .offerEvent (Station.fallSilent_keeps slot)
  | absentTimeout slot => exact .offerEvent (Station.becomeAbsent_keeps true slot)
  | leftExpiry slot => exact .offerEvent (Station.becomeAbsent_keeps false slot)
  | flawTimeAged slot => exact .event (Station.ageFlaws_keeps slot)
  | barEnds slot => exact .offerEvent (Station.endBar_keeps slot)
  | silenceTimerExpiry => exact .offerEvent Station.silenceExpires_keeps
  | backoffEnds q => exact .offerEvent (Station.endBackoff_keeps q)
  | candidateDeadline slot => exact .offerEvent fun u => u.dropAndReview_keeps slot
  | claimExpiry =>
    refine .run (offerEvent_invariants (fun u hu => u.claimBeaconing_keeps ?_) _)
    simp only [Station.claimDue, Bool.and_eq_true] at hu
    exact hu.2
  | beaconIntervalExpiry => exact .offerEvent Station.placeBeacon_keeps
  | extLossExpiry => exact .offerEvent Station.externalLost_keeps
  | announcementStale => exact .event Station.discardStale_keeps
  | holdoverExpiry =>
    exact .offerEvent fun u => Station.thenReviews_keeps _ u u.expireHoldover_keeps
  | unlockedExpiry => exact .offerEvent Station.unlockedExpires_keeps
  | refreshExpiry => exact .offerEvent Station.refreshExpires_keeps
  | staggerExpiry => exact .offerEvent Station.staggerExpires_keeps
  | placementRetryExpiry => exact .offerEvent Station.retryExpires_keeps
  | watchdogExpiry => exact .offerEvent Station.watchdogExpires_keeps
  | transactionDiscarded => exact .run (Station.discardTransaction_invariants _)
  | unknownRequest _ _ => exact .serve Kept.refl
  | configure args => exact .serve (Station.configure_keeps args)
  | send tag cls tier dest payload => exact .serve (Station.send_keeps tag cls tier dest payload)
  | take selector => exact .serve (Station.take_keeps selector)
  | reap => exact .serve Station.reap_keeps
  | viewStation => exact .serve fun _ => {}
  | viewRoster slot => exact .serve (Station.viewRoster_keeps slot)
  | viewQueues => exact .serve Station.viewQueues_keeps
  | viewReference | viewAlarms | readHold => exact .serve Kept.refl
  | readNext | readAdvance => exact .serve fun u => u.setCursor_keeps _ u.afterCursor_mem
  | readPrev => exact .serve fun u => u.setCursor_keeps _ u.beforeCursor_mem
  | readPeek k => exact .serve (Station.readPeek_keeps k)
  | seekFirst => exact .serve fun u => u.seek_keeps _ fun _ => List.mem_of_head?
  | seekLast => exact .serve fun u => u.seek_keeps _ fun _ => List.mem_of_getLast?
  | raise code severity subject => exact .serve (Station.raiseCard_keeps code severity subject)
  | clear code subject => exact .serve (Station.clearCard_keeps code subject)
  | time | restart => exact .serve fun _ => {}
  | externalTime second => exact .serve (Station.announceTime_keeps second)
  | release => exact .serve Station.release_keeps
  | setPeriodic index skip phase dest tier payload =>
    exact .serve (Station.setPeriodic_keeps index skip phase dest tier payload)
  | resetTraffic => exact .serve Station.resetTraffic_keeps
  | resetTiming => exact .serve Station.resetTiming_keeps
  | resetView => exact .serve Station.resetViewRequest_keeps

/-- An empty queue idles, and every other step is a command's. -/
theorem step_keeps {s t : State} (h : step s = .next t) : InvariantsKept s.toStation t.toStation := by
  unfold step at h
  split at h
  · cases h
    exact .refl _
  next c rest _ =>
    obtain ⟨u, hu, hk⟩ := exec_keeps c { s with pending := rest }
    rw [hu] at h
    cases h
    exact hk

end Sys2Proof.Machine

namespace Sys2Proof.Slice0

/-- Settles O54: each range is a clause of what a step keeps. -/
theorem timeRatesSeatAndReceiveStayInRange : Obligations.TimeRatesSeatAndReceiveStayInRange :=
  ⟨fun _ _ hs h => (step_keeps h).time hs, fun _ _ hs h => (step_keeps h).rates hs,
    fun _ _ hs h => (step_keeps h).seat hs, fun _ _ hs h => (step_keeps h).rx hs⟩

/-- Settles O56: both are kept, since whatever moves the roster, the seat or the candidates ends in a review. -/
theorem sourceAndBeaconingStayAllowed : Obligations.SourceAndBeaconingStayAllowed :=
  ⟨fun _ _ hs h => (step_keeps h).source hs, fun _ _ hs h => (step_keeps h).beacons hs⟩

/-- Settles O57: `QueueOk`, queue by queue, outside a reset hold, and unmoved queues in it. -/
theorem queuesStayBounded : Obligations.QueuesStayBounded :=
  fun _ _ hs h => (step_keeps h).queues hs

/-- Settles O58: the own list is edited within its bounds, and every merge offers identities that differ. -/
theorem alarmListsStayBounded : Obligations.AlarmListsStayBounded :=
  fun _ _ hs h => (step_keeps h).alarm.lists hs

/-- Settles O59: beside the bounds of O58, insertion keeps the order, and the cursor follows the view. -/
theorem theViewStaysInOrder : Obligations.TheViewStaysInOrder := by
  rintro s t ⟨hown, hview, hs⟩ h
  obtain ⟨hown', hview'⟩ := (step_keeps h).alarm.lists ⟨hown, hview⟩
  exact ⟨hown', hview', (step_keeps h).alarm.order ⟨hown, hview⟩ hs⟩

end Sys2Proof.Slice0

namespace Sys2Proof.Machine

/-! ### The output pins (R39, R122, R182, R199, R200) -/

theorem viewHolds_iff (view : List ViewEntry) (sev : Severity) :
    viewHolds view sev = true ↔ ∃ e ∈ view, e.sev = sev := by simp [viewHolds]

theorem pulseOn_iff (p : Option Pulse) (now : Nat) : pulseOn p now = true ↔ ∃ q, p = some q ∧ q.first ≤ now := by
  cases p <;> simp [pulseOn]

theorem Station.attn_iff (s : Station) :
    s.causes.any = true ↔ s.alarm.viewChanged = true ∨ s.port.seatCause = true ∨ s.port.timingCause = true ∨
      s.port.missedCause = true ∨ s.port.reapLevel ≤ s.sched.completions.length := by
  simp [Station.causes, Causes.any, Station.completionsCause, or_assoc]

theorem Station.txRoomHolds_iff (s : Station) :
    s.txRoomHolds = true ↔ s.seat.state = .active ∧ s.sched.reserved ≤ 48 - s.port.txRoom ∧
      s.sched.express.length < 16 ∧ s.sched.bulk.length < 32 := by
  simp only [Station.txRoomHolds, Bool.and_eq_true, decide_eq_true_eq, and_assoc]
  exact Iff.rfl

theorem Station.relaysEnabled_iff (s : Station) :
    s.relaysEnabled = true ↔
      s.alarm.relayCapable = true ∧ (s.seat.state = .active ∨ s.seat.state = .leaving) := by
  simp [Station.relaysEnabled]

end Sys2Proof.Machine

namespace Sys2Proof.Slice0

/-- Settles O55: every command ends by driving the pins, or moves nothing that they show. -/
theorem pinsFollowTheState : Obligations.PinsFollowTheState := by
  refine ⟨fun _ _ hs h => (step_keeps h).pins hs, fun s h hh => ?_, fun s h hh => ?_⟩
  · simpa [PinsDriven, Station.outputsNow, hh, Outputs.released] using h
  · have outs : s.outs = s.outputs := by simpa [PinsDriven, Station.outputsNow, hh] using h
    simp only [outs, Station.outputs]
    refine ⟨by simp, s.attn_iff, by simp, s.txRoomHolds_iff, ?_, ?_, pulseOn_iff _ _, pulseOn_iff _ _,
      pulseOn_iff _ _, pulseOn_iff _ _⟩
    · rw [Bool.and_eq_true, s.relaysEnabled_iff, viewHolds_iff, and_assoc]
    · rw [Bool.and_eq_true, Bool.or_eq_true, s.relaysEnabled_iff, viewHolds_iff, viewHolds_iff, and_assoc,
        ← exists_or]
      simp only [and_or_left]

end Sys2Proof.Slice0
end

section
/-! SUPPORT. The machine and its resets (R18, R24, R25): a step is its command, a held part takes no event, and the
reset values. -/

-- One theorem after another: the check's data limit has no room for a thread for each.
set_option Elab.async false

open Sys2Proof Sys2Proof.Machine Sys2Proof.Safety Sys2Proof.Slice0

namespace Sys2Proof.Machine

/-! ### A held part (R25, log 12, log 13) -/

theorem State.run_of_eq (s : State) {f : Station → Station} {u : Station} (h : f s.toStation = u) :
    s.run f = .next { s with toStation := u } := by rw [State.run_eq, h]

theorem State.run_held_event {s : State} (isDue : Station → Bool) (f : Station → Station) (h : s.hold = true) :
    s.run (event isDue f) = .next s := by rw [State.run_eq, event_held _ _ _ h]

theorem State.run_held_offerEvent {s : State} (isDue : Station → Bool) (f : Station → Station)
    (h : s.hold = true) : s.run (offerEvent isDue f) = .next s := s.run_held_event _ _ h

theorem State.run_ignored_serve {s : State} (req : Instr) (f : Station → Answer)
    (h : s.hold = true ∨ s.port.restartPending = true) : s.run (Station.serve req f) = .next s := by
  rw [State.run_eq, Station.serve_ignored _ _ _ h]

theorem State.run_held_discard {s : State} (h : s.hold = true) :
    s.run Station.discardTransaction = .next s := by
  rw [State.run_eq, Station.discardTransaction, if_pos (by simp [h])]

/-- R25: no event and no request reaches a held part. -/
theorem exec_held {s : State} (h : s.hold = true) (c : Instr) (hr : isReset c = false)
    (hp : isPinLevel c = false) : exec c s = .next s := by
  cases c with
  | powerReset _ | pinReset | restartReset | resetHoldEnd | pwrGoodFalls => cases hr
  | seatLost | seatPresent | latchOpens | latchCloses => cases hp
  | extPpsEdge | subframeStrobe | frameStrobe | laneOpening | startMark | keyComplete | readbackMismatch
  | frameHandover | frameAbandoned | attemptResult | stuckBegins | stuckEnds | stuckClearExpiry
  | listenComplete | leavePlaced | drain40ms | drain50ms | silentTimeout | absentTimeout | leftExpiry
  | barEnds | silenceTimerExpiry | backoffEnds | candidateDeadline | claimExpiry | beaconIntervalExpiry
  | extLossExpiry | holdoverExpiry | unlockedExpiry | refreshExpiry | staggerExpiry
  | placementRetryExpiry | watchdogExpiry => exact State.run_held_offerEvent _ _ h
  | localPeriod | ppsStrobe | strobePulseEnd | flawTimeAged | announcementStale =>
    exact State.run_held_event _ _ h
  | transactionDiscarded => exact State.run_held_discard h
  | unknownRequest | configure | send | take | reap | viewStation | viewRoster | viewQueues | viewReference
  | viewAlarms | readHold | readNext | readPrev | readAdvance | readPeek | seekFirst | seekLast | raise
  | clear | time | externalTime | release | setPeriodic | resetTraffic | resetTiming | resetView | restart =>
    exact State.run_ignored_serve _ _ (.inl h)

/-- Log 13: a held part records a level of SEAT_N or LATCH_N and does nothing else. -/
theorem offerEvent_held_pins (isDue : Station → Bool) (f : Station → Station) (s : Station) (pins : Pins)
    (h : s.hold = true) : offerEvent isDue f { s with pins := pins } = { s with pins := pins } :=
  offerEvent_held _ _ _ h

/-! ### The reset values -/

/-- R65: the records after a reset. -/
theorem Station.afterReset_peer (pins : Pins) (slot : Slot) (cause : ResetCause) (i : Nat) (p : Slot) :
    (Station.afterReset pins slot cause i).peer p = freshPeer (decide (p = slot)) := by
  have h : (Station.afterReset pins slot cause i).peer p =
      ((Vector.replicate 16 Peer.reset).set slot (freshPeer true))[p.val] := rfl
  rw [h]
  by_cases hp : p = slot
  · subst hp
    exact (Vector.getElem_set_self p.isLt).trans (by simp)
  · refine (Vector.getElem_set_ne slot.isLt p.isLt fun e => hp (Fin.ext e.symm)).trans ?_
    simp [hp, freshPeer, Peer.reset, AlarmSet.empty]

theorem vector_replicate_get {α : Type} {n : Nat} (a : α) (i : Fin n) : (Vector.replicate n a).get i = a := by
  simp [Vector.get]

/-- R23, R45, R65, R88, R102, R116, R133, R151, R168, R187, R202: the tables of the chapters. -/
theorem Station.afterReset_atReset (pins : Pins) (slot : Slot) (cause : ResetCause) (i : Nat) :
    AtReset (Station.afterReset pins slot cause i) slot cause where
  lane := rfl
  seat := rfl
  peers := Station.afterReset_peer pins slot cause i
  silence := rfl
  queues := ⟨rfl, rfl, rfl, rfl, rfl, rfl, rfl⟩
  periodic := vector_replicate_get _
  share := rfl
  rx := rfl
  time := rfl
  sel := rfl
  servo := rfl
  lists := ⟨rfl, rfl, rfl, rfl, rfl, rfl⟩
  markers := vector_replicate_get _
  timers := ⟨rfl, rfl, rfl⟩
  port := rfl
  outs := rfl
  running := ⟨rfl, rfl⟩

/-- R25: RESET_N is deasserted with PWR_GOOD high. -/
theorem Station.holdEnds_released (s : Station) (h : s.hold = true) (hp : s.pins.pwrGood = true) :
    s.holdEnds = Station.afterReset { s.pins with resetAsserted := false } s.seat.slot s.seat.cause s.freeIdx := by
  simp [Station.holdEnds, h, hp, Station.released]

/-- Log 14: with PWR_GOOD low the hold goes on. -/
theorem Station.holdEnds_waits (s : Station) (hp : s.pins.pwrGood = false) :
    s.holdEnds = { s with pins := { s.pins with resetAsserted := false } } := by
  simp [Station.holdEnds, hp]

/-- R25, R198: the transaction that carried RESTART ends, with no hold running. -/
theorem Station.restartReset_released (s : Station) (hr : s.port.restartPending = true) (h : s.hold = false) :
    s.restartReset = Station.afterReset s.pins s.seat.slot .restart s.freeIdx := by
  simp [Station.restartReset, hr, h, Station.released]

theorem Station.restartReset_held (s : Station) (hr : s.port.restartPending = true) (h : s.hold = true) :
    s.restartReset =
      { s with seat := { s.seat with cause := .restart }, port := s.port.abandoned } := by
  simp [Station.restartReset, hr, h]

theorem Station.restartReset_none (s : Station) (hr : s.port.restartPending = false) : s.restartReset = s := by
  simp [Station.restartReset, hr]

end Sys2Proof.Machine

namespace Sys2Proof.Slice0

/-- Settles O1. -/
theorem stepRunsTheFrontCommand : Obligations.StepRunsTheFrontCommand :=
  ⟨fun _ _ => rfl, fun s h => by rw [step, h]⟩

/-- Settles O2: every arm of the dispatch is a run of the station alone. -/
theorem everyCommandIsTaken : Obligations.EveryCommandIsTaken := by
  intro c s
  cases c <;> exact ⟨_, rfl, rfl⟩

/-- Settles O3. -/
theorem resetCausesHoldThePart : Obligations.ResetCausesHoldThePart := by
  exact fun s => ⟨fun _ => rfl, rfl, rfl, fun h => ⟨exec_held h,
    s.run_of_eq (offerEvent_held_pins (fun t => seatLostMoves t.seat.state) (Station.enterSeat · .unseated) _ _ h),
    s.run_of_eq (offerEvent_held_pins Station.pairCompletes Station.enterListen _ _ h),
    s.run_of_eq (offerEvent_held_pins (fun t => latchOpenMoves t.seat.state) Station.latchOpened _ _ h),
    s.run_of_eq (offerEvent_held_pins Station.latchCloseMoves Station.latchClosed _ _ h)⟩⟩

/-- Settles O4. -/
theorem holdEndGivesTheResetValues : Obligations.HoldEndGivesTheResetValues := by
  intro s
  refine ⟨fun h hp => ⟨_, s.run_of_eq (s.holdEnds_released h hp), Station.afterReset_atReset _ _ _ _, rfl, rfl⟩,
    fun _ hp => s.run_of_eq (s.holdEnds_waits hp),
    fun hr h => ⟨_, s.run_of_eq (s.restartReset_released hr h), Station.afterReset_atReset _ _ _ _, rfl, rfl⟩,
    fun hr h => s.run_of_eq (s.restartReset_held hr h), fun hr => s.run_of_eq (s.restartReset_none hr)⟩

/-- Settles O60: the reset state is the end of a hold, so that it meets what a reset meets. -/
theorem resetMeetsEveryInvariant : Obligations.ResetMeetsEveryInvariant := by
  have reset : AtReset State.reset.toStation 0 .power := Station.afterReset_atReset _ _ _ _
  have time : TimeInRange State.reset.toStation := by decide
  have rates : RatesBounded State.reset.toStation := by decide
  have seat : SeatCounts State.reset.toStation := by decide
  have queues : QueuesBounded State.reset.toStation := by
    have empty (q : FrameClass) : State.reset.sched.queue q = [] := by cases q <;> rfl
    exact {
      timing := Nat.zero_le _
      control := Nat.zero_le _
      express := Nat.zero_le _
      bulk := Nat.zero_le _
      reserved := Nat.zero_le _
      internal := fun e he => by cases he
      lane := fun _ q => (onLaneAtHead_iff _ q).2 (by rw [empty]; exact ⟨List.Pairwise.nil, by simp⟩)
      offered := fun _ => rfl }
  have own : OwnListBounded State.reset.toStation :=
    ⟨Nat.zero_le _, fun e he => (by cases he), List.Pairwise.nil, List.Pairwise.nil⟩
  exact ⟨reset, rfl, time, rates, rfl, seat, ⟨rfl, fun p hp => (by cases hp)⟩, fun _ hb => absurd rfl hb, queues,
    ⟨Nat.zero_le _, Nat.zero_le _⟩, own, ⟨Nat.zero_le _, List.Pairwise.nil⟩, List.Pairwise.nil,
    fun i hi => by cases hi⟩

end Sys2Proof.Slice0
end

section
/-! SUPPORT. Where no ALARM frame may be placed (R173, R174), what a change of seat state leaves (R26, R27), and the
entries of CONTROL (R68): the layer under the seat states. -/

-- One theorem after another: the check's data limit has no room for a thread for each.
set_option Elab.async false

open Sys2Proof Sys2Proof.Machine Sys2Proof.Safety Sys2Proof.Slice0

namespace Sys2Proof.Machine

/-! ### Commands -/

theorem State.run_offerEvent_due {s : State} {isDue : Station → Bool} (f : Station → Station)
    (h : s.hold = false) (d : isDue s.toStation = true) :
    s.run (offerEvent isDue f) = .next { s with toStation := closing (f s.toStation) } :=
  s.run_of_eq (offerEvent_due _ _ _ h d)

theorem State.run_offerEvent_not_due {s : State} {isDue : Station → Bool} (f : Station → Station)
    (d : isDue s.toStation = false) : s.run (offerEvent isDue f) = .next s :=
  s.run_of_eq (offerEvent_not_due _ _ _ d)

theorem State.run_event_due {s : State} {isDue : Station → Bool} (f : Station → Station)
    (h : s.hold = false) (d : isDue s.toStation = true) :
    s.run (event isDue f) = .next { s with toStation := (f s.toStation).drive } :=
  s.run_of_eq (event_due _ _ _ h d)

theorem State.run_event_not_due {s : State} {isDue : Station → Bool} (f : Station → Station)
    (d : isDue s.toStation = false) : s.run (event isDue f) = .next s :=
  s.run_of_eq (event_not_due _ _ _ d)

/-! ### What places no ALARM frame -/

/-- R173, R174: the seat controller, the refresh and the stagger timer stay. Where the seat state permits no ALARM
frame, the retry timer stays too and an empty CONTROL stays empty. -/
structure NothingPlaced (s t : Station) : Prop where
  seat : t.seat = s.seat := by rfl
  refresh : t.alarm.refresh = s.alarm.refresh := by rfl
  stagger : t.alarm.stagger = s.alarm.stagger := by rfl
  retry : s.seat.maySendAlarms = false → t.alarm.retry = s.alarm.retry := by exact fun _ => rfl
  control : s.seat.maySendAlarms = false → s.sched.control = [] → t.sched.control = [] := by exact fun _ h => h

theorem NothingPlaced.refl (s : Station) : NothingPlaced s s := {}

theorem NothingPlaced.trans {s t u : Station} (h : NothingPlaced s t) (g : NothingPlaced t u) :
    NothingPlaced s u where
  seat := g.seat.trans h.seat
  refresh := g.refresh.trans h.refresh
  stagger := g.stagger.trans h.stagger
  retry hs := (g.retry (by rw [h.seat, hs])).trans (h.retry hs)
  control hs hc := g.control (by rw [h.seat, hs]) (h.control hs hc)

theorem Station.announceList_nothingPlaced (s : Station) : NothingPlaced s s.announceList := by
  unfold Station.announceList Station.placeAlarmIfPermitted
  split
  · exact { control := fun _ h => by simp [Station.updateAlarm, h] }
  · split
    next hp =>
      have may : s.seat.maySendAlarms = true := (Bool.and_eq_true_iff.1 hp).2
      unfold Station.placeAlarm
      split
      · exact { retry := fun h => by simp [may] at h, control := fun h => by simp [may] at h }
      · exact { retry := fun h => by simp [may] at h }
    · exact .refl s

theorem Station.setOwn_nothingPlaced (s : Station) (l : List AlarmEntry) : NothingPlaced s (s.setOwn l) := by
  refine NothingPlaced.trans ?_ (Station.announceList_nothingPlaced _)
  exact {}

theorem Station.setView_nothingPlaced (s : Station) (l : List ViewEntry) : NothingPlaced s (s.setView l) := {}

theorem Station.offerEach_nothingPlaced (s : Station) (l : List ViewEntry) :
    NothingPlaced s (s.offerEach l) := by
  induction l generalizing s with
  | nil => exact .refl s
  | cons e l ih => exact (s.setView_nothingPlaced _).trans (ih _)

theorem Station.offer_nothingPlaced (s : Station) (l : List ViewEntry) : NothingPlaced s (s.offer l) := by
  unfold Station.offer Station.raiseViewFull
  dsimp only
  split
  · split
    · exact s.offerEach_nothingPlaced _
    · exact ((s.offerEach_nothingPlaced _).trans (Station.setOwn_nothingPlaced _ _)).trans
        (Station.offerEach_nothingPlaced _ _)
  · exact s.offerEach_nothingPlaced _

theorem Station.clearViewFullIfLow_nothingPlaced (s : Station) (l : List ViewEntry) :
    NothingPlaced s (s.clearViewFullIfLow l) := by
  unfold Station.clearViewFullIfLow
  split
  · exact ((s.setOwn_nothingPlaced _).trans (Station.setView_nothingPlaced _ _)).trans
      (Station.offer_nothingPlaced _ _)
  · exact .refl s

theorem Station.merge_nothingPlaced (s : Station) (mine : Station → ViewEntry → Bool)
    (entries : Station → List ViewEntry) : NothingPlaced s (s.merge mine entries) :=
  (((s.setView_nothingPlaced _).trans (Station.clearViewFullIfLow_nothingPlaced _ _)).trans
    (Station.setView_nothingPlaced _ _)).trans (Station.offer_nothingPlaced _ _)

theorem Station.changeOwn_nothingPlaced (s : Station) (l : List AlarmEntry) :
    NothingPlaced s (s.changeOwn l) :=
  (s.setOwn_nothingPlaced l).trans (Station.merge_nothingPlaced _ _ _)

theorem Station.raiseInternal_nothingPlaced (s : Station) (code : Word16) :
    NothingPlaced s (s.raiseInternal code) := by
  unfold Station.raiseInternal
  split
  · exact .refl s
  · exact s.changeOwn_nothingPlaced _

theorem Station.clearInternal_nothingPlaced (s : Station) (code : Word16) :
    NothingPlaced s (s.clearInternal code) := by
  unfold Station.clearInternal
  split
  · exact s.changeOwn_nothingPlaced _
  · exact .refl s

theorem Station.setServoState_nothingPlaced (s : Station) (state : ServoState) :
    NothingPlaced s (s.setServoState state) := by
  unfold Station.setServoState
  split
  · exact .refl s
  · exact {}

theorem Station.startUnlockedIfLocked_nothingPlaced (s : Station) :
    NothingPlaced s s.startUnlockedIfLocked := by
  unfold Station.startUnlockedIfLocked
  split
  · exact {}
  · exact .refl s

theorem Station.expireHoldover_nothingPlaced (s : Station) : NothingPlaced s s.expireHoldover := by
  refine NothingPlaced.trans ?_ (Station.raiseInternal_nothingPlaced _ _)
  exact {}

theorem Station.enterHoldover_nothingPlaced (s : Station) : NothingPlaced s s.enterHoldover := by
  unfold Station.enterHoldover
  refine s.startUnlockedIfLocked_nothingPlaced.trans ?_
  generalize s.startUnlockedIfLocked = u
  dsimp only
  split
  · refine NothingPlaced.trans ?_ (Station.expireHoldover_nothingPlaced _)
    refine NothingPlaced.trans ?_ (Station.setServoState_nothingPlaced _ _)
    exact {}
  · refine NothingPlaced.trans ?_ (Station.setServoState_nothingPlaced _ _)
    exact {}

theorem Station.acquireSource_nothingPlaced (s : Station) : NothingPlaced s s.acquireSource := by
  refine s.startUnlockedIfLocked_nothingPlaced.trans ?_
  refine NothingPlaced.trans ?_ (Station.setServoState_nothingPlaced _ _)
  exact {}

theorem Station.takeSource_nothingPlaced (s : Station) (new : Source) :
    NothingPlaced s (s.takeSource new) := by
  have h : NothingPlaced s (({ s with servo := { s.servo with source := new } } : Station).setTimingCause) := {}
  unfold Station.takeSource
  dsimp only
  split
  · split
    · exact h.trans (Station.enterHoldover_nothingPlaced _)
    · exact h.trans (Station.enterHoldover_nothingPlaced _)
    · exact h
    · exact h
  · exact h.trans (Station.acquireSource_nothingPlaced _)

theorem Station.review_nothingPlaced (s : Station) : NothingPlaced s s.review := by
  have h : NothingPlaced s ({ s with sel := s.chosen }).decideBeaconing := by
    unfold Station.decideBeaconing
    split <;> exact {}
  unfold Station.review
  dsimp only
  split
  · exact h
  · exact h.trans (Station.takeSource_nothingPlaced _ _)

theorem Station.reviews_nothingPlaced (s : Station) (events : Nat) : NothingPlaced s (s.reviews events) :=
  reviews_keep (NothingPlaced s) (fun u h => h.trans u.review_nothingPlaced) s events (.refl s)

/-! ### Own alarms -/

/-- R170: the own list after an internal raise. -/
theorem Station.raiseInternal_raised (s : Station) (code : Word16) (h : code ≠ alarmViewFull) :
    Raised s (s.raiseInternal code) code (internalSeverity code) := by
  show (s.raiseInternal code).alarm.ownRest = _
  unfold Station.raiseInternal
  split
  · rfl
  · rw [Station.changeOwn_rest, List.filter_append]
    simp [ownBut, h]

/-- R170: the own list after an internal clear. -/
theorem Station.clearInternal_cleared (s : Station) (code : Word16) : Cleared s (s.clearInternal code) code := by
  show (s.clearInternal code).alarm.ownRest = s.alarm.ownRest.filter _
  unfold Station.clearInternal
  split
  · rw [Station.changeOwn_rest, AlarmUnit.ownRest, List.filter_filter, List.filter_filter]
    refine List.filter_congr fun e _ => ?_
    rw [Bool.and_comm]
    simp [bne, BEq.beq]
  next hn =>
    symm
    refine List.filter_eq_self.2 fun e he => ?_
    have he' : e ∈ s.alarm.own := (List.mem_filter.1 he).1
    simp only [AlarmUnit.has, List.any_eq_true, decide_eq_true_eq, not_exists, not_and] at hn
    simpa using hn e he'

theorem AlarmUnit.has_of_raised {s u : Station} {code : Word16} {sev : Severity} (h : Raised s u code sev)
    (hc : code ≠ alarmViewFull) : u.alarm.has code = true := by
  rw [u.alarm.has_eq_rest code hc]
  have h' : u.alarm.ownRest = _ := h
  rw [h']
  split
  next hs => rwa [s.alarm.has_eq_rest code hc] at hs
  · simp

theorem AlarmUnit.not_has_of_cleared {s u : Station} {code : Word16} (h : Cleared s u code)
    (hc : code ≠ alarmViewFull) : u.alarm.has code = false := by
  rw [u.alarm.has_eq_rest code hc]
  have h' : u.alarm.ownRest = _ := h
  rw [h']
  simp

/-! ### The entries of CONTROL -/

/-- R173: what the alarm unit does to CONTROL adds and changes ALARM frames alone. -/
theorem ControlTold.mem {l m : List Entry} (h : ControlTold l m) {e : Entry} (he : e ∈ m)
    (hk : e.kind ≠ .alarm) : e ∈ l := by
  obtain ⟨f, tail, rfl, hf, hsame, htail, -⟩ := h
  rcases List.mem_append.1 he with hm | hm
  · obtain ⟨x, hx, rfl⟩ := List.mem_map.1 hm
    obtain ⟨p, hp⟩ := hf x
    have kind : (f x).kind = x.kind := by rw [hp]
    rwa [hsame x (by simp [Entry.isUnwonAlarm, kind ▸ hk])]
  · obtain ⟨p, rfl⟩ := htail e hm
    exact absurd rfl hk

/-- R68: of the frames that a block withdraws, those that stay are on the lane and withdrawn. -/
theorem Sched.withdraw_control_mem {c : Sched} {kind : FrameKind} {e : Entry}
    (he : e ∈ (c.withdraw .control kind).control) (hk : e.kind = kind) : e.onLane = true ∧ e.withdrawn = true := by
  obtain ⟨x, hx, rfl⟩ := List.mem_map.1 he
  have hx' := (List.mem_filter.1 hx).2
  split
  next h => simpa [h] using hx'
  next h => rw [if_neg h] at hk; exact absurd hk h

/-- R68: JOIN and LEAVE stand first behind what is on the lane. -/
theorem insertAtHead_find (l : List Entry) (e : Entry) (h : e.onLane = false) :
    (insertAtHead l e).find? (fun x => !x.onLane) = some e := by
  unfold insertAtHead
  split
  · split <;> simp_all
  · simp [h]

/-- R68, R175: where no ALARM frame may be placed, JOIN and LEAVE touch CONTROL alone. -/
theorem Station.placeAtHead_quiet (s : Station) (kind : FrameKind) (h : s.seat.maySendAlarms = false) :
    s.placeAtHead kind = { s with sched := s.sched.placeAtHead (Entry.internal kind []) } := by
  unfold Station.placeAtHead Station.tellUnsent Station.placeAlarmIfPermitted
  split
  · split
    · exact if_neg (by simp [h])
    · rfl
  · rfl

/-! ### The offer -/

/-- R97: where BULK selection judges no head, renewing the offer touches the offer alone. -/
theorem Station.renewOffer_quiet (s : Station) (h : s.seat.maySendAlarms = false) :
    ∃ o, s.renewOffer = s.setOffer o := by
  unfold Station.renewOffer
  have hb : s.bulkSelection = s := if_neg (by simp [h])
  rw [hb]
  split
  · exact ⟨_, rfl⟩
  · split
    · exact ⟨_, rfl⟩
    · split
      · exact ⟨_, rfl⟩
      · split <;> exact ⟨_, rfl⟩

/-- R70: without the transmit permission nothing is offered. -/
theorem Station.renewOffer_none (s : Station) (h : ∀ q, transmitPermits s.seat.state q = false) :
    s.renewOffer = s.setOffer none := by
  have never (q : FrameClass) : s.headEligible q = false := by
    unfold Station.headEligible
    split
    · simp [h]
    · rfl
  have may : s.seat.maySendAlarms = false := by
    have := h .bulk
    unfold Seat.maySendAlarms
    revert this
    cases s.seat.state <;> simp [transmitPermits]
  have hb : s.bulkSelection = s := if_neg (by simp [may])
  unfold Station.renewOffer
  simp [never, hb]

theorem transmitPermits_of_closesGate {state : SeatState} (h : closesGate state = true) (q : FrameClass) :
    transmitPermits state q = false := by
  revert h
  cases state <;> simp [closesGate, transmitPermits]

theorem not_markGate_of_closesGate {state : SeatState} (h : closesGate state = true) :
    markGate state = false := by
  revert h
  cases state <;> simp [closesGate, markGate]

/-! ### A change of seat state -/

/-- R26, R27: the seat controller after a change to a state other than ACTIVE. -/
theorem Station.enterSeat_seat_inactive (s : Station) (new : SeatState) (h : new ≠ .active) :
    (s.enterSeat new).seat =
      { s.seat with state := new, listenCount := 0, drain := if new = .leaving then s.seat.drain else none } := by
  rw [s.enterSeat_seat]
  simp [h]

theorem Station.cutAttempt_port_marks (s : Station) :
    s.cutAttempt.port = { s.port with missedCause := s.cutAttempt.port.missedCause } ∧
      s.cutAttempt.lane.marks = s.lane.marks := by
  have applied (q : FrameClass) (f : Option Fate) :
      ((s.clearAttempt).applyFate q f).port =
          { s.port with missedCause := ((s.clearAttempt).applyFate q f).port.missedCause } ∧
        ((s.clearAttempt).applyFate q f).lane.marks = s.lane.marks :=
    have f := Station.applyFate_queueFrame s.clearAttempt q f
    ⟨f.port, (congrArg Lane.marks f.lane).trans rfl⟩
  unfold Station.cutAttempt
  split
  · dsimp only
    split
    · exact applied _ _
    · unfold Station.readbackClean
      split <;> exact applied _ _
    · exact ⟨rfl, rfl⟩
  · exact ⟨rfl, rfl⟩

/-- R15, R26: the gates move only MISSED at the port, and without the mark gate no marks stand. -/
theorem Station.closeGates_port_marks (s : Station) :
    s.closeGates.port = { s.port with missedCause := s.closeGates.port.missedCause } ∧
      (markGate s.seat.state = false → s.closeGates.lane.marks = Marks.none) := by
  have gate (u : Station) :
      (if closesGate u.seat.state then (((u.stopDelimiter).cutAttempt).flushCards).emptyInternal else u).port =
          { u.port with
            missedCause :=
              (if closesGate u.seat.state then (((u.stopDelimiter).cutAttempt).flushCards).emptyInternal
                else u).port.missedCause } ∧
        (if closesGate u.seat.state then (((u.stopDelimiter).cutAttempt).flushCards).emptyInternal
          else u).lane.marks = u.lane.marks := by
    split
    · obtain ⟨hp, hm⟩ := u.stopDelimiter.cutAttempt_port_marks
      have f := (Station.flushCards_queueFrame u.stopDelimiter.cutAttempt).trans
        (Station.emptyInternal_queueFrame _)
      refine ⟨?_, (congrArg Lane.marks f.lane).trans hm⟩
      rw [f.port, hp]
      rfl
    · exact ⟨rfl, rfl⟩
  unfold Station.closeGates
  dsimp only
  split
  next hm => exact ⟨(gate s).1, fun h => by rw [hm] at h; cases h⟩
  next => exact ⟨(gate _).1, fun _ => (gate _).2⟩

/-- R27, R59, R143, R201: the roster, the watchdog, the SEAT cause and beaconing after a change to a state other than
ACTIVE. -/
theorem Station.enterSeat_inactive (s : Station) (new : SeatState) (h : new ≠ .active) :
    (s.enterSeat new).roster = { s.roster with silence := none } ∧
      (s.enterSeat new).port.watchdog = .stopped ∧ (s.enterSeat new).port.seatCause = true ∧
      ((s.enterSeat new).hold = false → (s.enterSeat new).sel.beaconing = .off) ∧
      (markGate new = false → (s.enterSeat new).lane.marks = Marks.none) := by
  have f := Station.reviews_frame ((s.announceSeat new).closeGates).seatTimers 1
  have g := Station.closeGates_frame (s.announceSeat new)
  obtain ⟨gport, gmarks⟩ := Station.closeGates_port_marks (s.announceSeat new)
  have gstate : ((s.announceSeat new).closeGates).seat.state = new := by rw [Station.closeGates_seat]; rfl
  have timers : ((s.announceSeat new).closeGates).seatTimers.roster = { s.roster with silence := none } ∧
      ((s.announceSeat new).closeGates).seatTimers.port.watchdog = .stopped ∧
      ((s.announceSeat new).closeGates).seatTimers.port.seatCause = true ∧
      ((s.announceSeat new).closeGates).seatTimers.lane = ((s.announceSeat new).closeGates).lane := by
    have peers : ((s.announceSeat new).closeGates).roster.peers = s.roster.peers := g.peers
    have type : ((s.announceSeat new).closeGates).roster.cardType = s.roster.cardType := g.cardType
    have cause : ((s.announceSeat new).closeGates).port.seatCause = true := by rw [gport]; rfl
    revert gstate peers type cause
    generalize (s.announceSeat new).closeGates = u
    intro gstate peers type cause
    unfold Station.seatTimers
    dsimp only
    rw [gstate]
    cases new <;> simp_all [Port.watchdogIn]
  obtain ⟨hroster, hdog, hcause, hlane⟩ := timers
  refine ⟨f.roster.trans hroster, ?_, ?_, fun hold => ?_, fun hm => ?_⟩
  · exact (congrArg Port.watchdog f.port).trans hdog
  · exact (congrArg Port.seatCause f.port).trans hcause
  · have allowed : BeaconsOnlyWhenAllowed (s.enterSeat new) :=
      reviews_reach BeaconsOnlyWhenAllowed Station.review_allowed _ 0
    by_contra hb
    have hc := allowed hold hb
    have hs : (s.enterSeat new).seat.state = new := by rw [s.enterSeat_seat]
    simp [Station.beaconCondition, hs, h] at hc
  · exact (congrArg Lane.marks (f.lane.trans hlane)).trans (gmarks hm)

/-- R174: the timers that place ALARM frames stop in every state but ACTIVE and LEAVING. -/
theorem Station.enterSeat_timers (s : Station) (new : SeatState) (h : new ≠ .active) (hl : new ≠ .leaving) :
    (s.enterSeat new).alarm.refresh = none ∧ (s.enterSeat new).alarm.stagger = none ∧
      (s.enterSeat new).alarm.retry = none := by
  have gstate : ((s.announceSeat new).closeGates).seat.state = new := by rw [Station.closeGates_seat]; rfl
  have p := Station.reviews_nothingPlaced ((s.announceSeat new).closeGates).seatTimers 1
  have stopped : ((s.announceSeat new).closeGates).seatTimers.alarm.refresh = none ∧
      ((s.announceSeat new).closeGates).seatTimers.alarm.stagger = none ∧
      ((s.announceSeat new).closeGates).seatTimers.alarm.retry = none := by
    unfold Station.seatTimers
    dsimp only
    rw [gstate]
    cases new <;> simp_all [AlarmUnit.stopTimers]
  have may : ((s.announceSeat new).closeGates).seatTimers.seat.maySendAlarms = false := by
    rw [Station.seatTimers_seat]
    simp [Seat.maySendAlarms, gstate, h, hl]
  obtain ⟨h1, h2, h3⟩ := stopped
  exact ⟨p.refresh.trans h1, p.stagger.trans h2, (p.retry may).trans h3⟩

/-- R26: what a change to a state that leaves the transmit gate open keeps, ACTIVE aside. -/
theorem Station.enterSeat_open (s : Station) (new : SeatState) (h : new ≠ .active) (ho : closesGate new = false) :
    (s.enterSeat new).lane = { s.lane with marks := if markGate new then s.lane.marks else Marks.none } ∧
      (s.enterSeat new).sched.express = s.sched.express ∧ (s.enterSeat new).sched.bulk = s.sched.bulk ∧
      (s.enterSeat new).sched.completions = s.sched.completions ∧
      ControlTold s.sched.control (s.enterSeat new).sched.control := by
  have f := Station.reviews_frame ((s.announceSeat new).closeGates).seatTimers 1
  have gstate : ((s.announceSeat new).closeGates).seat.state = new := by rw [Station.closeGates_seat]; rfl
  obtain ⟨tsched, tlane, -⟩ :=
    Station.seatTimers_inactive (s.announceSeat new).closeGates (by rw [gstate]; exact h)
  have gates : ((s.announceSeat new).closeGates).sched = s.sched ∧
      ((s.announceSeat new).closeGates).lane =
        { s.lane with marks := if markGate new then s.lane.marks else Marks.none } := by
    unfold Station.closeGates
    cases hm : markGate new <;> simp [hm, ho, Station.announceSeat]
  obtain ⟨gsched, glane⟩ := gates
  have sched := tsched.trans gsched
  exact ⟨f.lane.trans (tlane.trans glane), f.express.trans (congrArg Sched.express sched),
    f.bulk.trans (congrArg Sched.bulk sched), f.completions.trans (congrArg Sched.completions sched),
    congrArg Sched.control sched ▸ f.control⟩

/-- R81: where the transmit gate closes, TIMING and CONTROL stay empty. -/
theorem Station.enterSeat_emptied (s : Station) (new : SeatState) (hc : closesGate new = true) :
    (s.enterSeat new).sched.timing = [] ∧ (s.enterSeat new).sched.control = [] := by
  have f := Station.reviews_frame ((s.announceSeat new).closeGates).seatTimers 1
  have p := Station.reviews_nothingPlaced ((s.announceSeat new).closeGates).seatTimers 1
  have gstate : ((s.announceSeat new).closeGates).seat.state = new := by rw [Station.closeGates_seat]; rfl
  have inactive : new ≠ .active := by rintro rfl; cases hc
  obtain ⟨tsched, -, -⟩ :=
    Station.seatTimers_inactive (s.announceSeat new).closeGates (by rw [gstate]; exact inactive)
  obtain ⟨-, htiming, hcontrol, -⟩ := (s.announceSeat new).closeGates_closed hc
  have may : ((s.announceSeat new).closeGates).seatTimers.seat.maySendAlarms = false := by
    rw [Station.seatTimers_seat, Seat.maySendAlarms, gstate]
    revert hc
    cases new <;> simp [closesGate]
  constructor
  · obtain ⟨keep, g, hg, -⟩ := f.timing
    rw [tsched, htiming] at hg
    exact hg
  · exact p.control may ((congrArg Sched.control tsched).trans hcontrol)

end Sys2Proof.Machine
end

section
/-! SUPPORT. The seat states (R28 to R44): what a closing gate leaves, in the words of the statements, and the
statements themselves. -/

-- One theorem after another: the check's data limit has no room for a thread for each.
set_option Elab.async false

open Sys2Proof Sys2Proof.Machine Sys2Proof.Safety Sys2Proof.Slice0

namespace Sys2Proof.Machine

/-! ### Requests -/

/-- R188: a request that the port serves. -/
theorem State.run_serve {s : State} (h : Serving s) {req : Instr} {f : Station → Answer} {u : Station} {r : Result}
    {b : Body} (hf : f s.cardAlive = (u, r, b)) :
    s.run (Station.serve req f) = .next { s with toStation := served u req r b } := by
  refine s.run_of_eq ?_
  rw [Station.serve_served _ _ _ h.1 h.2, hf]
  rfl

/-! ### The gate, as the statements describe it -/

/-- The head of a queue, where it is on the lane. -/
theorem Sched.onLaneHead_eq (c : Sched) (q : FrameClass) :
    c.onLaneHead q = (c.queue q).head?.filter Entry.onLane := by
  unfold Sched.onLaneHead
  cases c.queue q with
  | nil => rfl
  | cons e l => cases h : e.onLane <;> simp only [h, if_true, Bool.false_eq_true, if_false, List.head?_cons,
      Option.filter]

theorem Station.cut_eq (s : Station) : s.cut = cutOf s := by
  unfold Station.cut cutOf
  cases s.lane.attempt with
  | none => rfl
  | some a =>
    exact congrArg (fun o => if a.phase = .awaitMarks then none else Option.map (fun e => (a, e)) o)
      (s.sched.onLaneHead_eq a.queue)

/-- A frame cut is on the lane where it is cut. -/
theorem onLane_of_cutOf {s : Station} {a : Attempt} {e : Entry} (h : cutOf s = some (a, e)) :
    e.onLane = true := by
  unfold cutOf at h
  split at h
  · split at h
    · cases h
    · obtain ⟨x, hx, hxe⟩ := Option.map_eq_some_iff.1 h
      cases hxe
      exact (Option.filter_eq_some_iff.1 hx).2
  · cases h

/-- R72, R80: the frame cut leaves the same record and marks the same entry, whether its place on the lane is cleared
or not. -/
theorem Attempt.cutFrame_eq (a : Attempt) (e : Entry) :
    a.cutFrame e = ({ (Slice0.cutFrame a e).1 with onLane := false }, (Slice0.cutFrame a e).2) := by
  unfold Attempt.cutFrame Slice0.cutFrame Entry.counted
  split <;> rfl

theorem Station.gateKept_eq (s : Station) (q : FrameClass) : s.gateKept q = gateKeeps s q := by
  unfold Station.gateKept gateKeeps Station.afterCut
  rw [s.cut_eq]
  rfl

theorem Station.gateDropped_eq (s : Station) :
    s.gateDropped = (gateDrops s).map fun x => ({ x.1 with onLane := false }, x.2) := by
  unfold Station.gateDropped gateDrops
  rw [s.cut_eq, List.map_append, List.map_map]
  congr 1
  · cases cutOf s with
    | none => rfl
    | some x => simp [Attempt.cutFrame_eq]
  · refine List.map_congr_left fun e he => ?_
    have off : e.onLane = false := by simpa using (List.mem_filter.1 he).2
    simp [← off]

theorem Station.gateDropped_records (s : Station) :
    s.gateDropped.filterMap (fun x => x.1.record x.2) = (gateDrops s).filterMap fun x => recordOf x.2 x.1 := by
  rw [s.gateDropped_eq, List.filterMap_map]
  rfl

theorem Station.gateDropped_misses (s : Station) (i : Fin 4) :
    (∃ x ∈ s.gateDropped, x.1.missesCopy x.2 i) ↔ DropsCopy s i := by
  rw [s.gateDropped_eq]
  constructor
  · rintro ⟨x, hx, hm⟩
    obtain ⟨y, hy, rfl⟩ := List.mem_map.1 hx
    exact ⟨y, hy, hm⟩
  · rintro ⟨y, hy, hm⟩
    exact ⟨_, List.mem_map_of_mem hy, hm⟩

/-- R18, R26, R76, R81, R86: entering GONE, UNSEATED or CLASHED outside a reset hold, the offer renewed and the pins
judged. What follows the change may move the alarm unit, and no timer of it. -/
theorem Station.closing_gateClosed {s u : Station} {new : SeatState} (hc : closesGate new = true)
    (hold : s.hold = false) (f : AlarmFrame (s.enterSeat new) u) (p : NothingPlaced (s.enterSeat new) u) :
    GateClosed s (closing u) := by
  have inactive : new ≠ .active := by rintro rfl; cases hc
  have staying : new ≠ .leaving := by rintro rfl; cases hc
  have state : (s.enterSeat new).seat.state = new := by rw [s.enterSeat_seat]
  have may : (s.enterSeat new).seat.maySendAlarms = false := by simp [Seat.maySendAlarms, state, inactive, staying]
  obtain ⟨attempt, express, bulk, completions, missed⟩ := s.enterSeat_closed new hc
  obtain ⟨timing, control⟩ := s.enterSeat_emptied new hc
  obtain ⟨roster, dog, cause, beaconing, marks⟩ := s.enterSeat_inactive new inactive
  obtain ⟨refresh, stagger, retry⟩ := s.enterSeat_timers new inactive staying
  have delimiter : (s.enterSeat new).lane.delimiter = false := by
    have d := (s.announceSeat new).closeGates_delimiter hc
    have st : ((s.announceSeat new).closeGates).seat.state ≠ .active := by
      rw [Station.closeGates_seat]; exact inactive
    exact (congrArg Lane.delimiter ((Station.reviews_frame _ 1).lane.trans (Station.seatTimers_inactive _ st).2.1)).trans d
  have off : closing u = (u.setOffer none).drive := by
    unfold closing
    rw [Station.renewOffer_none u fun q => by rw [f.seat, state]; exact transmitPermits_of_closesGate hc q]
  have lane := f.lane
  have noMarks : u.lane.marks = Marks.none := (congrArg Lane.marks lane).trans
    (marks (not_markGate_of_closesGate hc))
  have noDelimiter : u.lane.delimiter = false := (congrArg Lane.delimiter lane).trans delimiter
  rw [off]
  refine ⟨noMarks, noDelimiter, Lane.endCells_silent _ noDelimiter noMarks,
    (congrArg Lane.attempt lane).trans attempt, f.timing.trans timing, p.control may control, rfl,
    f.express.trans (express.trans (s.gateKept_eq _)), f.bulk.trans (bulk.trans (s.gateKept_eq _)),
    f.completions.trans (completions.trans (by rw [s.gateDropped_records])), fun i => ⟨fun hd => ?_, fun hd => ?_⟩,
    ?_, (congrArg Selector.beaconing f.sel).trans (beaconing ((s.enterSeat_frame new).hold.trans hold)),
    f.roster.trans roster, (congrArg Port.watchdog f.port).trans dog, (congrArg Port.seatCause f.port).trans cause,
    p.refresh.trans refresh, p.stagger.trans stagger, (p.retry may).trans retry⟩
  · exact (congrArg (·.get i) f.periodic).trans (missed.marked i ((s.gateDropped_misses i).2 hd.1) hd.2)
  · exact (congrArg (·.get i) f.periodic).trans
      (missed.kept i fun x => hd ⟨(s.gateDropped_misses i).1 x.1, x.2⟩)
  · have periodic : ((u.setOffer none).drive).sched.periodic = (s.enterSeat new).sched.periodic := f.periodic
    have causes : ((u.setOffer none).drive).port = (s.enterSeat new).port := f.port
    rw [periodic, causes]
    exact missed.cause

/-- What follows an event leaves of a change of seat state what the change leaves. -/
theorem Station.closing_frame (s : Station) : EnterFrame s s.renewOffer ∧ (closing s).pins = s.pins ∧
    (closing s).seat = s.seat ∧ (closing s).lane = s.lane ∧ (closing s).alarm = s.alarm ∧
    (closing s).roster = s.roster ∧ (closing s).sel = s.sel ∧
    (closing s).port = { s.port with missedCause := (closing s).port.missedCause } := by
  obtain ⟨q, -⟩ := s.renewOffer_spec
  exact ⟨q.toEnter, q.pins, q.seat, q.lane, q.alarm, q.roster, q.sel, q.port⟩

theorem EnterFrame.closing {s t : Station} (h : EnterFrame s t) : SeatFrame s (closing t) := by
  have g := h.trans t.closing_frame.1
  exact ⟨g.hold, g.localTime, g.share, g.rx, g.peers, g.time, g.freeIdx, g.lane, g.i⟩

/-- R40: the SAFE pin after an event outside a reset hold. -/
theorem Station.closing_safe (s : Station) (h : s.hold = false) :
    (closing s).outs.safe = decide (s.seat.state = .gone) := by
  obtain ⟨q, -⟩ := s.renewOffer_spec
  have hold : s.renewOffer.hold = false := q.hold.trans h
  simp [closing, Station.outputsNow, hold, Station.outputs, q.seat]

/-- R68, R97: where no ALARM frame may be placed, what follows an event leaves queues and records alone. -/
theorem Station.closing_quiet (s : Station) (h : s.seat.maySendAlarms = false) :
    ∃ o, closing s = (s.setOffer o).drive := by
  obtain ⟨o, ho⟩ := s.renewOffer_quiet h
  exact ⟨o, congrArg Station.drive ho⟩

/-! ### Entering the states -/

/-- R18, R26: a station that enters GONE or UNSEATED. -/
theorem Station.closing_enterSeat_closed (s : Station) (new : SeatState) (hc : closesGate new = true)
    (hold : s.hold = false) :
    (closing (s.enterSeat new)).seat = { s.seat with state := new, listenCount := 0, drain := none } ∧
      (closing (s.enterSeat new)).pins = s.pins ∧
      (closing (s.enterSeat new)).outs.safe = decide (new = .gone) ∧
      GateClosed s (closing (s.enterSeat new)) ∧ SeatFrame s (closing (s.enterSeat new)) := by
  have inactive : new ≠ .active := by rintro rfl; cases hc
  have staying : new ≠ .leaving := by rintro rfl; cases hc
  obtain ⟨-, pins, seat, -⟩ := (s.enterSeat new).closing_frame
  have f := s.enterSeat_frame new
  refine ⟨seat.trans ?_, pins.trans f.pins, ?_, Station.closing_gateClosed hc hold (.refl _) (.refl _), f.closing⟩
  · rw [s.enterSeat_seat_inactive new inactive, if_neg staying]
  · rw [Station.closing_safe _ (f.hold.trans hold), s.enterSeat_seat]

/-- R44: a station that enters CLASHED. -/
theorem Station.closing_enterClashed (s : Station) (hold : s.hold = false) :
    (closing s.enterClashed).seat = { s.seat with state := .clashed, listenCount := 0, drain := none } ∧
      (closing s.enterClashed).lane.line = s.lane.line ∧ (closing s.enterClashed).lane.rxKey = s.lane.rxKey ∧
      GateClosed s (closing s.enterClashed) ∧ SeatFrame s (closing s.enterClashed) ∧
      (closing s.enterClashed).alarm.has slotClash = true := by
  have f := (s.enterSeat .clashed).raiseInternal_frame slotClash
  obtain ⟨-, -, seat, lane, alarm, -⟩ := s.enterClashed.closing_frame
  have g : EnterFrame s s.enterClashed := (s.enterSeat_frame .clashed).trans f.toReview.toEnter
  refine ⟨(seat.trans f.seat).trans (s.enterSeat_seat_inactive .clashed (by decide)),
    by rw [lane, g.lane], by rw [lane, g.lane],
    Station.closing_gateClosed (new := .clashed) rfl hold f (Station.raiseInternal_nothingPlaced _ _), g.closing, ?_⟩
  exact (congrArg (AlarmUnit.has · slotClash) alarm).trans
    (AlarmUnit.has_of_raised (Station.raiseInternal_raised _ slotClash (by decide)) (by decide))

/-- R29, R38: a station that enters WAIT_SEAT or LISTEN: the card frames stay queued. -/
theorem Station.closing_enterSeat_waiting (s : Station) (new : SeatState) (h : new = .listen ∨ new = .waitSeat) :
    (closing (s.enterSeat new)).seat = { s.seat with state := new, listenCount := 0, drain := none } ∧
      (closing (s.enterSeat new)).pins = s.pins ∧
      (closing (s.enterSeat new)).sched.express = s.sched.express ∧
      (closing (s.enterSeat new)).sched.bulk = s.sched.bulk ∧
      (closing (s.enterSeat new)).sched.completions = s.sched.completions ∧
      ControlTold s.sched.control (closing (s.enterSeat new)).sched.control ∧
      (closing (s.enterSeat new)).lane.attempt = s.lane.attempt ∧
      (closing (s.enterSeat new)).lane.marks = Marks.none ∧
      (closing (s.enterSeat new)).lane.delimiter = s.lane.delimiter ∧
      (closing (s.enterSeat new)).port.seatCause = true ∧ SeatFrame s (closing (s.enterSeat new)) := by
  have inactive : new ≠ .active := by rcases h with rfl | rfl <;> simp
  have staying : new ≠ .leaving := by rcases h with rfl | rfl <;> simp
  have opens : closesGate new = false := by rcases h with rfl | rfl <;> rfl
  have unmarked : markGate new = false := by rcases h with rfl | rfl <;> rfl
  obtain ⟨-, pins, seat, lane, -⟩ := (s.enterSeat new).closing_frame
  have f := s.enterSeat_frame new
  obtain ⟨slane, express, bulk, completions, control⟩ := s.enterSeat_open new inactive opens
  obtain ⟨-, -, cause, -⟩ := s.enterSeat_inactive new inactive
  have entered := s.enterSeat_seat_inactive new inactive
  have may : (s.enterSeat new).seat.maySendAlarms = false := by
    rw [entered]; simp [Seat.maySendAlarms, inactive, staying]
  rw [if_neg staying] at entered
  rw [unmarked] at slane
  have frame := f.closing
  obtain ⟨o, ho⟩ := (s.enterSeat new).closing_quiet may
  rw [ho] at pins seat lane frame ⊢
  exact ⟨seat.trans entered, pins.trans f.pins, express, bulk, completions, control,
    by rw [lane, slane], by rw [lane, slane]; rfl, by rw [lane, slane], cause, frame⟩

/-- R35: a station that enters LEAVING. -/
theorem Station.closing_enterLeaving (s : Station) (reason : LeaveReason) (hold : s.hold = false) :
    BeganLeaving s (closing (s.enterLeaving reason)) reason ∧
      (closing (s.enterLeaving reason)).pins = s.pins ∧
      ControlTold s.sched.control (closing (s.enterLeaving reason)).sched.control := by
  let u : Station :=
    { s with
      seat :=
        { s.seat with
          handover := decide (s.sel.beaconing = Beaconing.on)
          drain := some s.localTime
          leavePlaced := false
          leaveReason := some reason } }
  have f : EnterFrame u (u.enterSeat .leaving) := u.enterSeat_frame _
  have f' : EnterFrame s (u.enterSeat .leaving) := EnterFrame.trans (t := u) (by constructor <;> rfl) f
  obtain ⟨-, pins, seat, lane, -, roster, sel, port⟩ := (u.enterSeat .leaving).closing_frame
  obtain ⟨slane, express, -, -, control⟩ := u.enterSeat_open .leaving (by decide) rfl
  obtain ⟨sroster, dog, cause, beaconing, -⟩ := u.enterSeat_inactive .leaving (by decide)
  have lane' : (closing (u.enterSeat .leaving)).lane = s.lane := lane.trans slane
  refine ⟨⟨seat.trans ?_, (congrArg Selector.beaconing sel).trans (beaconing (f.hold.trans hold)),
    (Station.renewOffer_express _).trans express, congrArg Lane.attempt lane', congrArg Lane.marks lane',
    congrArg Lane.delimiter lane', (congrArg Roster.silence roster).trans (congrArg Roster.silence sroster),
    (congrArg Port.watchdog port).trans dog, (congrArg Port.seatCause port).trans cause, f'.closing⟩,
    pins.trans f'.pins, (Station.renewOffer_control (u.enterSeat .leaving)) ▸ control⟩
  rw [u.enterSeat_seat_inactive .leaving (by decide)]
  rfl

/-- R31: a station that enters JOINING: the JOIN stands first behind what is on the lane. -/
theorem Station.closing_enterJoining (s : Station) :
    (closing s.enterJoining).seat =
        { s.seat with
          state := .joining, listenCount := 0, generation := s.seat.generation + 1, mismatch := 0, drain := none } ∧
      (closing s.enterJoining).pins = s.pins ∧
      nextControl (closing s.enterJoining) = some (Entry.placed .join .all 0 [] none none) ∧
      (closing s.enterJoining).sched.express = s.sched.express ∧
      (closing s.enterJoining).sched.bulk = s.sched.bulk ∧
      (closing s.enterJoining).sched.completions = s.sched.completions ∧
      (closing s.enterJoining).lane.attempt = s.lane.attempt ∧
      (closing s.enterJoining).lane.marks = s.lane.marks ∧
      (closing s.enterJoining).lane.delimiter = s.lane.delimiter ∧ (closing s.enterJoining).port.seatCause = true ∧
      SeatFrame s (closing s.enterJoining) := by
  let u : Station := { s with seat := { s.seat with generation := s.seat.generation + 1, mismatch := 0 } }
  have entered := u.enterSeat_seat_inactive .joining (by decide)
  have may : (u.enterSeat .joining).seat.maySendAlarms = false := by rw [entered]; rfl
  have placed : s.enterJoining =
      { u.enterSeat .joining with
        sched := (u.enterSeat .joining).sched.placeAtHead (Entry.internal .join []) } :=
    Station.placeAtHead_quiet _ .join may
  have f : EnterFrame s s.enterJoining :=
    (EnterFrame.trans (t := u) (by constructor <;> rfl) (u.enterSeat_frame .joining)).trans
      (Station.placeAtHead_frame (u.enterSeat .joining) .join)
  obtain ⟨slane, express, bulk, completions, -⟩ := u.enterSeat_open .joining (by decide) rfl
  obtain ⟨-, -, cause, -⟩ := u.enterSeat_inactive .joining (by decide)
  have frame := f.closing
  have pins := f.pins
  obtain ⟨o, ho⟩ := s.enterJoining.closing_quiet (by rw [placed]; exact may)
  rw [ho] at frame ⊢
  rw [placed] at frame pins ⊢
  generalize u.enterSeat .joining = v at entered slane express bulk completions cause frame pins ⊢
  have lane : v.lane = s.lane := slane
  exact ⟨entered, pins, insertAtHead_find _ _ rfl, express, bulk, completions,
    congrArg Lane.attempt lane, congrArg Lane.marks lane, congrArg Lane.delimiter lane, cause, frame⟩

end Sys2Proof.Machine

namespace Sys2Proof.Slice0

/-- Settles O5. -/
theorem seatLostAndDrainEndCloseTheGate : Obligations.SeatLostAndDrainEndCloseTheGate := by
  refine fun s hold => ⟨fun h1 h2 h3 => ?_, fun h => ?_, fun start hs hd ht => ?_⟩
  · let u : Station := { s.toStation with pins := { s.pins with seatPresent := false } }
    have moves : seatLostMoves u.seat.state = true := by
      have : u.seat.state = s.seat.state := rfl
      rw [this]
      cases hst : s.seat.state <;> simp_all [seatLostMoves]
    obtain ⟨seat, pins, safe, gate, frame⟩ := u.closing_enterSeat_closed .unseated rfl hold
    exact ⟨_, s.run_of_eq (offerEvent_due _ _ u hold moves), seat, pins, safe, gate, frame⟩
  · have stays : seatLostMoves s.seat.state = false := by rcases h with h | h | h <;> rw [h] <;> rfl
    exact s.run_of_eq (offerEvent_not_due _ _ _ stays)
  · obtain ⟨seat, pins, safe, gate, frame⟩ := s.toStation.closing_enterSeat_closed .gone rfl hold
    refine ⟨_, State.run_offerEvent_due _ hold ?_, seat, pins, safe, gate, frame⟩
    simpa [hs, hd, Station.drainReached, due, Config.drainEnd, Config.ms] using ht

/-- Settles O6. -/
theorem keysHeardMoveTheLineAndOwnOnesClash : Obligations.KeysHeardMoveTheLineAndOwnOnesClash := by
  intro s key hold line attempt
  let u : Station := { s.toStation with lane := { s.lane with line := .body, rxKey := some key } }
  have read : Station.keyComplete key s.toStation = u.judgeKey key := by
    have : s.lane.keyRead key = { s.lane with line := .body, rxKey := some key } := if_pos line
    unfold Station.keyComplete
    rw [attempt]
    show Station.judgeKey { s.toStation with lane := s.lane.keyRead key } key = _
    rw [this]
  have taken : exec (.keyComplete key) s = .next { s with toStation := closing (u.judgeKey key) } := by
    rw [← read]
    exact State.run_offerEvent_due _ hold (by simp [Lane.keyEnds, line])
  have quiet : u.judgeKey key = u →
      exec (.keyComplete key) s = .next { s with toStation := closing u } := fun h => by rw [taken, h]
  refine ⟨fun hk => quiet (if_neg (by simp [u, hk])), fun hk => ?_⟩
  have own : u.judgeKey key = u.ownKeyHeard := if_pos (by simp [u, hk])
  refine ⟨fun hs => ?_, fun hs => quiet (own.trans ?_)⟩
  · have clash : u.judgeKey key = u.enterClashed := by
      rw [own]
      unfold Station.ownKeyHeard
      rcases hs with hs | hs | hs | hs <;> simp only [u, hs]
    rw [taken, clash]
    obtain ⟨seat, line, rxKey, gate, frame, raised⟩ := u.closing_enterClashed hold
    exact ⟨_, rfl, seat, line, rxKey, gate, frame, raised⟩
  · unfold Station.ownKeyHeard
    rcases hs with hs | hs | hs | hs | hs <;> simp only [u, hs]

/-- Settles O7. -/
theorem completingThePairBeginsListening : Obligations.CompletingThePairBeginsListening := by
  refine fun s hold => ⟨fun latch hs => ?_, fun present hs => ?_, fun h => ?_, fun h => ?_⟩
  · let u : Station := { s.toStation with pins := { s.pins with seatPresent := true } }
    have completes : u.pairCompletes = true := by
      rcases hs with hs | hs <;> simp [u, Station.pairCompletes, latch, hs]
    obtain ⟨seat, pins, express, bulk, completions, -, attempt, marks, delimiter, cause, frame⟩ :=
      u.closing_enterSeat_waiting .listen (.inl rfl)
    exact ⟨_, s.run_of_eq (offerEvent_due _ _ u hold completes), seat, pins, express, bulk, completions,
      attempt, marks, delimiter, cause, frame⟩
  · let u : Station := { s.toStation with pins := { s.pins with latchClosed := true } }
    let v : Station := { u with sched := u.sched.withdraw .control .leave }
    have closes : u.latchCloseMoves = true := by
      rcases hs with hs | hs | hs | hs <;> simp [u, Station.latchCloseMoves, present, hs]
    obtain ⟨seat, pins, express, bulk, completions, control, attempt, marks, delimiter, cause, frame⟩ :=
      v.closing_enterSeat_waiting .listen (.inl rfl)
    refine ⟨_, s.run_of_eq (offerEvent_due _ _ u hold closes), seat, pins, ?_, express, bulk, completions,
      attempt, marks, delimiter, cause,
      fun e he hk => Sched.withdraw_control_mem (control.mem he (by rw [hk]; decide)) hk, frame⟩
    refine (Station.closing_safe _ ((v.enterSeat_frame .listen).hold.trans hold)).trans ?_
    rw [v.enterSeat_seat]
    rfl
  · refine s.run_of_eq (offerEvent_not_due _ _ _ ?_)
    rcases h with h | ⟨h1, h2⟩
    · simp [Station.pairCompletes, h]
    · simp [Station.pairCompletes, h1, h2]
  · refine s.run_of_eq (offerEvent_not_due _ _ _ ?_)
    rcases h with h | h | h | h | h | h <;> simp [Station.latchCloseMoves, h]

/-- Settles O8. -/
theorem latchOpeningAndReleaseBeginLeaving : Obligations.LatchOpeningAndReleaseBeginLeaving := by
  refine ⟨fun s hold => ?_, fun s ⟨hold, waiting⟩ => ⟨fun hs => ?_, fun hs => ?_⟩⟩
  · let u : Station := { s.toStation with pins := { s.pins with latchClosed := false } }
    refine ⟨fun hs => ?_, fun hs => ?_, fun hs => ?_, fun h1 h2 h3 => ?_⟩
    · have opened : u.latchOpened = u.enterSeat .waitSeat := by simp only [Station.latchOpened, u, hs]
      obtain ⟨seat, pins, -, -, -, -, attempt, marks, delimiter, -, frame⟩ := u.closing_enterSeat_waiting .waitSeat (.inr rfl)
      refine ⟨_, s.run_of_eq (offerEvent_due _ _ u hold (by simp [u, hs, latchOpenMoves])), ?_⟩
      rw [opened]
      exact ⟨seat, pins, attempt, marks, delimiter, frame⟩
    · have opened : u.latchOpened = u.enterLeaving .latch := by simp only [Station.latchOpened, u, hs]
      obtain ⟨leaving, pins, -⟩ := u.closing_enterLeaving .latch hold
      refine ⟨_, s.run_of_eq (offerEvent_due _ _ u hold (by simp [u, hs, latchOpenMoves])), ?_⟩
      rw [opened]
      exact ⟨leaving, pins⟩
    · let v : Station := { u with sched := u.sched.withdraw .control .join }
      have opened : u.latchOpened = v.enterLeaving .latch := by simp only [Station.latchOpened, u, hs]; rfl
      obtain ⟨leaving, pins, control⟩ := v.closing_enterLeaving .latch hold
      refine ⟨_, s.run_of_eq (offerEvent_due _ _ u hold (by simp [u, hs, latchOpenMoves])), ?_⟩
      rw [opened]
      exact ⟨leaving, pins, fun e he hk =>
        Sched.withdraw_control_mem (control.mem he (by rw [hk]; decide)) hk⟩
    · refine s.run_of_eq (offerEvent_not_due _ _ _ ?_)
      have : latchOpenMoves s.seat.state = false := by cases hst : s.seat.state <;> simp_all [latchOpenMoves]
      exact this
  · obtain ⟨alive, -, seat, -⟩ := s.toStation.cardAlive_frame
    obtain ⟨leaving, pins, -⟩ := s.cardAlive.closing_enterLeaving .release (alive.hold.trans hold)
    refine ⟨_, State.run_serve ⟨hold, waiting⟩ (if_pos (by rw [seat]; exact hs)), leaving,
      pins.trans alive.pins, rfl, rfl⟩
  · obtain ⟨-, -, seat, -⟩ := s.toStation.cardAlive_frame
    exact State.run_serve ⟨hold, waiting⟩ (if_neg (by rw [seat]; exact hs))

/-- Settles O9. -/
theorem listenCompleteJoins : Obligations.ListenCompleteJoins := by
  refine fun s hold hs => ⟨fun h => ?_, fun h => ?_⟩
  · obtain ⟨seat, pins, next, express, bulk, completions, attempt, marks, delimiter, cause, frame⟩ :=
      s.toStation.closing_enterJoining
    refine ⟨_, State.run_offerEvent_due _ hold ?_, seat, pins, next, express, bulk, completions,
      attempt, marks, delimiter, cause, frame⟩
    have late : Config.listen ≤ s.seat.listenCount := h
    simp [Station.listenDone, hs, late]
  · refine State.run_offerEvent_not_due _ ?_
    have early : ¬ Config.listen ≤ s.seat.listenCount := Nat.not_le.2 h
    simp [Station.listenDone, early]

/-- Settles O10. -/
theorem leaveIsPlacedWhenDrainedOrAt40ms : Obligations.LeaveIsPlacedWhenDrainedOrAt40ms := by
  intro s start hold hs unplaced hd
  let u : Station :=
    { s.toStation with seat := { s.seat with leavePlaced := true }, alarm := s.alarm.stopTimers }
  have may : u.seat.maySendAlarms = false := by simp [u, Seat.maySendAlarms, hs]
  have placed : s.placeLeave = { u with sched := s.sched.placeAtHead (Entry.internal .leave []) } :=
    Station.placeAtHead_quiet u .leave may
  refine ⟨fun h1 h2 h3 h4 h5 => ?_, fun h => ?_, fun h => ?_⟩
  · refine (State.run_offerEvent_due _ hold ?_).trans ?_
    · simp [Station.leaveOwed, hs, unplaced, Station.drained, h1, h2, h3, h4, h5]
    · rw [placed, Sched.placeAtHead, h2]
      rfl
  · refine ⟨_, State.run_offerEvent_due _ hold ?_, ?_⟩
    · simpa [Station.leaveOwed, hs, unplaced, Station.drainReached, hd, due, Config.drainMark, Config.ms] using h
    · obtain ⟨o, ho⟩ := s.placeLeave.closing_quiet (by rw [placed]; exact may)
      rw [ho, placed]
      exact ⟨rfl, insertAtHead_find _ _ rfl, rfl, rfl, rfl, rfl, rfl⟩
  · refine State.run_offerEvent_not_due _ ?_
    simpa [Station.leaveOwed, hs, unplaced, Station.drainReached, hd, due, Config.drainMark, Config.ms] using h

end Sys2Proof.Slice0
end

section
/-! SUPPORT. Cabinet time, the boundaries it crosses, and the strobes (R84 to R95, R117 to R123). -/

-- One theorem after another: the check's data limit has no room for a thread for each.
set_option Elab.async false

open Sys2Proof Sys2Proof.Machine Sys2Proof.Safety Sys2Proof.Slice0

namespace Sys2Proof.Machine

/-! ### One local period of cabinet time (R117, R118) -/

/-- R118: with A in its range the increment is 10 ns, give or take less than 1.1 ns per thousand. -/
theorem increment_bounds {a : Int} (h1 : -100000 ≤ a) (h2 : a ≤ 100000) :
    42945377992 ≤ increment a ∧ increment a ≤ 42953967928 := by
  have e : increment a = 42949672960 + (a * 42949672960).tdiv 1000000000 := rfl
  rw [e]
  rcases Int.le_total 0 a with h | h
  · rw [Int.tdiv_eq_ediv_of_nonneg (by omega)]
    omega
  · have neg : a * 42949672960 = -(-a * 42949672960) := by ring
    rw [neg, Int.neg_tdiv, Int.tdiv_eq_ediv_of_nonneg (by omega)]
    omega

/-- R117, R118: the fields carry as one number. -/
theorem TimeBase.advance_inFractions (t : TimeBase) :
    inFractions t.advance = (inFractions t + (increment t.a).toNat) % (4294967296 * 1000000000 * 4294967296) := by
  have frac : t.advance.frac = (t.frac + (increment t.a).toNat) % 4294967296 := rfl
  have ns : t.advance.ns =
      (t.ns + (t.frac + (increment t.a).toNat) / 4294967296) % 1000000000 := rfl
  have sec : t.advance.sec =
      (t.sec + (t.ns + (t.frac + (increment t.a).toNat) / 4294967296) / 1000000000) % 4294967296 := rfl
  unfold inFractions
  rw [frac, ns, sec]
  omega

/-- R117: cabinet time in whole nanoseconds over one local period. -/
theorem TimeBase.advance_total (t : TimeBase) :
    t.advance.total =
      (t.total + (t.frac + (increment t.a).toNat) / 4294967296) % Config.timeRange := by
  have ns : t.advance.ns =
      (t.ns + (t.frac + (increment t.a).toNat) / 4294967296) % 1000000000 := rfl
  have sec : t.advance.sec =
      (t.sec + (t.ns + (t.frac + (increment t.a).toNat) / 4294967296) / 1000000000) % 4294967296 := rfl
  show t.advance.sec * 1000000000 + t.advance.ns = (t.sec * 1000000000 + t.ns + _) % 4294967296000000000
  rw [ns, sec]
  omega

theorem TimeBase.total_lt {t : TimeBase} (h1 : t.sec < Config.secRange) (h2 : t.ns < Config.nsPerSec) :
    t.total < 4294967296000000000 := by
  have h1' : t.sec < 4294967296 := h1
  have h2' : t.ns < 1000000000 := h2
  show t.sec * 1000000000 + t.ns < _
  omega

/-! ### Boundaries (R120, R121) -/

/-- R121: the instants of a grid that a short advance passes are what `crossed` finds: `j` nanoseconds on, where the
grid has one there. -/
theorem crossed_eq {t0 n offset spacing : Nat} (h0 : t0 < Config.timeRange) (hn : n < 12)
    (hd : spacing ∣ Config.timeRange) :
    crossed t0 ((t0 + n) % Config.timeRange) offset spacing =
      if spacing ≤ (t0 + Config.timeRange - offset) % spacing + n then
        some ((t0 + (spacing - (t0 + Config.timeRange - offset) % spacing)) % Config.timeRange)
      else none := by
  have advance : ((t0 + n) % Config.timeRange + Config.timeRange - t0) % Config.timeRange = n := by
    unfold Config.timeRange at *
    omega
  unfold crossed pastBoundary
  rw [Nat.mod_mod_of_dvd _ hd, advance]

/-- R121: the instant that a short advance passes, of a grid wider than it. -/
theorem crossedAt_iff {t0 n offset spacing b : Nat} (hn : n < 12) (ho : offset ≤ Config.timeRange)
    (hs : 12 ≤ spacing) :
    CrossedAt t0 n offset spacing b ↔
      spacing ≤ (t0 + Config.timeRange - offset) % spacing + n ∧
        b = t0 + (spacing - (t0 + Config.timeRange - offset) % spacing) := by
  unfold CrossedAt OnGrid
  have low := Nat.mod_lt (t0 + Config.timeRange - offset) (show 0 < spacing by omega)
  constructor
  · rintro ⟨h1, h2, h3⟩
    obtain ⟨j, rfl⟩ := Nat.exists_eq_add_of_lt h1
    have split : t0 + j + 1 + Config.timeRange - offset = t0 + Config.timeRange - offset + (j + 1) := by omega
    rw [split, Nat.add_mod, Nat.mod_eq_of_lt (show j + 1 < spacing by omega)] at h3
    generalize (t0 + Config.timeRange - offset) % spacing = past at *
    by_cases hlt : past + (j + 1) < spacing
    · rw [Nat.mod_eq_of_lt hlt] at h3
      omega
    · rw [Nat.mod_eq_sub_mod (by omega), Nat.mod_eq_of_lt (by omega)] at h3
      omega
  · rintro ⟨h1, rfl⟩
    refine ⟨by omega, by omega, ?_⟩
    have split : t0 + (spacing - (t0 + Config.timeRange - offset) % spacing) + Config.timeRange - offset =
        t0 + Config.timeRange - offset + (spacing - (t0 + Config.timeRange - offset) % spacing) := by omega
    rw [split, Nat.add_mod]
    generalize (t0 + Config.timeRange - offset) % spacing = past at *
    by_cases hp : past = 0
    · omega
    · rw [Nat.mod_eq_of_lt (show spacing - past < spacing by omega), show past + (spacing - past) = spacing by omega,
        Nat.mod_self]

/-- R121: an instant passed is found, and one found is passed. -/
theorem crossed_cases {t0 n offset spacing : Nat} (h0 : t0 < Config.timeRange) (hn : n < 12)
    (ho : offset < Config.timeRange) (hd : spacing ∣ Config.timeRange) (hs : 12 ≤ spacing) :
    (∃ b, crossed t0 ((t0 + n) % Config.timeRange) offset spacing = some (b % Config.timeRange) ∧
        ∀ c, CrossedAt t0 n offset spacing c ↔ c = b) ∨
      crossed t0 ((t0 + n) % Config.timeRange) offset spacing = none ∧
        ∀ c, ¬ CrossedAt t0 n offset spacing c := by
  rw [crossed_eq h0 hn hd]
  split
  next h => exact .inl ⟨_, rfl, fun c => by simp [crossedAt_iff hn ho.le hs, h]⟩
  next h => exact .inr ⟨rfl, fun c hc => h ((crossedAt_iff hn ho.le hs).1 hc).1⟩

/-! ### The strobes owed -/

theorem Stamp.ofTotal_total (x : Nat) :
    (Stamp.ofTotal (x % Config.timeRange)).total = x % Config.timeRange ∧
      (Stamp.ofTotal (x % Config.timeRange)).ns < 1000000000 := by
  constructor
  · show x % Config.timeRange % Config.timeRange / 1000000000 * 1000000000 +
      x % Config.timeRange % Config.timeRange % 1000000000 = _
    rw [Nat.mod_mod]
    omega
  · exact Nat.mod_lt _ (by decide)

theorem TimeBase.oweSub_eq (t : TimeBase) (b : Option Nat) :
    t.oweSub b = { t with owedSub := (t.oweSub b).owedSub, resyncSub := (t.oweSub b).resyncSub } := by
  cases b <;> rfl

theorem TimeBase.owePps_eq (t : TimeBase) (b : Option Nat) :
    t.owePps b = { t with owedPps := (t.owePps b).owedPps, resyncPps := (t.owePps b).resyncPps } := by
  cases b <;> rfl

/-- R124: the frame strobe of this count is owed. -/
def TimeBase.owesCount (t : TimeBase) (count : Nat) : Bool :=
  match t.passOver with
  | some last => decide (count = (last + 1) % frameRound)
  | none => true

theorem TimeBase.oweFrame_some (t : TimeBase) (b : Nat) :
    t.oweFrame (some b) =
      if t.owesCount (frameCount b t.offset) then
        { t with
          owedFrame := t.owedFrame ++ [⟨Stamp.ofTotal b, frameCount b t.offset, t.resyncFrame⟩]
          resyncFrame := false
          passOver := none }
      else t := rfl

theorem TimeBase.oweFrame_eq (t : TimeBase) (b : Option Nat) :
    t.oweFrame b =
      { t with
        owedFrame := (t.oweFrame b).owedFrame, resyncFrame := (t.oweFrame b).resyncFrame
        passOver := (t.oweFrame b).passOver } := by
  cases b with
  | none => rfl
  | some b =>
    rw [TimeBase.oweFrame_some]
    split <;> rfl

/-- What an instant of the frame grid does turns on the offset and on what stands of the frame strobe alone. -/
theorem TimeBase.oweFrame_congr {t u : TimeBase} (b : Option Nat)
    (h : (u.offset, u.owedFrame, u.resyncFrame, u.passOver) = (t.offset, t.owedFrame, t.resyncFrame, t.passOver)) :
    ((u.oweFrame b).owedFrame, (u.oweFrame b).resyncFrame, (u.oweFrame b).passOver) =
      ((t.oweFrame b).owedFrame, (t.oweFrame b).resyncFrame, (t.oweFrame b).passOver) := by
  simp only [Prod.mk.injEq] at h
  obtain ⟨h1, h2, h3, h4⟩ := h
  cases b with
  | none => simp [TimeBase.oweFrame, h2, h3, h4]
  | some b =>
    have owes (n : Nat) : u.owesCount n = t.owesCount n := by rw [TimeBase.owesCount, h4]; rfl
    rw [TimeBase.oweFrame_some, TimeBase.oweFrame_some, owes, h1]
    split <;> simp [h2, h3, h4]

/-- R121: the three kinds of strobe are owed each for itself. -/
theorem TimeBase.owe_each (t : TimeBase) (sub frame pps : Option Nat) :
    let u := ((t.oweSub sub).oweFrame frame).owePps pps
    (u.owedSub, u.resyncSub) = ((t.oweSub sub).owedSub, (t.oweSub sub).resyncSub) ∧
      (u.owedPps, u.resyncPps) = ((t.owePps pps).owedPps, (t.owePps pps).resyncPps) ∧
      (u.owedFrame, u.resyncFrame, u.passOver) =
        ((t.oweFrame frame).owedFrame, (t.oweFrame frame).resyncFrame, (t.oweFrame frame).passOver) := by
  refine ⟨?_, ?_, ?_⟩
  · rw [TimeBase.owePps_eq, TimeBase.oweFrame_eq]
  · have same (u : TimeBase) (h : (u.owedPps, u.resyncPps) = (t.owedPps, t.resyncPps)) :
        ((u.owePps pps).owedPps, (u.owePps pps).resyncPps) = ((t.owePps pps).owedPps, (t.owePps pps).resyncPps) := by
      cases pps <;> simp_all [TimeBase.owePps]
    exact same _ (by rw [TimeBase.oweFrame_eq, TimeBase.oweSub_eq])
  · rw [TimeBase.owePps_eq]
    exact TimeBase.oweFrame_congr _ (by rw [TimeBase.oweSub_eq])

/-- R124: the counts that are owed. -/
theorem TimeBase.owesCount_iff (t : TimeBase) (count : Nat) :
    t.owesCount count = true ↔ ∀ last, t.passOver = some last → count = (last + 1) % 429496729600 := by
  unfold TimeBase.owesCount
  split
  next last h =>
    rw [decide_eq_true_eq]
    exact ⟨fun hc l hl => by cases h.symm.trans hl; exact hc, fun hc => hc last h⟩
  next h => simp [h]

/-- R123: the count of an instant is that of its place in the range of T. -/
theorem frameCount_mod (b : Nat) {offset : Nat} (h : offset < Config.timeRange) :
    frameCount (b % Config.timeRange) offset = (b + Config.timeRange - offset) % Config.timeRange / 10000000 := by
  have same : (b % Config.timeRange + Config.timeRange - offset) % Config.timeRange =
      (b + Config.timeRange - offset) % Config.timeRange := by
    unfold Config.timeRange at *
    omega
  unfold frameCount
  rw [same]
  rfl

/-- R121, R122: a strobe owed for an instant passed. -/
theorem owesFor_append (b : Nat) (owed : List Owed) (mark : Bool) {count : Nat → Prop} {n : Nat} (h : count n) :
    OwesFor b owed (owed ++ [⟨Stamp.ofTotal (b % Config.timeRange), n, mark⟩]) mark false count :=
  have ⟨total, ns⟩ := Stamp.ofTotal_total b
  ⟨_, rfl, total, ns, h, rfl, rfl⟩

/-- R121: a local period advances the time and adds what is owed. -/
theorem TimeBase.period_total (t : TimeBase) : t.period.total = t.advance.total := by
  obtain ⟨sec, ns, -⟩ := TimeBase.clock_eq_iff.1 t.period_clock
  unfold TimeBase.total
  rw [sec, ns]

end Sys2Proof.Machine

namespace Sys2Proof.Slice0

/-- Settles O11. -/
theorem localPeriodAdvancesTime : Obligations.LocalPeriodAdvancesTime := by
  intro s level hold h1 h2
  obtain ⟨low, -⟩ := increment_bounds h1 h2
  have inc : increment s.time.a = 42949672960 + (s.time.a * 42949672960).tdiv 1000000000 := rfl
  rw [← inc]
  obtain ⟨sec, ns, frac, -, -, rate⟩ := TimeBase.clock_eq_iff.1 s.time.period_clock
  obtain ⟨hsec, hns, hfrac⟩ := s.time.advance_inRange
  have fractions : inFractions s.time.period = inFractions s.time.advance := by
    unfold inFractions
    rw [sec, ns, frac]
  have lane := Lane.endPeriod_frame (s.lane.period s.localTime level)
  have counts : ((Station.localPeriod level s.toStation).lane.windowPeriods,
      (Station.localPeriod level s.toStation).lane.busyBt, (Station.localPeriod level s.toStation).lane.domRun) =
      ((s.lane.period s.localTime level).windowPeriods, (s.lane.period s.localTime level).busyBt,
        (s.lane.period s.localTime level).domRun) := by
    show ((Lane.sendPeriod _ _).windowPeriods, (Lane.sendPeriod _ _).busyBt, (Lane.sendPeriod _ _).domRun) = _
    have sent (l : Lane) (gate : Bool) : ((l.sendPeriod gate).windowPeriods, (l.sendPeriod gate).busyBt,
        (l.sendPeriod gate).domRun) = (l.windowPeriods, l.busyBt, l.domRun) := by
      unfold Lane.sendPeriod
      split
      · split
        · split <;> rfl
        · rfl
      · rfl
    rw [sent, lane]
  simp only [Prod.mk.injEq] at counts
  obtain ⟨window, busy, run⟩ := counts
  refine ⟨by omega, _, State.run_event_due _ hold rfl, ?_, frac.trans_lt hfrac, ns.trans_lt hns,
    sec.trans_lt hsec, rate, rfl, window, busy.trans ?_, run, ?_, ?_⟩
  · show inFractions s.time.period = _
    rw [fractions, TimeBase.advance_inFractions, Int.toNat_of_nonneg (by omega)]
  · show s.lane.busyBt + _ = _
    congr 1
    cases hl : s.lane.line <;> simp [occupied, busyLine]
  · show (s.seat.listenPeriod _).listenCount = _
    unfold Seat.listenPeriod
    by_cases h : s.seat.state = .listen ∧ s.lane.line ≠ .stuck ∧ s.seat.listenCount < 30000000
    · obtain ⟨listening, free, early⟩ := h
      have early' : s.seat.listenCount < Config.listen := early
      rw [if_pos (by simp [listening, free, early']), if_pos ⟨listening, free, early⟩]
    · rw [if_neg h]
      refine (congrArg Seat.listenCount (if_neg fun hb => h ?_)).trans rfl
      simp only [Bool.and_eq_true, decide_eq_true_eq, Bool.not_eq_true', decide_eq_false_iff_not, and_assoc] at hb
      exact hb
  · show ({ Station.localPeriod level s.toStation with outs := _ } : Station) = _
    have seat : s.seat.listenPeriod (s.lane.line = .stuck) =
        { s.seat with listenCount := (s.seat.listenPeriod (s.lane.line = .stuck)).listenCount } := by
      unfold Seat.listenPeriod
      split <;> rfl
    exact congrArg (fun c => ({ (Station.localPeriod level s.toStation).drive with seat := c } : Station)) seat

/-- Settles O12. -/
theorem crossedBoundariesOweStrobes : Obligations.CrossedBoundariesOweStrobes := by
  rintro s level hold ⟨hsec, hns, hfrac, hoff, -⟩ h1 h2
  obtain ⟨low, high⟩ := increment_bounds h1 h2
  have range := TimeBase.total_lt hsec hns
  have hoff' : s.time.offset < 10000000 := hoff
  have hfrac' : s.time.frac < 4294967296 := hfrac
  have offset : s.time.offset < Config.timeRange := by unfold Config.timeRange; omega
  obtain ⟨n, hn⟩ : ∃ n, n = (s.time.frac + (increment s.time.a).toNat) / 4294967296 := ⟨_, rfl⟩
  have advanced : s.time.advance.total = (s.time.total + n) % Config.timeRange := by
    rw [TimeBase.advance_total, hn]
  have wide : 1 ≤ n ∧ n < 12 := by omega
  obtain ⟨sub, pps, frame⟩ := TimeBase.owe_each s.time.advance
    (crossed s.time.total s.time.advance.total s.time.offset Config.subframeNs)
    (crossed s.time.total s.time.advance.total s.time.offset Config.frameNs)
    (crossed s.time.total s.time.advance.total 0 Config.nsPerSec)
  rw [advanced] at sub pps frame
  simp only [Prod.mk.injEq] at sub pps frame
  obtain ⟨sub1, sub2⟩ := sub
  obtain ⟨pps1, pps2⟩ := pps
  obtain ⟨frame1, frame2, frame3⟩ := frame
  have period : s.time.period = ((s.time.advance.oweSub
      (crossed s.time.total ((s.time.total + n) % Config.timeRange) s.time.offset Config.subframeNs)).oweFrame
      (crossed s.time.total ((s.time.total + n) % Config.timeRange) s.time.offset Config.frameNs)).owePps
      (crossed s.time.total ((s.time.total + n) % Config.timeRange) 0 Config.nsPerSec) := by
    rw [← advanced]
    rfl
  rw [← period] at sub1 sub2 pps1 pps2 frame1 frame2 frame3
  have subs := crossed_cases (spacing := Config.subframeNs) range wide.2 offset (by decide) (by decide)
  have ppss := crossed_cases (spacing := Config.nsPerSec) (offset := 0) range wide.2 (by decide) (by decide) (by decide)
  have frames := crossed_cases (spacing := Config.frameNs) range wide.2 offset (by decide) (by decide)
  have subGoal : (∀ b, CrossedAt s.time.total n s.time.offset Config.subframeNs b →
        OwesFor b s.time.owedSub s.time.period.owedSub s.time.resyncSub s.time.period.resyncSub fun _ => True) ∧
      ((∀ b, ¬ CrossedAt s.time.total n s.time.offset Config.subframeNs b) →
        s.time.period.owedSub = s.time.owedSub ∧ s.time.period.resyncSub = s.time.resyncSub) := by
    rw [sub1, sub2]
    rcases subs with ⟨b, hb, only⟩ | ⟨hb, no⟩ <;> rw [hb]
    · exact ⟨fun c hc => (only c).1 hc ▸ owesFor_append _ _ _ trivial, fun h => absurd ((only b).2 rfl) (h b)⟩
    · exact ⟨fun c hc => absurd hc (no c), fun _ => ⟨rfl, rfl⟩⟩
  have ppsGoal : (∀ b, CrossedAt s.time.total n 0 Config.nsPerSec b →
        OwesFor b s.time.owedPps s.time.period.owedPps s.time.resyncPps s.time.period.resyncPps fun _ => True) ∧
      ((∀ b, ¬ CrossedAt s.time.total n 0 Config.nsPerSec b) →
        s.time.period.owedPps = s.time.owedPps ∧ s.time.period.resyncPps = s.time.resyncPps) := by
    rw [pps1, pps2]
    rcases ppss with ⟨b, hb, only⟩ | ⟨hb, no⟩ <;> rw [hb]
    · exact ⟨fun c hc => (only c).1 hc ▸ owesFor_append _ _ _ trivial, fun h => absurd ((only b).2 rfl) (h b)⟩
    · exact ⟨fun c hc => absurd hc (no c), fun _ => ⟨rfl, rfl⟩⟩
  refine ⟨_, n, State.run_event_due _ hold rfl, (TimeBase.period_total _).trans advanced, wide.1, wide.2,
    subGoal.1, subGoal.2, ppsGoal.1, ppsGoal.2, fun c hc => ?_, fun h => ?_⟩
  · rcases frames with ⟨b, hb, only⟩ | ⟨-, no⟩
    · obtain rfl := (only c).1 hc
      have count : frameCount (c % Config.timeRange) s.time.advance.offset =
          (c + Config.timeRange - s.time.offset) % Config.timeRange / 10000000 := frameCount_mod c offset
      rw [hb, TimeBase.oweFrame_some, count] at frame1 frame2 frame3
      have owes := s.time.advance.owesCount_iff ((c + Config.timeRange - s.time.offset) % Config.timeRange / 10000000)
      refine ⟨fun hp => ?_, fun last hl hp => ?_⟩
      · rw [if_pos (owes.2 hp)] at frame1 frame2 frame3
        exact ⟨⟨_, frame1, (Stamp.ofTotal_total c).1, (Stamp.ofTotal_total c).2, rfl, rfl, frame2⟩, frame3⟩
      · rw [if_neg fun h => hp (owes.1 h last hl)] at frame1 frame2 frame3
        exact ⟨frame1, frame2, frame3⟩
    · exact absurd hc (no c)
  · rcases frames with ⟨b, -, only⟩ | ⟨hb, -⟩
    · exact absurd ((only b).2 rfl) (h b)
    · rw [hb] at frame1 frame2 frame3
      exact ⟨frame1, frame2, frame3⟩

end Sys2Proof.Slice0
end

section
/-! SUPPORT. The strobes and their pulses, the window start and the periodic releases (R84 to R95, R121 to R123). -/

-- One theorem after another: the check's data limit has no room for a thread for each.
set_option Elab.async false

open Sys2Proof Sys2Proof.Machine Sys2Proof.Safety Sys2Proof.Slice0

namespace Sys2Proof.Machine

/-! ### What an operation of the scheduler alone leaves -/

/-- Where the queues, the records, the offer and the MISSED cause alone may have moved, the rest stands. -/
theorem QueueFrame.eq {s t : Station} (h : QueueFrame s t) :
    t = { s with sched := t.sched, port := { s.port with missedCause := t.port.missedCause } } := by
  obtain ⟨h1, h2, h3, h4, h5, h6, h7, h8, h9, h10, h11, h12, h13, h14, h15, -⟩ := h
  cases t
  cases s
  simp only at *
  subst h1 h2 h3 h4 h5 h6 h7 h8 h9 h10 h11 h12 h13 h14
  rw [← h15]

/-- What follows an event moves the queues, the records, the offer, the MISSED cause and the pins alone. -/
theorem Station.closing_eq (u : Station) :
    closing u =
      { u with
        sched := (closing u).sched, outs := (closing u).outs
        port := { u.port with missedCause := (closing u).port.missedCause } } :=
  congrArg (fun t => { t with outs := (closing u).outs }) u.renewOffer_spec.1.eq

/-- R97: a frame shed is a BULK frame; where none of those is a periodic copy, renewing the offer moves no periodic
entry. -/
theorem Station.renewOffer_periodic (s : Station) (h : ∀ e ∈ s.sched.bulk, e.periodic = none) (i : Fin 4) :
    s.renewOffer.sched.periodic.get i = s.sched.periodic.get i ∧
      s.renewOffer.port.missedCause = s.port.missedCause := by
  have shed : s.bulkSelection.sched.periodic.get i = s.sched.periodic.get i ∧
      s.bulkSelection.port.missedCause = s.port.missedCause := by
    unfold Station.bulkSelection
    split
    · have m := foldl_retire_missed (s.sched.bulk.takeWhile s.sheds) .shed
        (s.setQueue .bulk (s.sched.bulk.dropWhile s.sheds))
      have none (j : Fin 4) : ¬ ∃ e ∈ s.sched.bulk.takeWhile s.sheds, e.missesCopy .shed j := by
        rintro ⟨e, he, -, hp, -⟩
        rw [h e ((List.takeWhile_sublist _).mem he)] at hp
        cases hp
      refine ⟨m.kept i fun x => none i x.1, Bool.eq_iff_iff.2 (m.cause.trans ?_)⟩
      refine ⟨fun x => x.resolve_right ?_, .inl⟩
      rintro ⟨j, h1, h2⟩
      rw [m.kept j fun x => none j x.1] at h2
      rw [h1] at h2
      cases h2
    · exact ⟨rfl, rfl⟩
  unfold Station.renewOffer
  split
  · exact ⟨rfl, rfl⟩
  · split
    · exact ⟨rfl, rfl⟩
    · split
      · exact ⟨rfl, rfl⟩
      · split
        · exact ⟨rfl, rfl⟩
        · exact shed

/-! ### Pulses (R122) -/

theorem startPulse_eq (old : Option Pulse) (now : Nat) : startPulse old now = pulseAt old now := by
  cases old <;> rfl

/-- R122: a pin goes up with its pulse at once where it was down, and one period later where it was up. -/
theorem pulseOn_pulseAt (old : Option Pulse) (now : Nat) :
    pulseOn (some (pulseAt old now)) now = decide (old = none) := by
  cases old <;> simp [pulseOn, pulseAt]

theorem resyncPulse_spec (old : Option Pulse) (p : Pulse) (now : Nat) (mark : Bool) :
    ResyncWith old (resyncPulse old p now mark) p now mark := by
  unfold resyncPulse
  refine ⟨fun h => by simp [h], fun h ho => by simp [h, ho], fun h r hr => ⟨fun hl => ?_, fun hl => ?_⟩⟩
  · simp [h, hr, show ¬ now ≤ r.first by omega, startPulse, Config.pulse]
  · simp [h, hr, hl]

/-- R122: a pulse on one pin, at its end and before. -/
theorem endPulse_some {old : Option Pulse} {p : Pulse} (h : old = some p) (now : Nat) :
    (p.last ≤ now → endPulse old now = none) ∧ (now < p.last → endPulse old now = old) := by
  subst h
  exact ⟨fun hl => if_pos hl, fun hl => if_neg (by omega)⟩

/-- R122: the pins of a station outside a reset hold, judged afresh. -/
theorem Station.drive_outs_running (s : Station) (h : s.hold = false) : s.drive.outs = s.outputs := if_neg (by simp [h])

/-! ### The window (R91 to R94) -/

/-- R91: the levels. -/
theorem levelOf_spec (b : Nat) :
    (b ≤ 153 → levelOf b = 0) ∧ (154 ≤ b → b ≤ 191 → levelOf b = 1) ∧ (192 ≤ b → b ≤ 229 → levelOf b = 2) ∧
      (230 ≤ b → levelOf b = 3) := by
  unfold levelOf
  refine ⟨fun _ => ?_, fun _ _ => ?_, fun _ _ => ?_, fun _ => ?_⟩ <;> grind

/-- R91, R92: what a window start measures, as the window was long enough or not. -/
theorem Share.windowStart_measured (h : Share) (busy window : Nat) :
    (12500 ≤ window → (h.windowStart busy window).lastBusy = some (busy * 256 / window) ∧
        (h.windowStart busy window).level = levelOf (busy * 256 / window)) ∧
      (window < 12500 → (h.windowStart busy window).lastBusy = h.lastBusy ∧
        (h.windowStart busy window).level = h.level) := by
  unfold Share.windowStart Share.measure
  refine ⟨fun hw => ?_, fun hw => ?_⟩
  · rw [if_pos (show Config.shortWindow ≤ window from hw)]
    exact ⟨rfl, rfl⟩
  · rw [if_neg (show ¬ Config.shortWindow ≤ window from Nat.not_le.2 hw)]
    exact ⟨rfl, rfl⟩

theorem Share.windowStart_eq (h : Share) (busy window : Nat) :
    h.windowStart busy window =
      { h with
        level := (h.windowStart busy window).level, lastBusy := (h.windowStart busy window).lastBusy
        tierLimit := (h.windowStart busy window).tierLimit, budget := (h.windowStart busy window).budget
        spentBulk := 0, spentExpress := 0 } := by
  unfold Share.windowStart Share.measure
  split <;> rfl

/-! ### Periodic releases (R84, R85) -/

theorem Station.destGone_eq (s : Station) (d : Dest) : s.destGone d = goneDest s d := by
  cases d with
  | all => rfl
  | slot p =>
    show (s.peer p).isGone = _
    unfold Peer.isGone goneDest
    cases h : (s.peer p).state <;> simp [h]

/-- R84, R85: of the entries `l`, in index order, those that release a copy at this count. -/
def releasedOf (s : Station) (count : Nat) (l : List (Fin 4)) : List (Fin 4) :=
  if s.seat.state = .active then
    ((l.filter fun i => (s.sched.periodic.get i).due count).filter fun i =>
      !goneDest s (s.sched.periodic.get i).dest).take (16 - s.sched.express.length)
  else []

/-- R84, R85: what the releases of the entries `l` leave: the copies at the tail of EXPRESS, the missed flags, and
the other queues. -/
structure ReleasedBy (s t : Station) (count : Nat) (l : List (Fin 4)) : Prop where
  frame : QueueFrame s t
  express : t.sched.express = s.sched.express ++ (releasedOf s count l).map (copyOf s)
  missed : ∀ i ∈ l, (s.sched.periodic.get i).due count = true → i ∉ releasedOf s count l →
    t.sched.periodic.get i = { s.sched.periodic.get i with missed := true } ∧
      ((s.sched.periodic.get i).missed = false → t.port.missedCause = true)
  kept : ∀ i, i ∉ l ∨ (s.sched.periodic.get i).due count = false ∨ i ∈ releasedOf s count l →
    t.sched.periodic.get i = s.sched.periodic.get i
  cause : s.port.missedCause = true → t.port.missedCause = true
  others : t.sched.timing = s.sched.timing ∧ t.sched.control = s.sched.control ∧ t.sched.bulk = s.sched.bulk

/-- R84, R85: a release turns on the seat state, the roster, the entries named and the room in EXPRESS. -/
theorem releasedOf_congr {s u : Station} {count : Nat} {l : List (Fin 4)} (hs : u.seat = s.seat)
    (hr : u.roster = s.roster) (hp : ∀ j ∈ l, u.sched.periodic.get j = s.sched.periodic.get j) :
    releasedOf u count l =
      if s.seat.state = .active then
        ((l.filter fun i => (s.sched.periodic.get i).due count).filter fun i =>
          !goneDest s (s.sched.periodic.get i).dest).take (16 - u.sched.express.length)
      else [] := by
  have gone (d : Dest) : goneDest u d = goneDest s d := by
    cases d with
    | all => rfl
    | slot p => simp only [goneDest, u.peer_of_roster s hr.symm p]
  have due : (l.filter fun i => (u.sched.periodic.get i).due count) =
      l.filter fun i => (s.sched.periodic.get i).due count :=
    List.filter_congr fun j hj => by rw [hp j hj]
  unfold releasedOf
  rw [hs, due]
  congr 2
  exact List.filter_congr fun j hj => by rw [hp j (List.mem_filter.1 hj).1, gone]

theorem releasedOf_subset {s : Station} {count : Nat} {l : List (Fin 4)} {i : Fin 4}
    (h : i ∈ releasedOf s count l) : i ∈ l := by
  unfold releasedOf at h
  split at h
  · exact (List.mem_filter.1 (List.mem_filter.1 (List.mem_of_mem_take h)).1).1
  · cases h

theorem Station.setMissed_get (s : Station) (i : Fin 4) :
    (s.setMissed i).sched.periodic.get i = { s.sched.periodic.get i with missed := true } ∧
      (∀ j, j ≠ i → (s.setMissed i).sched.periodic.get j = s.sched.periodic.get j) ∧
      ((s.sched.periodic.get i).missed = false → (s.setMissed i).port.missedCause = true) ∧
      (s.port.missedCause = true → (s.setMissed i).port.missedCause = true) := by
  unfold Station.setMissed
  dsimp only
  split
  next h =>
    refine ⟨?_, fun _ _ => rfl, fun hf => absurd (h.symm.trans hf) (by simp), id⟩
    cases hp : s.sched.periodic.get i
    rw [hp] at h
    cases h
    rfl
  next =>
    refine ⟨Vector.getElem_set_self i.isLt, fun j hj => ?_, fun _ => rfl, fun _ => rfl⟩
    exact Vector.getElem_set_ne i.isLt j.isLt fun e => hj (Fin.ext e.symm)

/-- R84, R85: one entry: not due, skipped, or released. -/
theorem Station.releaseEntry_cases (s : Station) (count : Nat) (i : Fin 4) :
    (s.sched.periodic.get i).due count = false ∧ s.releaseEntry count i = s ∨
    (s.sched.periodic.get i).due count = true ∧ s.releaseEntry count i = s.setMissed i ∧
      (16 ≤ s.sched.express.length ∨ s.seat.state ≠ .active ∨ goneDest s (s.sched.periodic.get i).dest = true) ∨
    (s.sched.periodic.get i).due count = true ∧
      s.releaseEntry count i = s.setQueue .express (s.sched.express ++ [copyOf s i]) ∧
      s.sched.express.length < 16 ∧ s.seat.state = .active ∧ goneDest s (s.sched.periodic.get i).dest = false := by
  unfold Station.releaseEntry
  dsimp only
  by_cases hd : (s.sched.periodic.get i).due count = true
  · rw [if_pos hd]
    by_cases hk : s.skipsRelease (s.sched.periodic.get i) = true
    · refine .inr (.inl ⟨hd, if_pos hk, ?_⟩)
      simp only [Station.skipsRelease, Bool.or_eq_true, Bool.not_eq_true', Sched.hasRoom, decide_eq_false_iff_not,
        Nat.not_lt, bne_iff_ne, s.destGone_eq, or_assoc] at hk
      exact hk
    · refine .inr (.inr ⟨hd, if_neg hk, ?_⟩)
      simp only [Station.skipsRelease, Bool.or_eq_true, Bool.not_eq_true', Sched.hasRoom, decide_eq_false_iff_not,
        Nat.not_lt, bne_iff_ne, s.destGone_eq, not_or, Nat.not_le, not_not, Bool.not_eq_true, and_assoc] at hk
      exact hk
  · exact .inl ⟨Bool.not_eq_true _ ▸ hd, if_neg hd⟩

theorem foldl_releaseEntry (count : Nat) (l : List (Fin 4)) (hl : l.Nodup) (s : Station) :
    ReleasedBy s (l.foldl (Station.releaseEntry count) s) count l := by
  induction l generalizing s with
  | nil =>
    have none : releasedOf s count [] = [] := by simp [releasedOf]
    exact ⟨.refl s, by simp [none], by simp, fun _ _ => rfl, id, rfl, rfl, rfl⟩
  | cons i l ih =>
    obtain ⟨hi, hl⟩ := List.nodup_cons.1 hl
    have ne (j : Fin 4) (hj : j ∈ l) : j ≠ i := fun e => hi (e ▸ hj)
    rcases s.releaseEntry_cases count i with ⟨hd, hu⟩ | ⟨hd, hu, why⟩ | ⟨hd, hu, room, active, there⟩
    · have r := ih hl s
      have same : releasedOf s count (i :: l) = releasedOf s count l := by simp [releasedOf, hd]
      rw [List.foldl_cons, hu]
      refine ⟨r.frame, same ▸ r.express, fun j hj hdj hn => ?_, fun j hj => ?_, r.cause, r.others⟩
      · rcases List.mem_cons.1 hj with rfl | hj
        · rw [hd] at hdj; cases hdj
        · exact r.missed j hj hdj (same ▸ hn)
      · refine r.kept j ?_
        rw [same] at hj
        exact hj.imp_left fun h hm => h (List.mem_cons_of_mem _ hm)
    · have r := ih hl (s.setMissed i)
      obtain ⟨marked, others, sets, keeps⟩ := s.setMissed_get i
      have frame := s.setMissed_queueFrame i
      have queue (q : FrameClass) : (s.setMissed i).sched.queue q = s.sched.queue q := s.setMissed_queue i q
      have same : releasedOf (s.setMissed i) count l = releasedOf s count (i :: l) := by
        rw [releasedOf_congr frame.seat frame.roster fun j hj => others j (ne j hj),
          show (s.setMissed i).sched.express = s.sched.express from queue .express]
        unfold releasedOf
        rcases why with full | inactive | gone
        · simp [show 16 - s.sched.express.length = 0 by omega]
        · simp [inactive]
        · simp [hd, gone]
      have out : i ∉ releasedOf (s.setMissed i) count l := fun h => hi (releasedOf_subset h)
      have copies : (releasedOf (s.setMissed i) count l).map (copyOf (s.setMissed i)) =
          (releasedOf s count (i :: l)).map (copyOf s) := by
        rw [← same]
        refine List.map_congr_left fun j hj => ?_
        simp only [copyOf, others j (ne j (releasedOf_subset hj))]
      rw [List.foldl_cons, hu]
      refine ⟨frame.trans r.frame, ?_, fun j hj hdj hn => ?_, fun j hj => ?_, fun h => r.cause (keeps h), ?_⟩
      · rw [r.express, copies, show (s.setMissed i).sched.express = s.sched.express from queue .express]
      · rcases List.mem_cons.1 hj with rfl | hj
        · exact ⟨(r.kept j (.inl hi)).trans marked, fun h => r.cause (sets h)⟩
        · have m := r.missed j hj (by rw [others j (ne j hj)]; exact hdj) (same ▸ hn)
          rwa [others j (ne j hj)] at m
      · have hji : j ≠ i := by
          rintro rfl
          rcases hj with h | h | h
          · exact h (List.mem_cons_self)
          · rw [hd] at h; cases h
          · exact out (same ▸ h)
        rw [← others j hji]
        refine r.kept j ?_
        rw [others j hji, same]
        exact hj.imp_left fun h hm => h (List.mem_cons_of_mem _ hm)
      · obtain ⟨h1, h2, h3⟩ := r.others
        exact ⟨h1.trans (queue .timing), h2.trans (queue .control), h3.trans (queue .bulk)⟩
    · have r := ih hl (s.setQueue .express (s.sched.express ++ [copyOf s i]))
      have same : releasedOf s count (i :: l) =
          i :: releasedOf (s.setQueue .express (s.sched.express ++ [copyOf s i])) count l := by
        have later := releasedOf_congr (s := s) (u := s.setQueue .express (s.sched.express ++ [copyOf s i]))
          (count := count) (l := l) rfl rfl fun _ _ => rfl
        rw [later]
        unfold releasedOf
        have size : (s.setQueue .express (s.sched.express ++ [copyOf s i])).sched.express.length =
            s.sched.express.length + 1 := List.length_append
        rw [if_pos active, if_pos active, size, List.filter_cons_of_pos (p := fun j => (s.sched.periodic.get j).due count) hd,
          List.filter_cons_of_pos (by simp [there]),
          show 16 - s.sched.express.length = (16 - (s.sched.express.length + 1)) + 1 by omega, List.take_succ_cons]
      rw [List.foldl_cons, hu]
      refine ⟨(s.setQueue_queueFrame _ _).trans r.frame, ?_, fun j hj hdj hn => ?_, fun j hj => ?_, r.cause, r.others⟩
      · rw [r.express, same]
        show (s.sched.express ++ [copyOf s i]) ++ _ = _
        rw [List.append_assoc]
        rfl
      · rw [same, List.mem_cons, not_or] at hn
        exact r.missed j ((List.mem_cons.1 hj).resolve_left hn.1) hdj hn.2
      · by_cases hji : j = i
        · exact r.kept j (.inl (hji ▸ hi))
        · rw [same, List.mem_cons, List.mem_cons] at hj
          exact r.kept j (hj.imp (fun h hm => h (.inr hm)) (Or.imp_right (·.resolve_left hji)))

theorem dueAt_eq (s : Station) (count : Nat) :
    dueAt s count = [(0 : Fin 4), 1, 2, 3].filter fun i => (s.sched.periodic.get i).due count := rfl

end Sys2Proof.Machine

namespace Sys2Proof.Slice0

/-- Settles O13. -/
theorem subframeStrobeStartsAWindow : Obligations.SubframeStrobeStartsAWindow := by
  intro s hold hne
  obtain ⟨o, rest, hq⟩ := List.exists_cons_of_ne_nil hne
  have due : (!s.time.owedSub.isEmpty) = true := by simp [hq]
  have f := (Station.renewOffer_spec s.subframeStrobe).1
  have held : (closing s.subframeStrobe).hold = false := f.hold.trans hold
  obtain ⟨long, short⟩ := s.share.windowStart_measured s.lane.busyBt s.lane.windowBt
  have share : (closing s.subframeStrobe).share = s.share.windowStart s.lane.busyBt s.lane.windowBt := f.share
  have time : (closing s.subframeStrobe).time =
      { s.time with
        owedSub := rest, pulseSub := some (pulseAt s.time.pulseSub s.localTime)
        pulseResync :=
          resyncPulse s.time.pulseResync (pulseAt s.time.pulseSub s.localTime) s.localTime o.resync } := by
    refine f.time.trans ?_
    simp only [Station.subframeStrobe, TimeBase.emitSub, hq, startPulse_eq]
  have pin : (closing s.subframeStrobe).outs.subframeStb = decide (s.time.pulseSub = none) := by
    rw [← pulseOn_pulseAt s.time.pulseSub s.localTime]
    refine (congrArg Outputs.subframeStb (Station.drive_outs_running _ held)).trans ?_
    show pulseOn (closing s.subframeStrobe).time.pulseSub s.subframeStrobe.renewOffer.localTime = _
    rw [time, f.localTime]
    rfl
  obtain ⟨l0, l1, l2, l3⟩ := levelOf_spec (s.lane.busyBt * 256 / s.lane.windowBt)
  refine ⟨_, State.run_offerEvent_due _ hold due, fun hw => ⟨_, rfl, ?_⟩, fun hw => ?_, ?_, f.lane,
    fun o' rest' hq' => ?_, fun h => pin.trans (by simp [h]), fun h => pin.trans (by simp [h]), ?_,
    Station.renewOffer_express _, Station.renewOffer_control _, Station.renewOffer_timing _⟩
  · obtain ⟨busy, level⟩ := long hw
    rw [share, level]
    exact ⟨busy, l0, l1, l2, l3⟩
  · rw [share]
    exact short hw
  · show (closing s.subframeStrobe).share = _
    rw [share]
    exact s.share.windowStart_eq _ _
  · obtain ⟨rfl, rfl⟩ := List.cons.inj (hq.symm.trans hq')
    rw [time]
    exact ⟨rfl, resyncPulse_spec _ _ _ _⟩
  · refine (Station.closing_eq _).trans ?_
    show _ = ({ s.toStation with
      time := (closing s.subframeStrobe).time, share := (closing s.subframeStrobe).share
      lane := (closing s.subframeStrobe).lane, outs := _, sched := _, port := _ } : Station)
    rw [show (closing s.subframeStrobe).time = s.subframeStrobe.time from f.time, share,
      show (closing s.subframeStrobe).lane = s.subframeStrobe.lane from f.lane]
    rfl

/-- Settles O15. -/
theorem frameStrobeReleasesDueEntries : Obligations.FrameStrobeReleasesDueEntries := by
  intro s o rest hold hq goes released
  let u : Station := { s.toStation with time := s.time.emitFrame s.localTime }
  have strobe : s.frameStrobe = [(0 : Fin 4), 1, 2, 3].foldl (Station.releaseEntry o.count) u := by
    simp only [Station.frameStrobe, hq]
    rfl
  have r := foldl_releaseEntry o.count [(0 : Fin 4), 1, 2, 3] (by decide) u
  rw [← strobe] at r
  have out : released = releasedOf u o.count [(0 : Fin 4), 1, 2, 3] := rfl
  have f := r.frame.trans (Station.renewOffer_spec s.frameStrobe).1
  have held : (closing s.frameStrobe).hold = false := f.hold.trans hold
  have emitted : u.time =
      { s.time with
        lastFrame := some o.boundary, lastCount := some o.count, owedFrame := rest
        pulseFrame := some (pulseAt s.time.pulseFrame s.localTime)
        pulseResync :=
          resyncPulse s.time.pulseResync (pulseAt s.time.pulseFrame s.localTime) s.localTime o.resync } := by
    simp only [u, TimeBase.emitFrame, hq, startPulse_eq]
  have time : (closing s.frameStrobe).time = u.time := f.time
  have pin : (closing s.frameStrobe).outs.frameStb = decide (s.time.pulseFrame = none) := by
    rw [← pulseOn_pulseAt s.time.pulseFrame s.localTime]
    refine (congrArg Outputs.frameStb (Station.drive_outs_running _ held)).trans ?_
    show pulseOn (closing s.frameStrobe).time.pulseFrame s.frameStrobe.renewOffer.localTime = _
    rw [time, emitted, f.localTime]
  have express := (Station.renewOffer_express s.frameStrobe).trans r.express
  refine ⟨_, State.run_offerEvent_due _ hold (by simp [hq]), ?_, ?_, fun h => pin.trans (by simp [h]),
    fun h => pin.trans (by simp [h]), fun _ => express, fun h => ?_, fun hb => ⟨fun i hi hn => ?_, fun i hi => ?_⟩,
    (Station.renewOffer_timing _).trans r.others.1, (Station.renewOffer_control _).trans r.others.2.1, ?_⟩
  · show (closing s.frameStrobe).time = _
    rw [time, emitted]
  · show ResyncWith _ (closing s.frameStrobe).time.pulseResync _ _ _
    rw [time, emitted]
    exact resyncPulse_spec _ _ _ _
  · have none : releasedOf u o.count [(0 : Fin 4), 1, 2, 3] = [] := if_neg h
    rw [none] at express
    exact express.trans (List.append_nil _)
  · obtain ⟨hl, hd⟩ := List.mem_filter.1 hi
    obtain ⟨marked, caused⟩ := r.missed i hl hd (out ▸ hn)
    obtain ⟨periodic, cause⟩ := Station.renewOffer_periodic s.frameStrobe (r.others.2.2 ▸ hb) i
    exact ⟨periodic.trans marked, fun h => cause.trans (caused h)⟩
  · obtain ⟨periodic, -⟩ := Station.renewOffer_periodic s.frameStrobe (r.others.2.2 ▸ hb) i
    refine periodic.trans (r.kept i ?_)
    rcases hi with hi | hi
    · have all : i ∈ [(0 : Fin 4), 1, 2, 3] := by
        fin_cases i <;> decide
      exact .inr (.inl (Bool.eq_false_iff.2 fun hd => hi (List.mem_filter.2 ⟨all, hd⟩)))
    · exact .inr (.inr (out ▸ hi))
  · show closing s.frameStrobe = ({ s.toStation with
      time := (closing s.frameStrobe).time, sched := _, outs := _, port := _ } : Station)
    rw [time]
    exact congrArg (fun t => { t with outs := (closing s.frameStrobe).outs }) f.eq

/-- R122: the end of a pulse, on a pin whose field of the time base is `old`: the pulse gone, or everything as it
stood. -/
theorem pulseEnd_answers {s : State} (hold : s.hold = false) {p : Pulse} (pin : StrobePin)
    (set : Option Pulse → TimeBase) {old : Option Pulse} (h : old = some p) (stands : set old = s.time)
    (ends : s.time.endPulseOn pin s.localTime = set (endPulse old s.localTime)) (level : Outputs → Bool)
    (low : level ({ s.toStation with time := set none } : Station).outputs = false) :
    (p.last ≤ s.localTime →
        ∃ t, exec (.strobePulseEnd pin) s = .next t ∧ level t.outs = false ∧ t.time = set none) ∧
      (s.localTime < p.last → exec (.strobePulseEnd pin) s = .next { s with toStation := s.toStation.drive }) := by
  have run : exec (.strobePulseEnd pin) s =
      .next { s with
        toStation := ({ s.toStation with time := set (endPulse old s.localTime) } : Station).drive } := by
    rw [← ends]
    exact State.run_event_due _ hold rfl
  obtain ⟨gone, stays⟩ := endPulse_some h s.localTime
  refine ⟨fun hl => ?_, fun hl => ?_⟩
  · rw [gone hl] at run
    exact ⟨_, run, (congrArg level (Station.drive_outs_running { s.toStation with time := set none } hold)).trans low, rfl⟩
  · rw [run, stays hl, stands]

/-- Settles O16. -/
theorem ppsStrobePulsesItsPin : Obligations.PpsStrobePulsesItsPin := by
  intro s hold
  refine ⟨fun o rest hq => ?_, fun p => ⟨fun h => ?_, fun h => ?_, fun h => ?_, fun h => ?_⟩, fun pin => ?_⟩
  · let u : Station := { s.toStation with
      time :=
        { s.time with
          owedPps := rest, lastPps := some o.boundary, pulsePps := some (pulseAt s.time.pulsePps s.localTime)
          pulseResync :=
            resyncPulse s.time.pulseResync (pulseAt s.time.pulsePps s.localTime) s.localTime o.resync } }
    have strobe : s.toStation.ppsStrobe = u := by
      simp only [u, Station.ppsStrobe, TimeBase.emitPps, hq, startPulse_eq]
    have run : exec .ppsStrobe s = .next { s with toStation := (s.toStation.ppsStrobe).drive } :=
      State.run_event_due _ hold (by simp [hq])
    rw [strobe] at run
    have outs : u.drive.outs = u.outputs := u.drive_outs_running hold
    have pin : u.drive.outs.ppsOut = decide (s.time.pulsePps = none) :=
      (congrArg Outputs.ppsOut outs).trans
        (pulseOn_pulseAt s.time.pulsePps s.localTime)
    refine ⟨_, run, rfl, rfl, rfl, fun h => pin.trans (by simp [h]), fun h => pin.trans (by simp [h]),
      resyncPulse_spec _ _ _ _, fun hr h1 h2 => ?_, rfl⟩
    refine (congrArg Outputs.resync outs).trans ?_
    show pulseOn (resyncPulse _ _ _ _) _ = true
    rw [hr, h1]
    exact (pulseOn_pulseAt s.time.pulsePps s.localTime).trans (by simp [h2])
  · exact pulseEnd_answers hold .pps (fun x => { s.time with pulsePps := x }) h rfl rfl Outputs.ppsOut rfl
  · exact pulseEnd_answers hold .frame (fun x => { s.time with pulseFrame := x }) h rfl rfl Outputs.frameStb rfl
  · exact pulseEnd_answers hold .subframe (fun x => { s.time with pulseSub := x }) h rfl rfl Outputs.subframeStb rfl
  · exact pulseEnd_answers hold .resync (fun x => { s.time with pulseResync := x }) h rfl rfl Outputs.resync rfl
  · refine ⟨_, State.run_event_due _ hold rfl, ?_⟩
    cases pin <;> rfl

end Sys2Proof.Slice0
end

section
/-! SUPPORT. The offer, openings, lost places and start marks (R2, R3, R5, R13, R69, R70, R97). -/

-- One theorem after another: the check's data limit has no room for a thread for each.
set_option Elab.async false

open Sys2Proof Sys2Proof.Machine Sys2Proof.Safety Sys2Proof.Slice0

namespace Sys2Proof.Machine

/-! ### The offer (R69, R70, R97) -/

/-- R69: the head that may go, as the statements have it. -/
theorem Station.headEligible_iff (s : Station) (q : FrameClass) : s.headEligible q = true ↔ HeadMayGo s q := by
  cases hq : s.sched.queue q with
  | nil => simp [Station.headEligible, HeadMayGo, hq]
  | cons e l =>
    rw [Station.headEligible_iff_mayGo hq]
    simp [HeadMayGo, hq]

theorem Station.sheds_eq (s : Station) : s.sheds = overTier s := rfl

theorem Seat.maySendAlarms_iff (c : Seat) :
    c.maySendAlarms = true ↔ c.state = .active ∨ c.state = .leaving ∧ c.leavePlaced = false := by
  simp [Seat.maySendAlarms]

/-- R70: everything a renewed offer can be. -/
theorem Station.renewOffer_cases (s : Station) :
    (s.hold = true ∨ s.lane.line ≠ .opened ∨ s.lane.attempt ≠ none → s.renewOffer = s.setOffer none) ∧
    (s.hold = false → s.lane.line = .opened → s.lane.attempt = none →
      (HeadMayGo s .timing → s.renewOffer = s.setOffer (some .timing)) ∧
      (¬ HeadMayGo s .timing → HeadMayGo s .control → s.renewOffer = s.setOffer (some .control)) ∧
      (¬ HeadMayGo s .timing → ¬ HeadMayGo s .control → HeadMayGo s .express →
        s.renewOffer = s.setOffer (some .express)) ∧
      (¬ HeadMayGo s .timing → ¬ HeadMayGo s .control → ¬ HeadMayGo s .express →
        s.renewOffer =
          s.bulkSelection.setOffer (if s.bulkSelection.headEligible .bulk then some .bulk else none))) := by
  simp only [← Station.headEligible_iff]
  unfold Station.renewOffer
  refine ⟨fun h => if_pos ?_, fun h1 h2 h3 => ?_⟩
  · rcases h with h | h | h
    · simp [h]
    · simp [h]
    · simp [Option.isSome_iff_ne_none.2 h]
  · rw [if_neg (by simp [h1, h2, h3])]
    refine ⟨fun h => if_pos h, fun ht hc => ?_, fun ht hc he => ?_, fun ht hc he => ?_⟩
    · rw [if_neg ht, if_pos hc]
    · rw [if_neg ht, if_neg hc, if_pos he]
    · rw [if_neg ht, if_neg hc, if_neg he]

theorem losesPlace_iff (line : LineState) (cause : LossCause) : losesPlace line cause = true ↔ LosesPlace line cause := by
  unfold LosesPlace
  cases line <;> cases cause <;> simp [losesPlace]

end Sys2Proof.Machine

namespace Sys2Proof.Slice0

/-- Settles O17. -/
theorem theOfferIsTheFirstHeadThatMayGo : Obligations.TheOfferIsTheFirstHeadThatMayGo := by
  intro u
  obtain ⟨closed, opened⟩ := u.renewOffer_cases
  have offered {o : Option FrameClass} (h : u.renewOffer = u.setOffer o) :
      (closing u).sched = { u.sched with offer := o } := congrArg Station.sched h
  refine ⟨fun h => ⟨offered (closed h), (congrArg Station.port (closed h) :)⟩, fun h1 h2 h3 => ?_, ?_⟩
  · obtain ⟨timing, control, express, bulk⟩ := opened h1 h2 h3
    refine ⟨fun h => offered (timing h), fun ht h => offered (control ht h),
      fun ht hc h => offered (express ht hc h), fun ht hc he => ?_⟩
    have selected := bulk ht hc he
    obtain ⟨-, -, sheds, quiet⟩ := u.bulkSelection_spec
    have offer : (closing u).sched.offer = if u.bulkSelection.headEligible .bulk then some .bulk else none :=
      congrArg (fun t => t.sched.offer) selected
    refine ⟨fun may => ?_, fun h4 h5 => ?_, ?_, ?_⟩
    · obtain ⟨queue, records⟩ := sheds (u.seat.maySendAlarms_iff.2 may)
      exact ⟨(congrArg (fun t => t.sched.bulk) selected).trans queue,
        (congrArg (fun t => t.sched.completions) selected).trans records⟩
    · have may : u.seat.maySendAlarms = false := by
        cases hp : u.seat.leavePlaced <;> simp_all [Seat.maySendAlarms]
      refine offered (selected.trans ?_)
      rw [quiet may, if_neg fun hb => ?_]
      obtain ⟨e, -, -, hs, -⟩ := (u.headEligible_iff .bulk).1 hb
      exact absurd (u.seat.maySendAlarms_iff.2 hs) (by simp [may])
    · have same : (closing u).headEligible .bulk = u.bulkSelection.headEligible .bulk :=
        congrArg (fun t => t.headEligible .bulk) selected
      rw [offer, ← Station.headEligible_iff, same]
      split <;> simp [*]
    · rw [offer]
      split
      · exact .inr rfl
      · exact .inl rfl
  · have sched : (closing u).sched =
        { u.sched with
          bulk := (closing u).sched.bulk, completions := (closing u).sched.completions
          periodic := (closing u).sched.periodic, offer := (closing u).sched.offer } := by
      dsimp only
      rw [← (show (closing u).sched.timing = _ from u.renewOffer_timing),
        ← (show (closing u).sched.control = _ from u.renewOffer_control),
        ← (show (closing u).sched.express = _ from u.renewOffer_express)]
    exact u.closing_eq.trans (congrArg (fun c => ({ u with
      sched := c, outs := (closing u).outs
      port := { u.port with missedCause := (closing u).port.missedCause } } : Station)) sched)

/-- Settles O18. -/
theorem openingsAndLostPlacesMoveTheLine : Obligations.OpeningsAndLostPlacesMoveTheLine := by
  intro s hold
  refine ⟨fun h => State.run_offerEvent_due _ hold ?_, fun h => State.run_offerEvent_not_due _ ?_,
    fun h => State.run_offerEvent_due _ hold (by simp [h]), fun cause => ⟨fun h => ?_, fun h => ?_⟩, fun level => ?_⟩
  · rcases h with h | h | h <;> simp [Lane.opens, h]
  · rcases h with h | h | h | h | h <;> simp [Lane.opens, h]
  · refine (State.run_offerEvent_due _ hold ((losesPlace_iff _ _).2 h)).trans ?_
    have lane : s.lane.abandoned =
        { s.lane with
          line := .unframed, rxKey := none
          marks := if s.lane.attempt = none then Marks.none else s.lane.marks } := by
      have marks : (if s.lane.attempt.isSome then s.lane.marks else Marks.none) =
          if s.lane.attempt = none then Marks.none else s.lane.marks := by
        cases s.lane.attempt <;> simp
      unfold Lane.abandoned
      rw [marks]
    rw [Station.abandonFrame, lane]
  · exact State.run_offerEvent_not_due _ (Bool.eq_false_iff.2 fun hl => h ((losesPlace_iff _ _).1 hl))
  · have f := Lane.endPeriod_frame (s.lane.period s.localTime level)
    refine ⟨_, State.run_event_due _ hold rfl, fun h => ?_, fun a ha hp h0 => ?_⟩
    · have idle : (Station.localPeriod level s.toStation).drive.lane = (s.lane.period s.localTime level).endPeriod :=
        Lane.sendPeriod_idle _ _ (by rw [f]; exact h)
      show (Station.localPeriod level s.toStation).drive.lane.attempt = _ ∧ _
      rw [idle]
      refine ⟨by rw [f]; rfl, fun h0 => ?_, fun h1 => ?_, fun h2 => ?_⟩
      · rw [Lane.endPeriod_idle (s.lane.period s.localTime level) h0]
        exact ⟨h0, rfl, rfl, rfl⟩
      · rw [Lane.endPeriod_last (s.lane.period s.localTime level) h1]
        exact ⟨rfl, rfl, rfl, fun hl => if_pos hl, fun hl => if_neg hl⟩
      · rw [Lane.endPeriod_more (s.lane.period s.localTime level) h2]
        exact ⟨rfl, rfl, rfl, rfl⟩
    · have sent : (Station.localPeriod level s.toStation).drive.lane =
          if a.bodyLeft ≤ 1 then (s.lane.period s.localTime level).endFieldBegins a (markGate s.seat.state)
          else { s.lane.period s.localTime level with attempt := some { a with bodyLeft := a.bodyLeft - 1 } } := by
        show Lane.sendPeriod (Lane.endPeriod _) _ = _
        rw [Lane.endPeriod_idle (s.lane.period s.localTime level) h0]
        exact Lane.sendPeriod_sending _ _ a ha hp
      show (_ → (Station.localPeriod level s.toStation).drive.lane.attempt = _ ∧ _) ∧ _
      rw [sent]
      refine ⟨fun hb => ?_, fun hb => ?_⟩
      · rw [if_neg (by omega)]
        exact ⟨rfl, h0, rfl, rfl, rfl⟩
      · rw [if_pos hb]
        refine ⟨rfl, rfl, rfl, rfl, fun hl => if_pos hl, fun hl => if_neg hl, ?_⟩
        cases s.seat.state <;> rfl

/-- Settles O19. -/
theorem startMarkBeginsTheAttempt : Obligations.StartMarkBeginsTheAttempt := by
  refine fun s hold line => ⟨fun q e rest offer queue may => ?_, fun offer => ?_⟩
  · have contends := Station.contender_of_mayGo offer queue may
    refine (State.run_offerEvent_due _ hold (by simp [line])).trans ?_
    have behind : s.sched.behindHead q = rest := by rw [Sched.behindHead, queue]; rfl
    unfold Station.startMark
    rw [contends]
    show Host.Outcome.next { s with toStation := closing { s.toStation with
      lane := _, sched := s.sched.setQueue q (_ :: s.sched.behindHead q) } } = _
    rw [behind]
    rfl
  · have none : s.contender = none := by simp [Station.contender, offer]
    refine (State.run_offerEvent_due _ hold (by simp [line])).trans ?_
    unfold Station.startMark
    rw [none]
    rfl

end Sys2Proof.Slice0
end

section
/-! SUPPORT. A key won: the bytes of the frame, and what the win moves (R6 to R10, R32, R36, R60, R71, R95, R147,
R204, R205). -/

-- One theorem after another: the check's data limit has no room for a thread for each.
set_option Elab.async false

open Sys2Proof Sys2Proof.Machine Sys2Proof.Safety Sys2Proof.Slice0

namespace Sys2Proof.Machine

/-! ### The bytes of a frame -/

theorem bytesOf_one (n : Nat) : bytesOf 1 n = [BitVec.ofNat 8 n] := by simp [bytesOf]

theorem inTwo_eq (n : Nat) : bytesOf 2 n = inTwo n := bytesOf_two n

theorem inFour_eq (n : Nat) : bytesOf 4 n = inFour n := bytesOf_four n

theorem checkWord_eq (l : List Byte) : crc l = checkWord l := crc_bits l

/-- R32, R36, R60, R147, R205: the payload of each kind. -/
theorem Station.payloadOf_eq (s : Station) (e : Entry) : s.payloadOf e = wirePayload s e := by
  unfold Station.payloadOf wirePayload
  cases e.kind with
  | beacon =>
    simp only [beaconPayload, bytesOf_one]
    cases s.sel.previous with
    | none => rfl
    | some t => simp only [inFour_eq]
  | rollcall =>
    simp only [rollcallPayload, bytesOf_one, flagByte, bitAt]
    cases s.port.cardOk <;> rfl
  | join =>
    simp only [joinPayload, bytesOf_one, bitAt]
    cases s.seat.cause <;> cases s.port.cardOk <;> rfl
  | leave | alarm | data => rfl

/-- R204: the kind byte. -/
theorem Station.kindByte_eq (s : Station) (e : Entry) : kindByte e.kind (s.flagsOf e) = wireKind s e := by
  unfold kindByte Station.flagsOf wireKind twoFlags bitAt
  cases e.kind <;> simp [FrameKind.number, Nat.add_assoc]

/-- R7, R10: the bytes from the key to the check. -/
theorem Station.sentBytes_eq (s : Station) (key : Byte) (e : Entry) (seq : Byte) :
    s.sentBytes key e seq = wireBytes s key e seq := by
  unfold Station.sentBytes frameBytes wireBytes coveredBytes
  simp only [s.payloadOf_eq, s.kindByte_eq, inTwo_eq, checkWord_eq]
  cases e.dest <;> rfl

theorem wireBytes_length (s : Station) (key : Byte) (e : Entry) (seq : Byte) :
    (wireBytes s key e seq).length = 8 + (wirePayload s e).length := by
  simp [wireBytes, inTwo]
  omega

/-! ### The win -/

/-- R9: of the counters, that of the group alone advances. -/
theorem Lane.advanceCounter_counter (l : Lane) (g h : KindGroup) :
    (l.advanceCounter g).counter h = if h = g then l.counter h + 1 else l.counter h := by
  cases g <;> cases h <;> rfl

/-- R148, R174: the owner of a frame won moves the start of a beacon and the refresh timer, and nothing else. -/
theorem Station.tellWon_eq (s : Station) (e : Entry) (start : RxStamp) :
    s.tellWon e start =
      { s with
        sel :=
          { s.sel with
            current := (s.tellWon e start).sel.current, steppedCurrent := (s.tellWon e start).sel.steppedCurrent }
        alarm := { s.alarm with refresh := (s.tellWon e start).alarm.refresh } } := by
  unfold Station.tellWon
  cases e.kind with
  | alarm => cases e.seq <;> rfl
  | beacon | rollcall | join | leave | data => rfl

/-- R8, R95: the share after a win. -/
theorem Share.charge_spec (h : Share) (q : FrameClass) (n : Nat) (done : Bool) :
    let g := if done then h else h.charge q n
    g.spentBulk = h.spentBulk + (if q = .bulk ∧ done = false then n else 0) ∧
      (q = .express → done = false → g.spentExpress = min 65790 (h.spentExpress + n)) ∧
      (q ≠ .express ∨ done = true → g.spentExpress = h.spentExpress) ∧
      g = { h with spentBulk := g.spentBulk, spentExpress := g.spentExpress } := by
  cases done <;> cases q <;> simp [Share.charge, Config.spentCap]

/-- R2: the end of a key byte, as the statements have it. -/
theorem Lane.keyRead_eq (l : Lane) (key : Byte) : l.keyRead key = keyLine l key := rfl

/-- R6: the end of a key byte for a contender. -/
theorem exec_keyComplete_contending {s : State} {a : Attempt} (key : Byte) (hold : s.hold = false)
    (attempt : s.lane.attempt = some a) (phase : a.phase = .contending) :
    exec (.keyComplete key) s =
      .next { s with
        toStation :=
          closing (Station.contenderKey { s.toStation with lane := keyLine s.lane key } a key) } := by
  have ends : s.lane.keyEnds = true := by simp [Lane.keyEnds, Lane.contends, attempt, phase]
  refine (State.run_offerEvent_due _ hold ends).trans ?_
  unfold Station.keyComplete
  rw [attempt]
  simp only [phase, if_true]
  rfl

end Sys2Proof.Machine

namespace Sys2Proof.Slice0

/-- Settles O21. -/
theorem keyWonFixesTheFrame : Obligations.KeyWonFixesTheFrame := by
  intro s a e rest hold attempt phase queue onLane
  let v : Station := { s.toStation with lane := keyLine s.lane a.key }
  let seq := e.seq.getD (s.lane.counter a.group)
  let lane := if e.seq.isNone then v.lane.advanceCounter a.group else v.lane
  let a' := a.won seq s.startStamp.stamp (wireBytes s.toStation a.key e seq) (wirePayload s.toStation e).length
  let t : Station := { v with
    lane := { lane with attempt := some a' }
    share := if a.windowEnded then s.share else s.share.charge a.queue (wirePayload s.toStation e).length
    sched := s.sched.setQueue a.queue (e.won seq :: rest)
    roster := { s.roster with silence := s.roster.silence.map fun _ => s.localTime + 10000000 } }
  have counter (g : KindGroup) : v.lane.counter g = s.lane.counter g := by
    show (keyLine s.lane a.key).counter g = _
    unfold keyLine
    split <;> cases g <;> rfl
  have start : v.startStamp = s.startStamp := by
    show (keyLine s.lane a.key).rxStamp.getD _ = _
    unfold keyLine
    split <;> rfl
  have won : v.contenderKey a a.key = t.tellWon e s.startStamp := by
    have head : v.sched.onLaneHead a.queue = some e := by
      show s.sched.onLaneHead a.queue = _
      simp [Sched.onLaneHead, queue, onLane]
    have behind : s.sched.behindHead a.queue = rest := by rw [Sched.behindHead, queue]; rfl
    unfold Station.contenderKey
    rw [contend_self, head]
    show v.winKey a e = _
    have wins : v.winKey a e =
        ((({ v with
            lane :=
              { (if e.seq.isNone then v.lane.advanceCounter a.group else v.lane) with
                attempt := some (a.won (e.seq.getD (v.lane.counter a.group)) v.startStamp.stamp
                  (v.sentBytes a.key e (e.seq.getD (v.lane.counter a.group))) (v.payloadOf e).length) }
            share := if a.windowEnded then s.share else s.share.charge a.queue (v.payloadOf e).length
            sched := s.sched.setQueue a.queue (e.won (e.seq.getD (v.lane.counter a.group)) :: s.sched.behindHead a.queue)
            roster := { s.roster with silence := s.roster.silence.map fun _ => s.localTime + 10000000 } } : Station)).tellWon
          e v.startStamp) := rfl
    rw [wins, start, counter, v.payloadOf_eq, v.sentBytes_eq, behind]
    rfl
  have told := t.tellWon_eq e s.startStamp
  have sending : (v.contenderKey a a.key).lane.attempt = some a' := by rw [won, told]
  have closed : (v.contenderKey a a.key).renewOffer = (v.contenderKey a a.key).setOffer none :=
    (Station.renewOffer_cases _).1 (.inr (.inr (by rw [sending]; simp)))
  have after : closing (v.contenderKey a a.key) = ((t.tellWon e s.startStamp).setOffer none).drive := by
    rw [← won]
    exact congrArg Station.drive closed
  obtain ⟨bulk, express, other, share⟩ :=
    s.share.charge_spec a.queue (wirePayload s.toStation e).length a.windowEnded
  refine ⟨{ s with toStation := closing (v.contenderKey a a.key) }, a',
    exec_keyComplete_contending a.key hold attempt phase, ?_⟩
  show (closing (v.contenderKey a a.key)).lane.attempt = _ ∧ _
  rw [after]
  have laneLine : lane.line = (keyLine s.lane a.key).line ∧ lane.rxKey = (keyLine s.lane a.key).rxKey := by
    show (if e.seq.isNone then v.lane.advanceCounter a.group else v.lane).line = _ ∧
      (if e.seq.isNone then v.lane.advanceCounter a.group else v.lane).rxKey = _
    split
    · cases a.group <;> exact ⟨rfl, rfl⟩
    · exact ⟨rfl, rfl⟩
  have counters (g : KindGroup) : ({ lane with attempt := some a' } : Lane).counter g =
      if g = a.group ∧ e.seq = none then s.lane.counter g + 1 else s.lane.counter g := by
    have same : ({ lane with attempt := some a' } : Lane).counter g = lane.counter g := by cases g <;> rfl
    rw [same, ← counter g]
    cases hs : e.seq with
    | none => simp [lane, hs, Lane.advanceCounter_counter]
    | some x => simp [lane, hs]
  refine ⟨by rw [told]; rfl, rfl, rfl, rfl, rfl, rfl, rfl, wireBytes_length _ _ _ _, rfl, by rw [told]; rfl,
    by rw [told]; exact laneLine.1, by rw [told]; exact laneLine.2, fun h => ?_, fun g h => ?_, by rw [told]; rfl,
    by rw [told]; exact bulk, by rw [told]; exact express, by rw [told]; exact other, fun h => ?_, fun h h1 h2 => ?_,
    ?_⟩
  · rw [told]
    exact (counters a.group).trans (if_pos ⟨rfl, h⟩)
  · rw [told]
    exact (counters g).trans (if_neg fun hg => h.elim (fun n => n hg.1) fun n => n hg.2)
  · show (t.tellWon e s.startStamp).sel.current = _
    simp [Station.tellWon, h]
  · show (t.tellWon e s.startStamp).alarm.refresh = _
    obtain ⟨d, hd⟩ := Option.ne_none_iff_exists'.1 h2
    have refresh : t.alarm.refresh = some d := hd
    simp only [Station.tellWon, h, h1, Option.isNone_none, if_true, AlarmUnit.restartRefresh, refresh, Option.map_some]
    rfl
  · obtain ⟨current, stepped, refresh, told'⟩ : ∃ current stepped refresh, t.tellWon e s.startStamp =
        { t with
          sel := { s.sel with current := current, steppedCurrent := stepped }
          alarm := { s.alarm with refresh := refresh } } := ⟨_, _, _, told⟩
    rw [told']
    exact congrArg (fun h => ((({ t with
      share := h
      sel := { s.sel with current := current, steppedCurrent := stepped }
      alarm := { s.alarm with refresh := refresh } } : Station)).setOffer none).drive) share

end Sys2Proof.Slice0
end

section
/-! SUPPORT. The result of an attempt, handed to the scheduler: what becomes of the frame, by its fate (R16, R17, R71
to R76, R80, R86). -/

-- One theorem after another: the check's data limit has no room for a thread for each.
set_option Elab.async false

open Sys2Proof Sys2Proof.Machine Sys2Proof.Safety Sys2Proof.Slice0

namespace Sys2Proof.Machine

/-! ### A result handed over -/

/-- R72, R75: what a fate makes of the station whose attempt is over, its frame at the head of the queue. -/
def Station.settleFate (v : Station) (q : FrameClass) (rest : List Entry) : Fate → Station
  | .stays e => withQueue v q (e :: rest)
  | .leaves e o => ((withQueue v q rest).retire e o).tellOwner e o

theorem Sched.onLaneHead_of_head {c : Sched} {q : FrameClass} {e : Entry} {rest : List Entry}
    (queue : c.queue q = e :: rest) (onLane : e.onLane = true) : c.onLaneHead q = some e := by
  simp [Sched.onLaneHead, queue, onLane]

/-- R72: a result, for the attempt whose frame heads its queue. -/
theorem Station.handResult_of_head {s : Station} {a : Attempt} {e : Entry} {rest : List Entry} (r : AttemptEnd)
    (queue : s.sched.queue a.queue = e :: rest) (onLane : e.onLane = true) :
    s.handResult a r =
      s.clearAttempt.settleFate a.queue rest (e.fate r (a.phase = .contending) a.start s.localTime) := by
  have behind : s.clearAttempt.sched.behindHead a.queue = rest := by
    show (s.sched.queue a.queue).tail = rest
    rw [queue]
    rfl
  unfold Station.handResult Station.resultFate
  rw [Sched.onLaneHead_of_head queue onLane]
  cases h : e.fate r (a.phase = .contending) a.start s.localTime with
  | stays e' =>
    simp only [Option.map_some, h, Station.applyFate, Station.settleFate, Station.setHead, behind]
    rfl
  | leaves e' o =>
    simp only [Option.map_some, h, Station.applyFate, Station.settleFate, behind]
    rfl

theorem resultOf_eq (fault broadcast flaw taken refused : Bool) :
    resultOf fault broadcast flaw taken refused = resultRead fault broadcast flaw taken refused := by
  cases fault <;> cases flaw <;> rfl

/-- R16: an attempt past its key comes to no LOST and no CUT. -/
theorem resultRead_settled (fault broadcast flaw taken refused : Bool) :
    let r := resultRead fault broadcast flaw taken refused
    r = .delivered ∨ (r = .flaw ∨ r = .unheard) ∨ r = .refused := by
  cases fault <;> cases flaw <;> cases broadcast <;> cases taken <;> cases refused <;> simp [resultRead]

/-- R43: the states in which readback reports are counted. -/
theorem countsReadback_iff (s : Station) : countsReadback s.seat.state = true ↔ CountsReadback s := by
  unfold CountsReadback
  cases s.seat.state <;> simp [countsReadback]

/-- R16: a broadcast comes to FLAW or to DELIVERED. -/
theorem resultRead_broadcast (fault flaw taken refused : Bool) :
    (fault = false ∧ flaw = false → resultRead fault (decide (Dest.all = .all)) flaw taken refused = .delivered) ∧
      (fault = true ∨ flaw = true → resultRead fault (decide (Dest.all = .all)) flaw taken refused = .flaw) := by
  unfold resultRead
  cases fault <;> cases flaw <;> simp

/-- R2, R8, R17, R43: the station whose attempt is over, before its frame is settled. -/
theorem Station.clearAttempt_ended (s : Station) (a : Attempt) :
    (if a.readbackFault then { s with lane := s.lane.endFieldOver }
      else ({ s with lane := s.lane.endFieldOver } : Station).readbackClean).clearAttempt = ended s a := by
  have lane : ({ s.lane.endFieldOver with attempt := none } : Lane) = (ended s a).lane := by
    unfold Lane.endFieldOver ended
    simp only [Bool.or_eq_true, decide_eq_true_eq]
  have counts := countsReadback_iff s
  have shape : (if a.readbackFault then { s with lane := s.lane.endFieldOver }
      else ({ s with lane := s.lane.endFieldOver } : Station).readbackClean).clearAttempt =
      { s with lane := { s.lane.endFieldOver with attempt := none }, seat := (ended s a).seat } := by
    cases hf : a.readbackFault with
    | true =>
      have seat : (ended s a).seat = s.seat := if_neg (by simp [hf])
      rw [seat]
      rfl
    | false =>
      show ({ s with lane := s.lane.endFieldOver } : Station).readbackClean.clearAttempt = _
      unfold Station.readbackClean
      by_cases hc : countsReadback s.seat.state = true
      · have seat : (ended s a).seat = { s.seat with mismatch := 0 } := if_pos ⟨hf, counts.1 hc⟩
        rw [if_pos hc, seat]
        rfl
      · have seat : (ended s a).seat = s.seat := if_neg fun h => hc (counts.2 h.2)
        rw [if_neg hc, seat]
        rfl
  exact shape.trans (congrArg (fun l => ({ s with lane := l, seat := (ended s a).seat } : Station)) lane)

/-- R16, R72: the end of an attempt past its key: its result by the marks read, its frame settled by its fate. -/
theorem exec_attemptResult {s : State} {a : Attempt} {e : Entry} {rest : List Entry} (flaw taken refused : Bool)
    (hold : s.hold = false) (attempt : s.lane.attempt = some a) (phase : a.phase ≠ .contending)
    (queue : s.sched.queue a.queue = e :: rest) (onLane : e.onLane = true) :
    exec (.attemptResult flaw taken refused) s =
      .next { s with
        toStation := closing
          ((ended s.toStation a).settleFate a.queue rest
            (e.fate (resultRead a.readbackFault (decide (e.dest = .all)) flaw taken refused) false a.start
              s.localTime)) } := by
  have awaits : s.lane.awaitsResult = true := by simp [Lane.awaitsResult, attempt, phase]
  refine (State.run_offerEvent_due _ hold awaits).trans ?_
  have result : Station.attemptResult flaw taken refused s.toStation =
      (if a.readbackFault then { s.toStation with lane := s.lane.endFieldOver }
        else ({ s.toStation with lane := s.lane.endFieldOver } : Station).readbackClean).handResult a
        (resultRead a.readbackFault (decide (e.dest = .all)) flaw taken refused) := by
    have sends : s.toStation.sendsBroadcast a = decide (e.dest = .all) := by
      unfold Station.sendsBroadcast
      rw [Sched.onLaneHead_of_head queue onLane]
    unfold Station.attemptResult
    rw [attempt]
    simp only [sends, resultOf_eq]
  have same : (if a.readbackFault then { s.toStation with lane := s.lane.endFieldOver }
        else ({ s.toStation with lane := s.lane.endFieldOver } : Station).readbackClean).sched = s.sched ∧
      (if a.readbackFault then { s.toStation with lane := s.lane.endFieldOver }
        else ({ s.toStation with lane := s.lane.endFieldOver } : Station).readbackClean).localTime = s.localTime := by
    unfold Station.readbackClean
    split
    · exact ⟨rfl, rfl⟩
    · split <;> exact ⟨rfl, rfl⟩
  obtain ⟨sched, time⟩ := same
  rw [result, Station.handResult_of_head _ (by rw [sched]; exact queue) onLane, Station.clearAttempt_ended, time]
  simp [phase]

/-! ### Frames that leave -/

theorem Station.tellOwner_data (s : Station) {e : Entry} (o : FrameOutcome) (h : e.kind = .data) :
    s.tellOwner e o = s := by simp [Station.tellOwner, h]

theorem Station.tellOwner_rollcall (s : Station) {e : Entry} (o : FrameOutcome) (h : e.kind = .rollcall) :
    s.tellOwner e o = s := by simp [Station.tellOwner, h]

/-- R148: the end of a beacon. -/
theorem Station.tellOwner_beacon (s : Station) {e : Entry} (o : FrameOutcome) (h : e.kind = .beacon) :
    s.tellOwner e o = { s with sel := beaconGone s.sel } := by
  have gone : s.sel.beaconRemoved = beaconGone s.sel := by
    unfold Selector.beaconRemoved beaconGone
    cases h : s.sel.current <;> simp
  simp [Station.tellOwner, h, gone]

/-- R174: the end of an ALARM frame. -/
theorem Station.tellOwner_alarm (s : Station) {e : Entry} (o : FrameOutcome) (h : e.kind = .alarm) :
    s.tellOwner e o =
      if o = .unheard then
        { s with
          alarm := { s.alarm with refresh := s.alarm.refresh.map fun _ => s.localTime + 10000000 } }
      else s := by
  simp [Station.tellOwner, h]
  rfl

/-- R34, R38, R68: a JOIN or a LEAVE that its owner has withdrawn tells the owner nothing. -/
theorem Station.tellOwner_withdrawn (s : Station) {e : Entry} (o : FrameOutcome) (h : e.kind = .join ∨ e.kind = .leave)
    (hw : e.withdrawn = true) : s.tellOwner e o = s := by
  rcases h with h | h <;> simp [Station.tellOwner, h, hw]

/-- R76: a frame of a SEND request leaves its record. -/
theorem Station.retire_tagged (s : Station) {e : Entry} {tag : Word16} (o : FrameOutcome) (h : e.tag = some tag) :
    s.retire e o = recorded s ⟨tag, o, e.attempts, e.lastStart⟩ := by simp [Station.retire, h, recorded]

theorem recorded_withQueue (v : Station) (q : FrameClass) (l : List Entry) (c : Completion) :
    recorded (withQueue v q l) c =
      { v with sched := { v.sched.setQueue q l with completions := v.sched.completions ++ [c] } } := by
  rw [← Sched.setQueue_completions v.sched q l]
  rfl

/-- R75: a frame that is neither a SEND frame nor a periodic copy leaves nothing behind. -/
theorem Station.retire_internal (s : Station) {e : Entry} (o : FrameOutcome) (h : e.tag = none)
    (hp : e.periodic = none) : s.retire e o = s := by simp [Station.retire, h, hp]

/-- R86: a periodic copy that leaves undelivered marks its entry. -/
theorem Station.retire_copy (s : Station) {e : Entry} {i : Fin 4} (o : FrameOutcome) (h : e.tag = none)
    (hp : e.periodic = some i) : s.retire e o = if o = .delivered then s else withMissed s i := by
  unfold Station.retire
  rw [h, hp]
  simp only
  split
  · rfl
  · unfold withMissed Station.setMissed
    cases hw : (s.sched.periodic.get i).written <;> cases hm : (s.sched.periodic.get i).missed <;> simp [hw, hm]

/-! ### Fates (R72 to R74, R80, R86) -/

/-- R72: a frame counted as won and over. -/
theorem Entry.counted_eq (e : Entry) (start : Option Stamp) :
    e.counted start =
      { e with attempts := e.attempts + 1, lastStart := start.or e.lastStart, onLane := false } := rfl

theorem Entry.fate_delivered (e : Entry) (c : Bool) (start : Option Stamp) (now : Nat) :
    e.fate .delivered c start now = .leaves (e.counted start) .delivered := rfl

/-- R80: with a pending disposition a frame not delivered leaves with it. -/
theorem Entry.fate_pending {e : Entry} {o : FrameOutcome} {r : AttemptEnd} (c : Bool) (start : Option Stamp)
    (now : Nat) (h : e.pending = some o) (hr : r = .flaw ∨ r = .unheard ∨ r = .refused) :
    ∃ e', e.fate r c start now = .leaves e' o ∧ e'.kind = e.kind ∧ e'.tag = e.tag ∧ e'.periodic = e.periodic ∧
      e'.attempts = e.attempts + 1 ∧ e'.lastStart = start.or e.lastStart := by
  rcases hr with rfl | rfl | rfl <;> simp only [Entry.fate, h] <;> exact ⟨_, rfl, rfl, rfl, rfl, rfl, rfl⟩

/-- R73, R86: FLAW and UNHEARD count a fault; the fourth, a copy's fourth attempt and a withdrawal end the frame. -/
theorem Entry.fate_fault {e : Entry} {r : AttemptEnd} (c : Bool) (start : Option Stamp) (now : Nat)
    (h : e.pending = none) (hr : r = .flaw ∨ r = .unheard) :
    e.fate r c start now =
      if 3 ≤ e.faults ∨ (e.periodic ≠ none ∧ 3 ≤ e.attempts) ∨ e.withdrawn = true then
        .leaves { e.counted start with faults := e.faults + 1 } .unheard
      else .stays { e.counted start with faults := e.faults + 1 } := by
  have fault : e.fate r c start now = (e.counted start).afterFault := by
    rcases hr with rfl | rfl <;> simp only [Entry.fate, h]
  rw [fault]
  unfold Entry.afterFault Entry.copySpent
  simp only [Entry.counted, Bool.or_eq_true, Bool.and_eq_true, decide_eq_true_eq, Option.isSome_iff_ne_none,
    Nat.succ_le_succ_iff, or_assoc]

/-- R73, R75: a frame delivered, withdrawn or at its fourth flaw leaves its queue. -/
theorem Entry.fate_ends {e : Entry} {r : AttemptEnd} (c : Bool) (start : Option Stamp) (now : Nat)
    (h : e.pending = none) (hr : r = .delivered ∨ r = .flaw ∧ (e.withdrawn = true ∨ 3 ≤ e.faults)) :
    ∃ e', e.fate r c start now = .leaves e' (if r = .delivered then .delivered else .unheard) ∧
      e'.tag = e.tag ∧ e'.periodic = e.periodic ∧ e'.kind = e.kind ∧ e'.withdrawn = e.withdrawn := by
  rcases hr with rfl | ⟨rfl, ends⟩
  · exact ⟨e.counted start, rfl, rfl, rfl, rfl, rfl⟩
  · refine ⟨{ e.counted start with faults := e.faults + 1 }, (Entry.fate_fault c start now h (.inl rfl)).trans ?_,
      rfl, rfl, rfl, rfl⟩
    exact if_pos (ends.symm.imp_right .inr)

/-- R74, R86: REFUSED counts a refusal; the eighth, a copy's fourth attempt and a withdrawal end the frame, and
otherwise it waits. -/
theorem Entry.fate_refused {e : Entry} (c : Bool) (start : Option Stamp) (now : Nat) (h : e.pending = none) :
    e.fate .refused c start now =
      if 7 ≤ e.refusals ∨ (e.periodic ≠ none ∧ 3 ≤ e.attempts) ∨ e.withdrawn = true then
        .leaves { e.counted start with refusals := e.refusals + 1 } .refused
      else
        .stays { e.counted start with refusals := e.refusals + 1, backoff := some (now + 10000) } := by
  have refusal : e.fate .refused c start now = (e.counted start).afterRefusal now := by
    simp only [Entry.fate, h]
  rw [refusal]
  unfold Entry.afterRefusal Entry.copySpent
  simp only [Entry.counted, Bool.or_eq_true, Bool.and_eq_true, decide_eq_true_eq, Option.isSome_iff_ne_none,
    Nat.succ_le_succ_iff, or_assoc]
  rfl

end Sys2Proof.Machine

namespace Sys2Proof.Slice0

/-- Settles O24. -/
theorem attemptResultOfASendFrame : Obligations.AttemptResultOfASendFrame := by
  intro s a e rest tag flaw taken refused hold attempt phase _ queue onLane kind tagged single staying r after gone
  have run := exec_attemptResult flaw taken refused hold attempt phase queue onLane
  have leaves (e' : Entry) (o : FrameOutcome) (hk : e'.kind = .data) (ht : e'.tag = some tag) :
      (ended s.toStation a).settleFate a.queue rest (.leaves e' o) = after (gone e' o) := by
    show ((withQueue _ _ _).retire e' o).tellOwner e' o = _
    rw [Station.retire_tagged _ o ht, Station.tellOwner_data _ o hk, recorded_withQueue]
    rfl
  have settled : r = .delivered ∨ (r = .flaw ∨ r = .unheard) ∨ r = .refused := resultRead_settled _ _ _ _ _
  refine ⟨fun unmarked => ?_, fun o marked => ?_⟩ <;>
    refine run.trans (congrArg (fun u => Host.Outcome.next { s with toStation := closing u }) ?_)
  · show (ended s.toStation a).settleFate a.queue rest (e.fate r false a.start s.localTime) = _
    rcases settled with hr | hr | hr
    · rw [hr, Entry.fate_delivered, leaves (e.counted a.start) _ kind tagged]
      rfl
    · have fate := Entry.fate_fault false a.start s.localTime unmarked hr
      have after' : sendFrameAfter e r a.start s.localTime =
          if 3 ≤ e.faults then .error ({ e.counted a.start with faults := e.faults + 1 }, .unheard)
          else .ok { e.counted a.start with faults := e.faults + 1 } := by
        rcases hr with hr | hr <;> rw [hr] <;> simp [sendFrameAfter, Entry.counted]
      rw [fate, after']
      by_cases h : 3 ≤ e.faults
      · rw [if_pos (.inl h), if_pos h, leaves { e.counted a.start with faults := e.faults + 1 } _ kind tagged]
      · rw [if_neg (by simp [h, single, staying]), if_neg h]
        rfl
    · have after' : sendFrameAfter e r a.start s.localTime =
          if 7 ≤ e.refusals then .error ({ e.counted a.start with refusals := e.refusals + 1 }, .refused)
          else .ok { e.counted a.start with refusals := e.refusals + 1, backoff := some (s.localTime + 10000) } := by
        rw [hr]
        simp [sendFrameAfter, Entry.counted]
      rw [hr] at after' ⊢
      rw [Entry.fate_refused false a.start s.localTime unmarked, after']
      by_cases h : 7 ≤ e.refusals
      · rw [if_pos (.inl h), if_pos h,
          leaves { e.counted a.start with refusals := e.refusals + 1 } _ kind tagged]
      · rw [if_neg (by simp [h, single, staying]), if_neg h]
        rfl
  · show (ended s.toStation a).settleFate a.queue rest (e.fate r false a.start s.localTime) = _
    rcases settled with hr | hr
    · rw [hr, Entry.fate_delivered, leaves (e.counted a.start) _ kind tagged]
      rfl
    · obtain ⟨e', fate, hk, ht, -, attempts, last⟩ :=
        Entry.fate_pending false a.start s.localTime marked (or_assoc.1 hr)
      have undelivered : r ≠ .delivered := by rcases hr with (hr | hr) | hr <;> simp [hr]
      rw [fate, leaves e' o (hk.trans kind) (ht.trans tagged), if_neg undelivered]
      simp only [gone, attempts, last]

/-- Settles O26. -/
theorem internalFramesAndCopiesEndByTheirRule : Obligations.InternalFramesAndCopiesEndByTheirRule := by
  intro s a e rest flaw taken refused hold attempt phase queue onLane untagged r counted stays left answers
  have run := exec_attemptResult flaw taken refused hold attempt phase queue onLane
  have answer {u : Station}
      (h : (ended s.toStation a).settleFate a.queue rest (e.fate r false a.start s.localTime) = u) : answers u :=
    run.trans (congrArg (fun u => Host.Outcome.next { s with toStation := closing u }) h)
  refine ⟨fun all uncopied unmarked kind => ?_, fun i copy kind staying => ?_⟩
  · have broadcast : r = .flaw ∨ r = .delivered := by
      obtain ⟨clean, flawed⟩ := resultRead_broadcast a.readbackFault flaw taken refused
      show resultRead a.readbackFault (decide (e.dest = .all)) flaw taken refused = .flaw ∨
        resultRead a.readbackFault (decide (e.dest = .all)) flaw taken refused = .delivered
      rw [all]
      by_cases h : a.readbackFault = true ∨ flaw = true
      · exact .inl (flawed h)
      · exact .inr (clean (by simpa using h))
    have leaves (e' : Entry) (o : FrameOutcome) (ht : e'.tag = none) (hp : e'.periodic = none) :
        (ended s.toStation a).settleFate a.queue rest (.leaves e' o) = left.tellOwner e' o :=
      congrArg (Station.tellOwner · e' o) (Station.retire_internal _ o ht hp)
    refine ⟨broadcast, fun hr staying early => answer ?_, fun hr => ?_⟩
    · rw [Entry.fate_fault false a.start s.localTime unmarked (.inl hr),
        if_neg (by simp [staying, uncopied, Nat.not_le.2 early])]
      rfl
    · obtain ⟨e', fate, ht, hp, hk, -⟩ := Entry.fate_ends (r := r) false a.start s.localTime unmarked
        (by
          rcases broadcast with hf | hd
          · exact hr.imp_right fun h => ⟨hf, h⟩
          · exact .inl hd)
      rw [fate, leaves e' _ (ht.trans untagged) (hp.trans uncopied)] at answer
      refine ⟨fun h => answer (Station.tellOwner_rollcall _ _ (hk.trans h)),
        fun h => answer (Station.tellOwner_beacon _ _ (hk.trans h)), fun h hr => answer ?_, fun h hr => answer ?_⟩
      · rw [Station.tellOwner_alarm _ _ (hk.trans h), hr]
        rfl
      · rw [Station.tellOwner_alarm _ _ (hk.trans h), hr]
        rfl
  · have leaves (e' : Entry) (o : FrameOutcome) (hk : e'.kind = .data) (ht : e'.tag = none) (hp : e'.periodic = some i) :
        (ended s.toStation a).settleFate a.queue rest (.leaves e' o) =
          if o = .delivered then left else withMissed left i :=
      (Station.tellOwner_data _ o hk).trans (Station.retire_copy _ o ht hp)
    have copied : e.periodic ≠ none := by simp [copy]
    refine ⟨fun hr => answer ?_, fun o marked ho hr => answer ?_, fun hr unmarked => ⟨fun h1 h2 => answer ?_,
      fun h => answer ?_⟩, fun hr unmarked => ⟨fun h1 h2 => answer ?_, fun h => answer ?_⟩⟩
    · rw [hr, Entry.fate_delivered, leaves (e.counted a.start) _ kind untagged copy, if_pos rfl]
    · have settled : r = .delivered ∨ (r = .flaw ∨ r = .unheard) ∨ r = .refused := resultRead_settled _ _ _ _ _
      obtain ⟨e', fate, hk, ht, hp, -⟩ := Entry.fate_pending false a.start s.localTime marked
        (or_assoc.1 (settled.resolve_left hr))
      rw [fate, leaves e' o (hk.trans kind) (ht.trans untagged) (hp.trans copy), if_neg ho]
    · rw [Entry.fate_fault false a.start s.localTime unmarked hr,
        if_neg (by simp [staying, Nat.not_le.2 h1, Nat.not_le.2 h2])]
      rfl
    · have ends : 3 ≤ e.faults ∨ (e.periodic ≠ none ∧ 3 ≤ e.attempts) ∨ e.withdrawn = true :=
        h.elim (fun h => .inr (.inl ⟨copied, h⟩)) .inl
      rw [Entry.fate_fault false a.start s.localTime unmarked hr, if_pos ends,
        leaves { e.counted a.start with faults := e.faults + 1 } _ kind untagged copy, if_neg (by simp)]
    · rw [hr, Entry.fate_refused false a.start s.localTime unmarked,
        if_neg (by simp [staying, Nat.not_le.2 h1, Nat.not_le.2 h2])]
      rfl
    · have ends : 7 ≤ e.refusals ∨ (e.periodic ≠ none ∧ 3 ≤ e.attempts) ∨ e.withdrawn = true :=
        h.elim (fun h => .inr (.inl ⟨copied, h⟩)) .inl
      rw [hr, Entry.fate_refused false a.start s.localTime unmarked, if_pos ends,
        leaves { e.counted a.start with refusals := e.refusals + 1 } _ kind untagged copy, if_neg (by simp)]

end Sys2Proof.Slice0
end

section
/-! SUPPORT. The own list and its seq over a change, and over the reviews of the selector (R170, R172, R180, R181). -/

-- One theorem after another: the check's data limit has no room for a thread for each.
set_option Elab.async false

open Sys2Proof Sys2Proof.Machine Sys2Proof.Safety Sys2Proof.Slice0

namespace Sys2Proof.Machine

/-! ### The seq of the own list -/

theorem Station.announceList_seq (s : Station) : s.announceList.alarm.ownSeq = s.alarm.ownSeq := by
  unfold Station.announceList Station.placeAlarmIfPermitted Station.placeAlarm
  repeat' split
  all_goals rfl

/-- R172: a change made known raises the seq by one. -/
theorem Station.setOwn_seq (s : Station) (l : List AlarmEntry) :
    (s.setOwn l).alarm.ownSeq = s.alarm.ownSeq + 1 := Station.announceList_seq _

theorem Station.offerEach_seq (s : Station) (l : List ViewEntry) :
    (s.offerEach l).alarm.ownSeq = s.alarm.ownSeq := by
  induction l generalizing s with
  | nil => rfl
  | cons e l ih => exact (ih _).trans rfl

/-- R172, R180, R181: ALARM_VIEW_FULL raised, cleared, or cleared and raised again on the way from `s` to `t`, each
with a rise of the seq by one. -/
def ViewFullMoved (s t : Station) : Prop :=
  (s.alarm.has alarmViewFull = t.alarm.has alarmViewFull →
    t.alarm.ownSeq = s.alarm.ownSeq ∨ s.alarm.has alarmViewFull = true ∧ t.alarm.ownSeq = s.alarm.ownSeq + 2) ∧
    (s.alarm.has alarmViewFull ≠ t.alarm.has alarmViewFull → t.alarm.ownSeq = s.alarm.ownSeq + 1)

/-- R180: an offer leaves the own list, or raises ALARM_VIEW_FULL. -/
theorem Station.offer_seq (s : Station) (l : List ViewEntry) :
    (s.offer l).alarm.has alarmViewFull = s.alarm.has alarmViewFull ∧ (s.offer l).alarm.ownSeq = s.alarm.ownSeq ∨
      s.alarm.has alarmViewFull = false ∧ (s.offer l).alarm.has alarmViewFull = true ∧
        (s.offer l).alarm.ownSeq = s.alarm.ownSeq + 1 := by
  have offered (k : List ViewEntry) : (s.offerEach k).alarm.has alarmViewFull = s.alarm.has alarmViewFull := by
    unfold AlarmUnit.has
    rw [Station.offerEach_own]
  unfold Station.offer Station.raiseViewFull
  dsimp only
  split
  · split
    · exact .inl ⟨offered _, s.offerEach_seq _⟩
    next h =>
      refine .inr ⟨?_, ?_, ?_⟩
      · rw [← offered]
        exact Bool.eq_false_iff.2 h
      · unfold AlarmUnit.has
        rw [Station.offerEach_own, Station.setOwn_own]
        simp
      · rw [Station.offerEach_seq, Station.setOwn_seq, Station.offerEach_seq]
  · exact .inl ⟨offered _, s.offerEach_seq _⟩

/-- R181: clearing ALARM_VIEW_FULL where it is due. -/
theorem Station.clearViewFullIfLow_seq (s : Station) (l : List ViewEntry) :
    (s.clearViewFullIfLow l) = s ∨
      s.alarm.has alarmViewFull = true ∧
        ((s.clearViewFullIfLow l).alarm.has alarmViewFull = false ∧
            (s.clearViewFullIfLow l).alarm.ownSeq = s.alarm.ownSeq + 1 ∨
          (s.clearViewFullIfLow l).alarm.has alarmViewFull = true ∧
            (s.clearViewFullIfLow l).alarm.ownSeq = s.alarm.ownSeq + 1 + 1) := by
  unfold Station.clearViewFullIfLow
  split
  next h =>
    refine .inr ⟨(Bool.and_eq_true_iff.1 h).2, ?_⟩
    unfold Station.clearViewFull
    dsimp only
    let u := (s.setOwn (s.alarm.own.filter fun e => !(e.code = alarmViewFull))).setView
      (removeFrom (s.setOwn (s.alarm.own.filter fun e => !(e.code = alarmViewFull))).isOwn
        (s.setOwn (s.alarm.own.filter fun e => !(e.code = alarmViewFull))).ownEntries
        (s.setOwn (s.alarm.own.filter fun e => !(e.code = alarmViewFull))).alarm.view)
    have cleared : u.alarm.has alarmViewFull = false := by
      show List.any (s.setOwn _).alarm.own _ = false
      rw [Station.setOwn_own]
      simp
    have seq : u.alarm.ownSeq = s.alarm.ownSeq + 1 := s.setOwn_seq _
    rcases u.offer_seq (u.ownEntries ++ u.syntheticEntries) with ⟨h1, h2⟩ | ⟨-, h1, h2⟩
    · exact .inl ⟨h1.trans cleared, h2.trans seq⟩
    · exact .inr ⟨h1, h2.trans (by rw [seq])⟩
  · exact .inl rfl

/-- R178, R180, R181: the seq over a merge. -/
theorem Station.merge_seq (s : Station) (mine : Station → ViewEntry → Bool) (entries : Station → List ViewEntry) :
    ViewFullMoved s (s.merge mine entries) := by
  let r := s.setView (removeFrom (mine s) (entries s) s.alarm.view)
  let c := r.clearViewFullIfLow s.alarm.view
  let u := c.setView (updateFrom (mine c) (entries c) c.alarm.view)
  show ViewFullMoved s (u.offer (entries u))
  have two (x : Byte) : x + 1 + 1 = x + 2 := by rw [BitVec.add_assoc]; rfl
  have start : r.alarm.has alarmViewFull = s.alarm.has alarmViewFull ∧ r.alarm.ownSeq = s.alarm.ownSeq := ⟨rfl, rfl⟩
  have updated : u.alarm.has alarmViewFull = c.alarm.has alarmViewFull ∧ u.alarm.ownSeq = c.alarm.ownSeq := ⟨rfl, rfl⟩
  unfold ViewFullMoved
  rcases r.clearViewFullIfLow_seq s.alarm.view with h | ⟨h0, ⟨h1, h2⟩ | ⟨h1, h2⟩⟩ <;>
    rcases u.offer_seq (entries u) with ⟨g1, g2⟩ | ⟨g0, g1, g2⟩
  · have hc : c = r := h
    rw [g1, g2, updated.1, updated.2, hc]
    exact ⟨fun _ => .inl rfl, fun h => absurd rfl h⟩
  · have hc : c = r := h
    rw [updated.1, hc] at g0
    rw [g1, g2, updated.2, hc, ← start.1, g0]
    exact ⟨fun h => by simp at h, fun _ => rfl⟩
  · rw [g1, g2, updated.1, updated.2, show c.alarm.has alarmViewFull = false from h1, ← start.1, h0]
    exact ⟨fun h => by simp at h, fun _ => h2⟩
  · rw [g1, g2, updated.2, ← start.1, h0]
    exact ⟨fun _ => .inr ⟨rfl, by rw [show c.alarm.ownSeq = _ from h2, two, start.2]⟩, fun h => absurd rfl h⟩
  · rw [g1, g2, updated.1, updated.2, show c.alarm.has alarmViewFull = true from h1, ← start.1, h0]
    exact ⟨fun _ => .inr ⟨rfl, by rw [show c.alarm.ownSeq = _ from h2, two, start.2]⟩, fun h => absurd rfl h⟩
  · rw [updated.1, show c.alarm.has alarmViewFull = true from h1] at g0
    cases g0

/-- R172, R180, R181: the seq over a change of the own list that leaves ALARM_VIEW_FULL as it stands. -/
theorem Station.changeOwn_seqRose (s : Station) (l : List AlarmEntry)
    (h : (l.any fun e => e.code = alarmViewFull) = s.alarm.has alarmViewFull) : ListSeqRose s (s.changeOwn l) := by
  have has : (s.setOwn l).alarm.has alarmViewFull = s.alarm.has alarmViewFull := by
    rw [← h, AlarmUnit.has, Station.setOwn_own]
  have seq := s.setOwn_seq l
  obtain ⟨same, moved⟩ := (s.setOwn l).merge_seq Station.isOwn Station.ownEntries
  have three : s.alarm.ownSeq + 1 + 2 = s.alarm.ownSeq + 3 := by rw [BitVec.add_assoc]; rfl
  have two : s.alarm.ownSeq + 1 + 1 = s.alarm.ownSeq + 2 := by rw [BitVec.add_assoc]; rfl
  rw [has, seq] at same moved
  rw [three] at same
  rw [two] at moved
  exact ⟨same, moved⟩

/-- R170, R172: the seq over an internal raise that is none already standing. -/
theorem Station.raiseInternal_seqRose (s : Station) (code : Word16) (h : s.alarm.has code = false)
    (hc : code ≠ alarmViewFull) : ListSeqRose s (s.raiseInternal code) := by
  unfold Station.raiseInternal
  rw [if_neg (by simp [h])]
  exact s.changeOwn_seqRose _ (by simp [AlarmUnit.has, hc])

/-- R170, R172: the seq over an internal clear of what stands. -/
theorem Station.clearInternal_seqRose (s : Station) (code : Word16) (h : s.alarm.has code = true)
    (hc : code ≠ alarmViewFull) : ListSeqRose s (s.clearInternal code) := by
  unfold Station.clearInternal
  rw [if_pos h]
  refine s.changeOwn_seqRose _ ?_
  unfold AlarmUnit.has
  rw [List.any_filter]
  congr 1
  funext e
  by_cases he : e.code = alarmViewFull
  · simp [he, Ne.symm hc]
  · simp [he]

/-! ### The own list over reviews (R162, R170) -/

/-- R162: the own list stands as it was, or HOLDOVER_EXPIRED has been raised, once. -/
def HoldoverRaised (s t : Station) : Prop :=
  t.alarm.own = s.alarm.own ∧ t.alarm.ownSeq = s.alarm.ownSeq ∨
    s.alarm.has holdoverExpired = false ∧ t.alarm.has holdoverExpired = true ∧ ListSeqRose s t ∧
      ∃ e : AlarmEntry, e.code = holdoverExpired ∧ ownBut t = ownBut s ++ [e]

theorem HoldoverRaised.refl (s : Station) : HoldoverRaised s s := .inl ⟨rfl, rfl⟩

theorem listSeqRose_congr {s s' t t' : Station} (h1 : s'.alarm.own = s.alarm.own)
    (h2 : s'.alarm.ownSeq = s.alarm.ownSeq) (g1 : t'.alarm.own = t.alarm.own) (g2 : t'.alarm.ownSeq = t.alarm.ownSeq)
    (h : ListSeqRose s t) : ListSeqRose s' t' := by
  unfold ListSeqRose AlarmUnit.has at *
  rw [h1, h2, g1, g2]
  exact h

theorem HoldoverRaised.trans {s t u : Station} (h : HoldoverRaised s t) (g : HoldoverRaised t u) :
    HoldoverRaised s u := by
  have has {x y : Station} (e : y.alarm.own = x.alarm.own) (code : Word16) : y.alarm.has code = x.alarm.has code := by
    unfold AlarmUnit.has
    rw [e]
  have rest {x y : Station} (e : y.alarm.own = x.alarm.own) : ownBut y = ownBut x := by
    unfold ownBut
    rw [e]
  rcases h with ⟨h1, h2⟩ | ⟨h1, h2, h3, x, hx, h4⟩
  · rcases g with ⟨g1, g2⟩ | ⟨g1, g2, g3, x, hx, g4⟩
    · exact .inl ⟨g1.trans h1, g2.trans h2⟩
    · exact .inr ⟨(has h1 _).symm.trans g1, g2, listSeqRose_congr h1.symm h2.symm rfl rfl g3, x, hx, by rw [g4, rest h1]⟩
  · rcases g with ⟨g1, g2⟩ | ⟨g1, -⟩
    · exact .inr ⟨h1, (has g1 _).trans h2, listSeqRose_congr rfl rfl g1 g2 h3, x, hx, (rest g1).trans h4⟩
    · rw [h2] at g1
      cases g1

theorem Station.setServoState_alarm (s : Station) (state : ServoState) :
    (s.setServoState state).alarm = s.alarm := by
  unfold Station.setServoState
  split <;> rfl

theorem Station.startUnlockedIfLocked_alarm (s : Station) : s.startUnlockedIfLocked.alarm = s.alarm := by
  unfold Station.startUnlockedIfLocked
  split <;> rfl

theorem holdoverRaised_of_alarm {s t : Station} (h : t.alarm = s.alarm) : HoldoverRaised s t :=
  .inl ⟨congrArg AlarmUnit.own h, congrArg AlarmUnit.ownSeq h⟩

theorem Station.expireHoldover_holdoverRaised (s : Station) : HoldoverRaised s s.expireHoldover := by
  let u := ({ s with servo := { s.servo with holdTimer := none, expired := true } } : Station).setTimingCause
  show HoldoverRaised s (u.raiseInternal holdoverExpired)
  by_cases h : u.alarm.has holdoverExpired = true
  · have same : u.raiseInternal holdoverExpired = u := if_pos h
    rw [same]
    exact .inl ⟨rfl, rfl⟩
  · have h' : u.alarm.has holdoverExpired = false := Bool.eq_false_iff.2 h
    have raised := u.raiseInternal_raised holdoverExpired (by decide)
    refine .inr ⟨h', AlarmUnit.has_of_raised raised (by decide),
      u.raiseInternal_seqRose _ h' (by decide), _, rfl, raised.trans (if_neg h)⟩

theorem Station.enterHoldover_holdoverRaised (s : Station) : HoldoverRaised s s.enterHoldover := by
  unfold Station.enterHoldover
  have h : HoldoverRaised s s.startUnlockedIfLocked := holdoverRaised_of_alarm s.startUnlockedIfLocked_alarm
  refine h.trans ?_
  generalize s.startUnlockedIfLocked = u
  dsimp only
  split
  · refine HoldoverRaised.trans ?_ (Station.expireHoldover_holdoverRaised _)
    exact holdoverRaised_of_alarm (Station.setServoState_alarm _ _)
  · exact holdoverRaised_of_alarm (Station.setServoState_alarm _ _)

theorem Station.takeSource_holdoverRaised (s : Station) (new : Source) : HoldoverRaised s (s.takeSource new) := by
  have h : HoldoverRaised s (({ s with servo := { s.servo with source := new } } : Station).setTimingCause) :=
    .inl ⟨rfl, rfl⟩
  unfold Station.takeSource
  dsimp only
  split
  · split
    · exact h.trans (Station.enterHoldover_holdoverRaised _)
    · exact h.trans (Station.enterHoldover_holdoverRaised _)
    · exact h
    · exact h
  · refine h.trans (holdoverRaised_of_alarm ?_)
    unfold Station.acquireSource
    exact (Station.setServoState_alarm _ _).trans (Station.startUnlockedIfLocked_alarm _)

theorem Station.decideBeaconing_alarm (s : Station) : s.decideBeaconing.alarm = s.alarm := by
  unfold Station.decideBeaconing
  split <;> rfl

theorem Station.review_holdoverRaised (s : Station) : HoldoverRaised s s.review := by
  have decided : HoldoverRaised s ({ s with sel := s.chosen }).decideBeaconing :=
    holdoverRaised_of_alarm (Station.decideBeaconing_alarm _)
  unfold Station.review
  dsimp only
  split
  · exact decided
  · exact decided.trans (Station.takeSource_holdoverRaised _ _)

/-- R142, R162: the own list over the reviews of a command. -/
theorem Station.reviews_holdoverRaised (s : Station) (events : Nat) : HoldoverRaised s (s.reviews events) :=
  reviews_keep (HoldoverRaised s) (fun u h => h.trans u.review_holdoverRaised) s events (.refl s)

/-- R170: no alarm is cleared by a review. -/
theorem HoldoverRaised.has {s t : Station} (h : HoldoverRaised s t) {code : Word16} (hc : code ≠ alarmViewFull)
    (hs : s.alarm.has code = true) : t.alarm.has code = true := by
  rcases h with ⟨h1, -⟩ | ⟨-, -, -, x, -, h4⟩
  · unfold AlarmUnit.has at *
    rwa [h1]
  · rw [s.alarm.has_eq_rest code hc] at hs
    rw [t.alarm.has_eq_rest code hc]
    have rest : t.alarm.ownRest = s.alarm.ownRest ++ [x] := h4
    rw [rest, List.any_append, hs]
    rfl

/-- R172: the rise of the seq over reviews, as the statements count it. -/
theorem HoldoverRaised.seqRoseBy {s t : Station} (h : HoldoverRaised s t) :
    ListSeqRoseBy (t.alarm.has holdoverExpired && !s.alarm.has holdoverExpired).toNat s t := by
  rcases h with ⟨h1, h2⟩ | ⟨h1, h2, h3, -⟩
  · have same : t.alarm.has holdoverExpired = s.alarm.has holdoverExpired := by
      unfold AlarmUnit.has
      rw [h1]
    have zero : (t.alarm.has holdoverExpired && !s.alarm.has holdoverExpired).toNat = 0 := by
      rw [same]
      cases s.alarm.has holdoverExpired <;> rfl
    rw [zero]
    exact ⟨h1, h2⟩
  · rw [h1, h2]
    exact ⟨s, ⟨rfl, rfl⟩, h3⟩

end Sys2Proof.Machine
end

section
/-! SUPPORT. Readback (R17, R43): the report that counts, the second in a row, and the frame that a mismatch cuts. -/

-- One theorem after another: the check's data limit has no room for a thread for each.
set_option Elab.async false

open Sys2Proof Sys2Proof.Machine Sys2Proof.Safety Sys2Proof.Slice0

namespace Sys2Proof.Machine

/-! ### Reports of readback (R43) -/

theorem Station.readbackMismatch_uncounted {s : Station} (h : ¬ CountsReadback s) : s.readbackMismatch = s :=
  if_neg fun c => h ((countsReadback_iff s).1 c)

/-- R43: a first mismatch. -/
theorem Station.readbackMismatch_first {s : Station} (h : CountsReadback s) (m : s.seat.mismatch = 0) :
    s.readbackMismatch = { s with seat := { s.seat with mismatch := 1 } } := by
  unfold Station.readbackMismatch
  rw [if_pos ((countsReadback_iff s).2 h), m]
  rfl

/-- R43: the second mismatch in a row. -/
theorem Station.readbackMismatch_second {s : Station} (h : CountsReadback s) (m : 1 ≤ s.seat.mismatch) :
    s.readbackMismatch = ({ s with seat := { s.seat with mismatch := 2 } } : Station).enterClashed := by
  have two : min 2 (s.seat.mismatch + 1) = 2 := by omega
  unfold Station.readbackMismatch
  rw [if_pos ((countsReadback_iff s).2 h), two]
  rfl

/-- What a closing gate leaves depends on the station's queues and records, its copies, the MISSED cause, the roster
and the frame it cuts. -/
theorem gateClosed_of_same {s w t : Station} (h : GateClosed w t) (drops : gateDrops w = gateDrops s)
    (express : gateKeeps w .express = gateKeeps s .express) (bulk : gateKeeps w .bulk = gateKeeps s .bulk)
    (attempt : (w.lane.attempt.filter fun a => a.phase = .awaitMarks) =
      s.lane.attempt.filter fun a => a.phase = .awaitMarks)
    (completions : w.sched.completions = s.sched.completions) (periodic : w.sched.periodic = s.sched.periodic)
    (missed : w.port.missedCause = s.port.missedCause)
    (roster : ({ w.roster with silence := none } : Roster) = { s.roster with silence := none }) : GateClosed s t := by
  unfold GateClosed DropsCopy at *
  rw [drops, express, bulk, attempt, completions, periodic, missed, roster] at h
  exact h

/-- R18: a gate that closes cuts an attempt for its queue, its phase and its start. -/
theorem gateClosed_of_attempt {s t : Station} {a b : Attempt} (attempt : s.lane.attempt = some a)
    (cuts : a.phase ≠ .awaitMarks) (queue : b.queue = a.queue) (phase : b.phase = a.phase) (start : b.start = a.start)
    (h : GateClosed { s with lane := { s.lane with attempt := some b } } t) : GateClosed s t := by
  obtain ⟨o, cut, cut'⟩ : ∃ o : Option Entry, cutOf s = o.map (fun e => (a, e)) ∧
      cutOf { s with lane := { s.lane with attempt := some b } } = o.map fun e => (b, e) := by
    unfold cutOf
    rw [attempt]
    simp only [queue, phase]
    split
    · exact ⟨none, rfl, rfl⟩
    · exact ⟨_, rfl, rfl⟩
  have keeps (q : FrameClass) : gateKeeps { s with lane := { s.lane with attempt := some b } } q = gateKeeps s q := by
    unfold gateKeeps
    rw [cut, cut']
    cases o <;> simp [queue]
  have drops : gateDrops { s with lane := { s.lane with attempt := some b } } = gateDrops s := by
    unfold gateDrops
    rw [cut, cut']
    cases o <;> simp [Slice0.cutFrame, phase, start]
  refine gateClosed_of_same h drops (keeps _) (keeps _) ?_ rfl rfl rfl rfl
  rw [attempt]
  simp [Option.filter, phase, cuts]

/-- R17: the contents of an attempt that a mismatch cuts short. -/
theorem Attempt.aborts_spec (a : Attempt) :
    3 ≤ a.aborts.bodyLeft ∧ a.aborts.bodyLeft ≤ 4 ∧
      ∀ k more d m, a.aborts.sent = k :: more →
        a.aborts.cells d m =
          keyCells k ++ more.flatMap dataCells ++ [true, false, true, false, true, false, true, false, true, false] ++
            endFieldCells d m := by
  have left : a.aborts.bodyLeft = (if a.bodyLeft % 2 = 1 then 1 else 2) + 2 := rfl
  refine ⟨by rw [left]; split <;> decide, by rw [left]; split <;> decide, fun k more d m h => ?_⟩
  unfold Attempt.cells
  rw [h]
  rfl

end Sys2Proof.Machine

namespace Sys2Proof.Slice0

/-- Settles O23. -/
theorem readbackMismatchCountsTowardsClash : Obligations.ReadbackMismatchCountsTowardsClash := by
  intro s a hold attempt phase clean
  let v : Station := { s.toStation with lane := { s.lane with attempt := some a.aborts } }
  have run : exec .readbackMismatch s = .next { s with toStation := closing v.readbackMismatch } := by
    refine (State.run_offerEvent_due _ hold (by simp [Lane.sendingClean, attempt, phase, clean])).trans ?_
    unfold Station.readbackFails
    rw [attempt]
    rfl
  have silent (u : Station) (h : u.lane.attempt = some a.aborts) : closing u = (u.setOffer none).drive :=
    congrArg Station.drive (u.renewOffer_cases.1 (.inr (.inr (by simp [h]))))
  refine ⟨fun counts => ⟨fun first => ?_, fun second => ?_⟩, fun others => ?_⟩
  · rw [Station.readbackMismatch_first (s := v) counts first, silent _ rfl] at run
    obtain ⟨least, most, cells⟩ := a.aborts_spec
    exact ⟨_, a.aborts, run, rfl, rfl, rfl, rfl, least, most, rfl, cells, rfl, rfl, rfl, rfl⟩
  · rw [Station.readbackMismatch_second (s := v) counts second] at run
    obtain ⟨seat, -, -, gate, frame, raised⟩ :=
      Station.closing_enterClashed { v with seat := { v.seat with mismatch := 2 } } hold
    generalize closing (Station.enterClashed { v with seat := { v.seat with mismatch := 2 } }) = t
      at run seat gate frame raised
    exact ⟨_, run, seat, gateClosed_of_attempt (b := a.aborts) attempt (by simp [phase]) rfl rfl rfl gate, frame, raised⟩
  · have uncounted : ¬ CountsReadback v := by
      have same : v.seat.state = s.seat.state := rfl
      unfold CountsReadback
      rw [same]
      rcases others with h | h | h | h <;> simp [h]
    rw [Station.readbackMismatch_uncounted uncounted, silent _ rfl] at run
    exact ⟨_, run, rfl, rfl⟩

end Sys2Proof.Slice0
end

section
/-! SUPPORT. What entering a seat state leaves of the own list (R26, R172), and the entry to ACTIVE, LISTEN and GONE
that the end of a JOIN or a LEAVE brings (R33, R34, R37, R38). -/

-- One theorem after another: the check's data limit has no room for a thread for each.
set_option Elab.async false

open Sys2Proof Sys2Proof.Machine Sys2Proof.Safety Sys2Proof.Slice0

namespace Sys2Proof.Machine

/-! ### The own list where a state is entered -/

theorem Station.cutAttempt_alarm (s : Station) : s.cutAttempt.alarm = s.alarm := by
  have applied (q : FrameClass) (f : Option Fate) : ((s.clearAttempt).applyFate q f).alarm = s.alarm :=
    (Station.applyFate_queueFrame s.clearAttempt q f).alarm
  unfold Station.cutAttempt
  split
  · dsimp only
    split
    · exact applied _ _
    · unfold Station.readbackClean
      split <;> exact applied _ _
    · rfl
  · rfl

theorem Station.closeGates_alarm (s : Station) : s.closeGates.alarm = s.alarm := by
  have closed (u : Station) : (((u.stopDelimiter).cutAttempt).flushCards).emptyInternal.alarm = u.alarm :=
    ((Station.flushCards_queueFrame _).trans (Station.emptyInternal_queueFrame _)).alarm.trans
      u.stopDelimiter.cutAttempt_alarm
  unfold Station.closeGates
  dsimp only
  split <;> split
  · exact closed _
  · rfl
  · exact closed _
  · rfl

/-- R172: the station whose own list seq has risen for an entry to ACTIVE. -/
def Station.seqForEntry (s : Station) (new : SeatState) : Station :=
  { s with alarm := { s.alarm with ownSeq := if new = .active then s.alarm.ownSeq + 1 else s.alarm.ownSeq } }

/-- R162, R172: of the own list, entering a state moves the seq where the state is ACTIVE, and the review may raise
HOLDOVER_EXPIRED. -/
theorem Station.enterSeat_holdoverRaised (s : Station) (new : SeatState) :
    HoldoverRaised (s.seqForEntry new) (s.enterSeat new) := by
  refine HoldoverRaised.trans ?_ (Station.reviews_holdoverRaised ((s.announceSeat new).closeGates).seatTimers 1)
  have state : ((s.announceSeat new).closeGates).seat.state = new := by rw [Station.closeGates_seat]; rfl
  have alarm : ((s.announceSeat new).closeGates).alarm = s.alarm := Station.closeGates_alarm _
  revert state alarm
  generalize (s.announceSeat new).closeGates = u
  intro state alarm
  unfold HoldoverRaised Station.seatTimers Station.seqForEntry
  dsimp only
  rw [state, ← alarm]
  cases new <;> exact .inl ⟨rfl, rfl⟩

theorem Station.enterSeat_has (s : Station) (new : SeatState) {code : Word16} (hc : code ≠ alarmViewFull)
    (h : s.alarm.has code = true) : (s.enterSeat new).alarm.has code = true :=
  (s.enterSeat_holdoverRaised new).has hc h

/-- R170: an internal raise leaves what stands. -/
theorem Station.raiseInternal_has (s : Station) (raised : Word16) {code : Word16} (hr : raised ≠ alarmViewFull)
    (hc : code ≠ alarmViewFull) (h : s.alarm.has code = true) : (s.raiseInternal raised).alarm.has code = true := by
  rw [s.alarm.has_eq_rest code hc] at h
  rw [(s.raiseInternal raised).alarm.has_eq_rest code hc]
  have rest : (s.raiseInternal raised).alarm.ownRest = _ := s.raiseInternal_raised raised hr
  rw [rest]
  split
  · exact h
  · rw [List.any_append]
    exact Bool.or_eq_true_iff.2 (.inl h)

theorem Station.enterClashed_has (s : Station) {code : Word16} (hc : code ≠ alarmViewFull)
    (h : s.alarm.has code = true) : s.enterClashed.alarm.has code = true :=
  Station.raiseInternal_has _ _ (by decide) hc (s.enterSeat_has .clashed hc h)

/-! ### Entering ACTIVE and LISTEN -/

/-- R59, R172, R199, R201: what the entry to ACTIVE starts. -/
theorem Station.enterSeat_active (s : Station) :
    (s.enterSeat .active).lane = s.lane ∧
      (s.enterSeat .active).roster = { s.roster with silence := some (s.localTime + 10000000) } ∧
      (s.enterSeat .active).port.watchdog = s.port.watchdogIn true s.localTime ∧
      (s.enterSeat .active).port.seatCause = true ∧
      (s.enterSeat .active).alarm.refresh = some (s.localTime + 6000000) := by
  let u := ((s.announceSeat .active).closeGates).seatTimers
  have f := u.reviews_frame 1
  have p := u.reviews_nothingPlaced 1
  have port (w : Station) (h : w.port = { u.port with timingCause := w.port.timingCause }) :
      w.port.watchdog = u.port.watchdog ∧ w.port.seatCause = u.port.seatCause := by
    rw [h]
    exact ⟨rfl, rfl⟩
  obtain ⟨dog, cause⟩ := port _ f.port
  exact ⟨f.lane, f.roster, dog, cause, p.refresh⟩

/-- R26, R86: a change to a state that leaves the transmit gate open marks no entry missed. -/
theorem Station.enterSeat_open_copies (s : Station) (new : SeatState) (h : new ≠ .active)
    (ho : closesGate new = false) : (s.enterSeat new).sched.periodic = s.sched.periodic ∧
      (s.enterSeat new).port.missedCause = s.port.missedCause := by
  let u := s.announceSeat new
  have f := Station.reviews_frame (u.closeGates).seatTimers 1
  have state : u.closeGates.seat.state = new := by rw [Station.closeGates_seat]; rfl
  obtain ⟨tsched, -, tmissed⟩ := Station.seatTimers_inactive u.closeGates (by rw [state]; exact h)
  have gates : u.closeGates.sched = s.sched ∧ u.closeGates.port.missedCause = s.port.missedCause := by
    unfold Station.closeGates
    cases hm : markGate new <;> simp [u, hm, ho, Station.announceSeat]
  refine ⟨f.periodic.trans (congrArg Sched.periodic (tsched.trans gates.1)), ?_⟩
  exact (congrArg Port.missedCause f.port).trans (tmissed.trans gates.2)

/-- R34: a JOIN removed after four flawed attempts. -/
theorem Station.joinFlawed_spec (s : Station) :
    s.joinFlawed.seat = { s.seat with state := .listen, listenCount := 0, drain := none } ∧
      s.joinFlawed.lane = { s.lane with marks := Marks.none } ∧
      s.joinFlawed.sched.express = s.sched.express ∧ s.joinFlawed.sched.bulk = s.sched.bulk ∧
      s.joinFlawed.sched.completions = s.sched.completions ∧ s.joinFlawed.sched.periodic = s.sched.periodic ∧
      s.joinFlawed.port.missedCause = s.port.missedCause ∧
      s.joinFlawed.roster = { s.roster with silence := none } ∧
      (∀ x ∈ s.joinFlawed.sched.control, x ∈ s.sched.control ∨ x.kind = .alarm) ∧
      s.joinFlawed.alarm.has joinFailed = true ∧ EnterFrame s s.joinFlawed := by
  have f := (s.enterSeat .listen).raiseInternal_frame joinFailed
  obtain ⟨lane, express, bulk, completions, control⟩ := s.enterSeat_open .listen (by decide) rfl
  obtain ⟨periodic, missed⟩ := s.enterSeat_open_copies .listen (by decide) rfl
  obtain ⟨roster, -⟩ := s.enterSeat_inactive .listen (by decide)
  refine ⟨f.seat.trans (s.enterSeat_seat_inactive .listen (by decide)), f.lane.trans lane,
    f.express.trans express, f.bulk.trans bulk, f.completions.trans completions, f.periodic.trans periodic,
    (congrArg Port.missedCause f.port).trans missed, f.roster.trans roster, fun x hx => ?_,
    AlarmUnit.has_of_raised (Station.raiseInternal_raised _ joinFailed (by decide)) (by decide),
    (s.enterSeat_frame .listen).trans f.toReview.toEnter⟩
  by_cases kind : x.kind = .alarm
  · exact .inr kind
  · exact .inl (control.mem (f.control.mem hx kind) kind)

/-! ### The list seq at the end of a JOIN -/

/-- R162: reviews raise HOLDOVER_EXPIRED alone. -/
theorem HoldoverRaised.has_other {s t : Station} (h : HoldoverRaised s t) {code : Word16} (hc : code ≠ alarmViewFull)
    (ho : code ≠ holdoverExpired) : t.alarm.has code = s.alarm.has code := by
  rcases h with ⟨h1, -⟩ | ⟨-, -, -, x, hx, h4⟩
  · unfold AlarmUnit.has
    rw [h1]
  · have rest : t.alarm.ownRest = s.alarm.ownRest ++ [x] := h4
    rw [t.alarm.has_eq_rest code hc, s.alarm.has_eq_rest code hc, rest, List.any_append]
    simp [hx, Ne.symm ho]

/-- R170: an internal clear leaves the other codes. -/
theorem Station.clearInternal_has_other (s : Station) (cleared : Word16) {code : Word16} (hc : code ≠ alarmViewFull)
    (ho : code ≠ cleared) : (s.clearInternal cleared).alarm.has code = s.alarm.has code := by
  have rest : (s.clearInternal cleared).alarm.ownRest = s.alarm.ownRest.filter _ := s.clearInternal_cleared cleared
  rw [(s.clearInternal cleared).alarm.has_eq_rest code hc, s.alarm.has_eq_rest code hc, rest, List.any_filter]
  congr 1
  funext e
  by_cases he : e.code = code
  · simp [he, ho]
  · simp [he]

theorem listSeqRoseBy_congr {n : Nat} {s s' t t' : Station} (h1 : s'.alarm.own = s.alarm.own)
    (h2 : s'.alarm.ownSeq = s.alarm.ownSeq) (g1 : t'.alarm.own = t.alarm.own) (g2 : t'.alarm.ownSeq = t.alarm.ownSeq)
    (h : ListSeqRoseBy n s t) : ListSeqRoseBy n s' t' := by
  induction n generalizing t t' with
  | zero => exact ⟨(g1.trans h.1).trans h1.symm, (g2.trans h.2).trans h2.symm⟩
  | succ n ih =>
    obtain ⟨m, before, rose⟩ := h
    exact ⟨m, ih rfl rfl before, listSeqRose_congr rfl rfl g1 g2 rose⟩

/-- R33, R172: the list seq over an entry to ACTIVE by an own JOIN. -/
theorem Station.joinDelivered_seqRoseBy (s : Station) :
    ListSeqRoseBy
      ((s.joinDelivered.alarm.has holdoverExpired && !s.alarm.has holdoverExpired).toNat +
        (s.alarm.has joinFailed).toNat)
      { s with alarm := { s.alarm with ownSeq := s.alarm.ownSeq + 1 } } s.joinDelivered := by
  have entered := s.enterSeat_holdoverRaised .active
  have failed : (s.enterSeat .active).alarm.has joinFailed = s.alarm.has joinFailed :=
    entered.has_other (by decide) (by decide)
  have expired : s.joinDelivered.alarm.has holdoverExpired = (s.enterSeat .active).alarm.has holdoverExpired :=
    Station.clearInternal_has_other _ joinFailed (by decide) (by decide)
  have rose := entered.seqRoseBy
  rw [expired]
  cases h : s.alarm.has joinFailed with
  | true =>
    exact ⟨s.enterSeat .active, listSeqRoseBy_congr rfl rfl rfl rfl rose,
      Station.clearInternal_seqRose _ joinFailed (failed.trans h) (by decide)⟩
  | false =>
    have same : s.joinDelivered = s.enterSeat .active := if_neg (by simp [failed, h])
    rw [same]
    exact listSeqRoseBy_congr rfl rfl rfl rfl rose

/-- R33: a JOIN delivered. -/
theorem Station.joinDelivered_spec (s : Station) :
    s.joinDelivered.seat = { s.seat with state := .active, listenCount := 0, reachedActive := true, drain := none } ∧
      s.joinDelivered.lane = s.lane ∧ s.joinDelivered.alarm.has joinFailed = false ∧
      s.joinDelivered.roster = { s.roster with silence := some (s.localTime + 10000000) } ∧
      s.joinDelivered.alarm.refresh = some (s.localTime + 6000000) ∧ s.joinDelivered.port.seatCause = true ∧
      s.joinDelivered.port.watchdog = s.port.watchdogIn true s.localTime ∧ EnterFrame s s.joinDelivered := by
  have f := (s.enterSeat .active).clearInternal_frame joinFailed
  obtain ⟨lane, roster, dog, cause, refresh⟩ := s.enterSeat_active
  refine ⟨f.seat.trans ((s.enterSeat_seat .active).trans ?_), f.lane.trans lane,
    AlarmUnit.not_has_of_cleared (Station.clearInternal_cleared _ joinFailed) (by decide), f.roster.trans roster,
    (Station.clearInternal_nothingPlaced _ joinFailed).refresh.trans refresh,
    (congrArg Port.seatCause f.port).trans cause, (congrArg Port.watchdog f.port).trans dog,
    (s.enterSeat_frame .active).trans f.toReview.toEnter⟩
  simp

/-- R8, R17, R43: the end of an attempt clears the mismatch count at most. -/
theorem ended_seat (s : Station) (a : Attempt) :
    (ended s a).seat = { s.seat with mismatch := (ended s a).seat.mismatch } := by
  unfold ended
  dsimp only
  split <;> rfl

end Sys2Proof.Machine

namespace Sys2Proof.Slice0

/-- Settles O25. -/
theorem joinAndLeaveEndsMoveTheSeat : Obligations.JoinAndLeaveEndsMoveTheSeat := by
  intro s a e rest flaw taken refused hold attempt phase control queue onLane all untagged uncopied unmarked clean
  let left : Station := { ended s.toStation a with sched := s.sched.setQueue .control rest }
  let r := resultRead a.readbackFault (decide (e.dest = .all)) flaw taken refused
  have run := exec_attemptResult (s := s) flaw taken refused hold attempt phase (by rw [control]; exact queue) onLane
  rw [control] at run
  obtain ⟨sound, flawed⟩ : (a.readbackFault = false ∧ flaw = false → r = .delivered) ∧
      (a.readbackFault = true ∨ flaw = true → r = .flaw) := by
    show (_ → resultRead a.readbackFault (decide (e.dest = .all)) flaw taken refused = _) ∧
      (_ → resultRead a.readbackFault (decide (e.dest = .all)) flaw taken refused = _)
    rw [all]
    exact resultRead_broadcast _ _ _ _
  have answer {u : Station}
      (h : (ended s.toStation a).settleFate .control rest (e.fate r false a.start s.localTime) = u) :
      exec (.attemptResult flaw taken refused) s = .next { s with toStation := closing u } :=
    run.trans (congrArg (fun u => Host.Outcome.next { s with toStation := closing u }) h)
  have leaves (ends : r = .delivered ∨ r = .flaw ∧ (e.withdrawn = true ∨ 3 ≤ e.faults)) :
      ∃ e', e'.kind = e.kind ∧ e'.withdrawn = e.withdrawn ∧
        (ended s.toStation a).settleFate .control rest (e.fate r false a.start s.localTime) =
          left.tellOwner e' (if r = .delivered then .delivered else .unheard) := by
    obtain ⟨e', fate, ht, hp, hk, hw⟩ := Entry.fate_ends false a.start s.localTime unmarked ends
    refine ⟨e', hk, hw, ?_⟩
    rw [fate]
    exact congrArg (Station.tellOwner · e' _) (Station.retire_internal _ _ (ht.trans untagged) (hp.trans uncopied))
  have leftSeat : left.seat = { s.seat with mismatch := clean } := ended_seat _ _
  refine ⟨fun kind withdrawn => ?_, fun kind joining staying => ⟨fun sent read => ?_, fun read faults => ?_⟩,
    fun kind leaving staying ends => ?_, fun kind staying read early => ?_⟩
  · have settled : r = .delivered ∨ r = .flaw := by
      by_cases h : a.readbackFault = true ∨ flaw = true
      · exact .inr (flawed h)
      · exact .inl (sound (by simpa using h))
    obtain ⟨e', hk, hw, gone⟩ := leaves (settled.imp_right fun h => ⟨h, .inl withdrawn⟩)
    exact answer (gone.trans (Station.tellOwner_withdrawn _ _ (by rwa [hk]) (hw.trans withdrawn)))
  · have delivered := sound ⟨sent, read⟩
    obtain ⟨e', hk, hw, gone⟩ := leaves (.inl delivered)
    have joins : left.tellOwner e' (if r = .delivered then .delivered else .unheard) = left.joinDelivered := by
      simp [Station.tellOwner, hk, kind, hw, staying, leftSeat, joining, delivered]
    have mismatch : clean = 0 := by
      show (ended s.toStation a).seat.mismatch = 0
      simp [ended, sent, joining]
    obtain ⟨seat, lane, failed, roster, refresh, cause, dog, frame⟩ := left.joinDelivered_spec
    obtain ⟨-, -, cseat, clane, calarm, croster, -, cport⟩ := left.joinDelivered.closing_frame
    have rose := left.joinDelivered_seqRoseBy
    have alarm : left.alarm = s.alarm := rfl
    rw [alarm] at rose
    have frame' := frame.closing
    rw [leftSeat, mismatch] at seat
    have after := answer (gone.trans joins)
    generalize closing left.joinDelivered = t at after cseat clane calarm croster cport frame'
    have dog' : t.port.watchdog = s.port.watchdogIn true s.localTime := (congrArg Port.watchdog cport).trans dog
    refine ⟨_, after, cseat.trans seat, (congrArg Lane.attempt clane).trans (congrArg Lane.attempt lane),
      (congrArg (AlarmUnit.has · joinFailed) calarm).trans failed, croster.trans roster ▸ rfl,
      (congrArg AlarmUnit.refresh calarm).trans refresh, (congrArg Port.seatCause cport).trans cause,
      fun h => dog'.trans ?_, fun h => dog'.trans ?_, ?_, frame'⟩
    · simp [Port.watchdogIn, h, Config.watchdogUnit, Config.ms]
    · simp [Port.watchdogIn, h]
    · show ListSeqRoseBy ((t.alarm.has holdoverExpired && _).toNat + _) _ t
      rw [calarm]
      refine listSeqRoseBy_congr ?_ ?_ (congrArg AlarmUnit.own calarm) (congrArg AlarmUnit.ownSeq calarm) rose
      · rfl
      · rfl
  · have lost := flawed read
    obtain ⟨e', hk, hw, gone⟩ := leaves (.inr ⟨lost, .inr faults.ge⟩)
    have fails : left.tellOwner e' (if r = .delivered then .delivered else .unheard) = left.joinFlawed := by
      simp [Station.tellOwner, hk, kind, hw, staying, leftSeat, joining, lost]
    obtain ⟨seat, lane, express, bulk, completions, -, -, -, rest', failed, frame⟩ := left.joinFlawed_spec
    have frame' := frame.closing
    have after := answer (gone.trans fails)
    obtain ⟨o, quiet⟩ := left.joinFlawed.closing_quiet (by rw [seat]; rfl)
    rw [leftSeat] at seat
    rw [quiet] at after frame'
    generalize left.joinFlawed = w at after seat lane express bulk completions rest' failed frame'
    exact ⟨_, after, seat, congrArg Lane.attempt lane, failed, rest', express, bulk, completions, frame'⟩
  · have ends' : r = .delivered ∨ r = .flaw ∧ (e.withdrawn = true ∨ 3 ≤ e.faults) := by
      by_cases h : a.readbackFault = true ∨ flaw = true
      · exact .inr ⟨flawed h, .inr (ends.resolve_left fun c => by simp [c] at h).ge⟩
      · exact .inl (sound (by simpa using h))
    obtain ⟨e', hk, hw, gone⟩ := leaves ends'
    have goes : left.tellOwner e' (if r = .delivered then .delivered else .unheard) = left.enterSeat .gone := by
      simp [Station.tellOwner, hk, kind, hw, staying, leftSeat, leaving]
    obtain ⟨seat, -, safe, gate, frame⟩ := left.closing_enterSeat_closed .gone rfl hold
    rw [leftSeat] at seat
    have after := answer (gone.trans goes)
    generalize closing (left.enterSeat .gone) = t at after seat safe gate frame
    exact ⟨_, after, seat, safe, gate.2.2.2.1, gate, frame⟩
  · have stays : ¬ (3 ≤ e.faults ∨ (e.periodic ≠ none ∧ 3 ≤ e.attempts) ∨ e.withdrawn = true) := by
      simp [uncopied, staying, Nat.not_le.2 early]
    refine answer ?_
    rw [Entry.fate_fault false a.start s.localTime unmarked (.inl (flawed read)), if_neg stays]
    rfl

end Sys2Proof.Slice0
end

section
/-! SUPPORT. A key not won (R6, R71 to R73): the frame after LOST and after FLAW, and the reports that follow. -/

-- One theorem after another: the check's data limit has no room for a thread for each.
set_option Elab.async false

open Sys2Proof Sys2Proof.Machine Sys2Proof.Safety Sys2Proof.Slice0

namespace Sys2Proof.Machine

/-! ### Contention -/

/-- R6: where the one contender loses, the other has driven dominant and read recessive. -/
theorem contendBits_flaw_of_lost {own lane : List Bool} (h : contendBits own lane = some .lost) :
    contendBits lane own = some .flaw := by
  induction own generalizing lane with
  | nil => cases h
  | cons o own ih =>
    cases lane with
    | nil => cases h
    | cons b lane =>
      unfold contendBits at h ⊢
      by_cases same : o = b
      · rw [if_pos same] at h
        rw [if_pos same.symm]
        exact ih h
      · rw [if_neg same] at h
        rw [if_neg (Ne.symm same)]
        cases o <;> cases b <;> simp_all

/-- R6: against a higher key on the lane the own key is flawed. -/
theorem contend_eq_flaw_of_lt {own lane : Byte} (h : own.toNat < lane.toNat) : contend own lane = some .flaw :=
  contendBits_flaw_of_lost (contend_eq_lost_of_lt h)

/-- R2: the line behind a key byte. -/
theorem keyLine_body (l : Lane) (key : Byte) : (keyLine l key).line = .body ↔ l.line = .key ∨ l.line = .body := by
  unfold keyLine
  split <;> simp [*]

/-! ### What the end of a contention keeps -/

theorem withMissed_keeps (s : Station) (i : Fin 4) :
    (withMissed s i).seat = s.seat ∧ (withMissed s i).lane = s.lane ∧ (withMissed s i).hold = s.hold := by
  unfold withMissed
  dsimp only
  split <;> exact ⟨rfl, rfl, rfl⟩

/-- R34, R38, R75: a frame that is withdrawn, or a card frame, moves no seat state where it ends. -/
theorem Station.tellOwner_keeps_seat (s : Station) {e : Entry} (o : FrameOutcome)
    (h : e.withdrawn = true ∨ e.kind = .data) :
    (s.tellOwner e o).seat = s.seat ∧ (s.tellOwner e o).lane = s.lane ∧ (s.tellOwner e o).hold = s.hold := by
  unfold Station.tellOwner
  cases kind : e.kind with
  | data | rollcall | beacon => exact ⟨rfl, rfl, rfl⟩
  | alarm => dsimp only; split <;> exact ⟨rfl, rfl, rfl⟩
  | join | leave =>
    have withdrawn : e.withdrawn = true := h.resolve_right (by simp [kind])
    simp [withdrawn]

/-- R71, R80: LOST moves no seat state. -/
theorem Station.settleFate_lost_keeps (v : Station) (q : FrameClass) (e : Entry) (rest : List Entry) (c : Bool)
    (start : Option Stamp) (now : Nat) (h : e.pending = none ∨ e.kind = .data) :
    let w := v.settleFate q rest (e.fate .lost c start now)
    w.seat = v.seat ∧ w.lane = v.lane ∧ w.hold = v.hold := by
  have leaves (o : FrameOutcome) (h : e.lost.withdrawn = true ∨ e.lost.kind = .data) :
      let w := v.settleFate q rest (.leaves e.lost o)
      w.seat = v.seat ∧ w.lane = v.lane ∧ w.hold = v.hold := by
    have f := (withQueue v q rest).retire_queueFrame e.lost o
    obtain ⟨seat, lane, hold⟩ := ((withQueue v q rest).retire e.lost o).tellOwner_keeps_seat o h
    exact ⟨seat.trans f.seat, lane.trans f.lane, hold.trans f.hold⟩
  unfold Entry.fate
  cases pending : e.pending with
  | some o => exact leaves o (.inr (h.resolve_left (by simp [pending])))
  | none =>
    dsimp only
    split
    next withdrawn => exact leaves .flushed (.inl withdrawn)
    · exact ⟨rfl, rfl, rfl⟩

/-! ### The frame after LOST and after FLAW -/

/-- R68, R148: the end of a BEACON, JOIN or LEAVE that its owner has withdrawn. -/
theorem Station.settleFate_withdrawn (v : Station) (q : FrameClass) {e e' : Entry} (rest : List Entry)
    (o : FrameOutcome) (h : WithdrawnOwn e) (hk : e'.kind = e.kind) (ht : e'.tag = e.tag)
    (hp : e'.periodic = e.periodic) (hw : e'.withdrawn = e.withdrawn) :
    v.settleFate q rest (.leaves e' o) = withdrawnGone (withQueue v q rest) e := by
  obtain ⟨withdrawn, untagged, uncopied, -, kind⟩ := h
  show ((withQueue v q rest).retire e' o).tellOwner e' o = _
  rw [Station.retire_internal _ o (ht.trans untagged) (hp.trans uncopied)]
  unfold withdrawnGone
  rcases kind with kind | kind
  · rw [if_pos kind, Station.tellOwner_beacon _ o (hk.trans kind)]
  · have plain : e.kind ≠ .beacon := by rcases kind with kind | kind <;> simp [kind]
    rw [if_neg plain, Station.tellOwner_withdrawn _ o (by rwa [hk]) (hw.trans withdrawn)]

/-- R71, R80, R86: the rule of LOST. -/
theorem Station.settleFate_lost {v u : Station} {q : FrameClass} {e : Entry} {rest : List Entry} (c : Bool)
    (start : Option Stamp) (now : Nat) (h : AfterLost v q e rest u) :
    v.settleFate q rest (e.fate .lost c start now) = u := by
  rcases h with ⟨pending, staying, rfl⟩ | ⟨tag, o, kind, tagged, pending, rfl⟩ |
    ⟨i, o, kind, untagged, copy, pending, undelivered, rfl⟩ | ⟨own, rfl⟩
  · have fate : e.fate .lost c start now = .stays e.lost := by simp [Entry.fate, pending, staying]
    rw [fate]
    rfl
  · simp only [Entry.fate, pending]
    show ((withQueue v q rest).retire e.lost o).tellOwner e.lost o = _
    rw [Station.retire_tagged _ (e := e.lost) o tagged, Station.tellOwner_data _ (e := e.lost) o kind]
    rfl
  · simp only [Entry.fate, pending]
    show ((withQueue v q rest).retire e.lost o).tellOwner e.lost o = _
    rw [Station.retire_copy _ (e := e.lost) o untagged copy, Station.tellOwner_data _ (e := e.lost) o kind,
      if_neg undelivered]
  · obtain ⟨withdrawn, -, -, pending, -⟩ := id own
    have fate : e.fate .lost c start now = .leaves e.lost .flushed := by simp [Entry.fate, pending, withdrawn]
    rw [fate]
    exact v.settleFate_withdrawn q rest .flushed own rfl rfl rfl rfl

/-- R72, R73, R75, R80, R86: the rule of a FLAW that has won nothing. -/
theorem Station.settleFate_flaw {v u : Station} {q : FrameClass} {e : Entry} {rest : List Entry} (c : Bool)
    (now : Nat) (h : AfterFlaw v q e rest u) : v.settleFate q rest (e.fate .flaw c none now) = u := by
  have retired {e' : Entry} {o : FrameOutcome} (fate : e.fate .flaw c none now = .leaves e' o) :
      v.settleFate q rest (e.fate .flaw c none now) = ((withQueue v q rest).retire e' o).tellOwner e' o := by
    rw [fate]
    rfl
  rcases h with ⟨faults, copies, pending, staying, rfl⟩ | ⟨tag, o, kind, tagged, single, ends, rfl⟩ |
    ⟨i, kind, untagged, copy, ends, rfl⟩ | ⟨own, rfl⟩ | ⟨own, spent⟩
  · have stays : ¬ (3 ≤ e.faults ∨ (e.periodic ≠ none ∧ 3 ≤ e.attempts) ∨ e.withdrawn = true) := by
      rintro (h | ⟨h1, h2⟩ | h)
      · omega
      · exact copies.elim h1 fun h => by omega
      · simp [staying] at h
    rw [Entry.fate_fault c none now pending (.inl rfl), if_neg stays]
    rfl
  · obtain ⟨e', fate, hk, ht, attempts, last⟩ : ∃ e', e.fate .flaw c none now = .leaves e' o ∧ e'.kind = e.kind ∧
        e'.tag = e.tag ∧ e'.attempts = e.attempts + 1 ∧ e'.lastStart = e.lastStart := by
      rcases ends with pending | ⟨pending, faults, rfl⟩
      · obtain ⟨e', fate, hk, ht, -, attempts, last⟩ := Entry.fate_pending (r := .flaw) c none now pending (.inl rfl)
        exact ⟨e', fate, hk, ht, attempts, last⟩
      · refine ⟨{ e.counted none with faults := e.faults + 1 }, ?_, rfl, rfl, rfl, rfl⟩
        rw [Entry.fate_fault c none now pending (.inl rfl), if_pos (.inl faults)]
    rw [retired fate, Station.retire_tagged _ o (ht.trans tagged), Station.tellOwner_data _ o (hk.trans kind),
      attempts, last]
  · obtain ⟨e', o, fate, hk, ht, hp, undelivered⟩ : ∃ e' o, e.fate .flaw c none now = .leaves e' o ∧
        e'.kind = e.kind ∧ e'.tag = e.tag ∧ e'.periodic = e.periodic ∧ o ≠ .delivered := by
      rcases ends with ⟨o, pending, undelivered⟩ | ⟨pending, spent⟩
      · obtain ⟨e', fate, hk, ht, hp, -⟩ := Entry.fate_pending (r := .flaw) c none now pending (.inl rfl)
        exact ⟨e', o, fate, hk, ht, hp, undelivered⟩
      · refine ⟨{ e.counted none with faults := e.faults + 1 }, .unheard, ?_, rfl, rfl, rfl, by simp⟩
        rw [Entry.fate_fault c none now pending (.inl rfl),
          if_pos (spent.imp_right fun h => .inl ⟨by simp [copy], h⟩)]
    rw [retired fate, Station.retire_copy _ o (ht.trans untagged) (hp.trans copy),
      Station.tellOwner_data _ o (hk.trans kind), if_neg undelivered]
  · obtain ⟨withdrawn, -, -, pending, -⟩ := id own
    obtain ⟨e', fate, ht, hp, hk, hw⟩ := Entry.fate_ends (r := .flaw) c none now pending (.inr ⟨rfl, .inl withdrawn⟩)
    rw [fate]
    exact v.settleFate_withdrawn q rest _ own hk ht hp hw
  · obtain ⟨-, untagged, uncopied, pending, faults⟩ := own
    obtain ⟨e', fate, ht, hp, hk, -⟩ := Entry.fate_ends (r := .flaw) c none now pending (.inr ⟨rfl, .inr faults⟩)
    rw [retired fate, Station.retire_internal _ _ (ht.trans untagged) (hp.trans uncopied)]
    rcases spent with ⟨kind, rfl⟩ | ⟨kind, rfl⟩ | ⟨kind, rfl⟩
    · exact Station.tellOwner_rollcall _ _ (hk.trans kind)
    · exact Station.tellOwner_beacon _ _ (hk.trans kind)
    · rw [Station.tellOwner_alarm _ _ (hk.trans kind)]
      rfl

/-- R71, R80: the frames to which the rule of LOST applies. -/
theorem afterLost_plain {v u : Station} {q : FrameClass} {e : Entry} {rest : List Entry}
    (h : AfterLost v q e rest u) : e.pending = none ∨ e.kind = .data := by
  rcases h with ⟨pending, -⟩ | ⟨-, -, kind, -⟩ | ⟨-, -, kind, -⟩ | ⟨⟨-, -, -, pending, -⟩, -⟩
  · exact .inl pending
  · exact .inr kind
  · exact .inr kind
  · exact .inl pending

theorem afterLost_keeps {v u : Station} {q : FrameClass} {e : Entry} {rest : List Entry}
    (h : AfterLost v q e rest u) : u.seat = v.seat ∧ u.lane = v.lane ∧ u.hold = v.hold := by
  have keeps := v.settleFate_lost_keeps q e rest false none 0 (afterLost_plain h)
  rwa [Station.settleFate_lost _ _ _ h] at keeps

/-- R72, R80: such a FLAW moves no seat state. -/
theorem afterFlaw_keeps {v u : Station} {q : FrameClass} {e : Entry} {rest : List Entry}
    (h : AfterFlaw v q e rest u) : u.seat = v.seat ∧ u.lane = v.lane ∧ u.hold = v.hold := by
  rcases h with ⟨-, -, -, -, rfl⟩ | ⟨tag, o, -, -, -, -, rfl⟩ | ⟨i, -, -, -, -, rfl⟩ | ⟨-, rfl⟩ |
    ⟨-, ⟨-, rfl⟩ | ⟨-, rfl⟩ | ⟨-, rfl⟩⟩
  · exact ⟨rfl, rfl, rfl⟩
  · exact ⟨rfl, rfl, rfl⟩
  · exact withMissed_keeps (withQueue v q rest) i
  · exact ⟨rfl, rfl, rfl⟩
  · exact ⟨rfl, rfl, rfl⟩
  · exact ⟨rfl, rfl, rfl⟩
  · exact ⟨rfl, rfl, rfl⟩

/-- R43: two reports in a row, over a station that counts them. -/
theorem Station.closing_mismatch_second {u : Station} (hold : u.hold = false) (counts : CountsReadback u)
    (second : 1 ≤ u.seat.mismatch) :
    let t := closing u.readbackMismatch
    t.seat = { u.seat with state := .clashed, listenCount := 0, mismatch := 2, drain := none } ∧
      GateClosed u t ∧ SeatFrame u t ∧ t.alarm.has slotClash = true := by
  obtain ⟨seat, -, -, gate, frame, raised⟩ :=
    Station.closing_enterClashed { u with seat := { u.seat with mismatch := 2 } } hold
  rw [Station.readbackMismatch_second counts second]
  generalize closing (Station.enterClashed { u with seat := { u.seat with mismatch := 2 } }) = t
    at seat gate frame raised
  exact ⟨seat, gate, frame, raised⟩

theorem Station.readbackMismatch_frame (s : Station) : EnterFrame s s.readbackMismatch := by
  have counted (n : Nat) : EnterFrame s { s with seat := { s.seat with mismatch := n } } := by constructor <;> rfl
  unfold Station.readbackMismatch
  dsimp only
  split
  · split
    · exact ((counted _).trans (Station.enterSeat_frame _ .clashed)).trans
        (Station.raiseInternal_frame _ slotClash).toReview.toEnter
    · exact counted _
  · exact .refl s

/-- R18: with no attempt in progress, what a closing gate leaves depends on the card queues and the records alone. -/
theorem gateClosed_of_idle {s w t : Station} (h : GateClosed w t) (idle : w.lane.attempt = none)
    (idle' : s.lane.attempt = none) (express : w.sched.express = s.sched.express)
    (bulk : w.sched.bulk = s.sched.bulk) (completions : w.sched.completions = s.sched.completions)
    (periodic : w.sched.periodic = s.sched.periodic) (missed : w.port.missedCause = s.port.missedCause)
    (roster : ({ w.roster with silence := none } : Roster) = { s.roster with silence := none }) :
    GateClosed s t := by
  have cut : cutOf w = none := by rw [cutOf, idle]
  have cut' : cutOf s = none := by rw [cutOf, idle']
  have keeps (q : FrameClass) (same : w.sched.queue q = s.sched.queue q) : gateKeeps w q = gateKeeps s q := by
    unfold gateKeeps
    rw [cut, cut', same]
  refine gateClosed_of_same h ?_ (keeps _ express) (keeps _ bulk) (by rw [idle, idle']) completions periodic missed
    roster
  unfold gateDrops
  rw [cut, cut', express, bulk]

end Sys2Proof.Machine

namespace Sys2Proof.Slice0

/-- Settles O22. -/
theorem keyNotWonLosesOrFlaws : Obligations.KeyNotWonLosesOrFlaws := by
  intro s a e rest key hold attempt phase started queue onLane v left answers clashed
  let read : Station := { s.toStation with lane := keyLine s.lane key }
  have run := exec_keyComplete_contending key hold attempt phase
  have handed (r : AttemptEnd) : read.handResult a r =
      v.settleFate a.queue rest (e.fate r (a.phase = .contending) none s.localTime) := by
    rw [Station.handResult_of_head (s := read) r queue onLane, started]
    rfl
  have lost (h : key.toNat < a.key.toNat) : exec (.keyComplete key) s = .next { s with
      toStation := closing
        ((v.settleFate a.queue rest (e.fate .lost (a.phase = .contending) none s.localTime)).judgeKey key) } := by
    refine run.trans (congrArg (fun u => Host.Outcome.next { s with toStation := closing u }) ?_)
    rw [← handed]
    unfold Station.contenderKey
    rw [contend_eq_lost_of_lt h]
  have flawed (h : a.key.toNat < key.toNat) : exec (.keyComplete key) s = .next { s with
      toStation := closing
        (v.settleFate a.queue rest (e.fate .flaw (a.phase = .contending) none s.localTime)).readbackMismatch } := by
    refine run.trans (congrArg (fun u => Host.Outcome.next { s with toStation := closing u }) ?_)
    rw [← handed]
    unfold Station.contenderKey
    rw [contend_eq_flaw_of_lt h]
  have spent (own : SpentOwn e) : ∃ e' : Entry, e'.kind = e.kind ∧ e'.withdrawn = false ∧
      v.settleFate a.queue rest (e.fate .flaw (a.phase = .contending) none s.localTime) =
        left.tellOwner e' .unheard := by
    obtain ⟨staying, untagged, uncopied, pending, faults⟩ := own
    obtain ⟨e', fate, ht, hp, hk, hw⟩ := Entry.fate_ends (r := .flaw) (a.phase = .contending) none s.localTime
      pending (.inr ⟨rfl, .inr faults⟩)
    refine ⟨e', hk, hw.trans staying, ?_⟩
    rw [fate]
    exact congrArg (Station.tellOwner · e' .unheard)
      (Station.retire_internal left .unheard (ht.trans untagged) (hp.trans uncopied))
  refine ⟨fun lower deaf u after => ?_, fun lower own line => ⟨fun moves plain => ?_, fun rests u after => ?_⟩,
    fun higher => ⟨fun quiet u after => ?_, fun counts second u after => ?_, fun own kind joining => ?_,
      fun own kind leaving => ?_⟩⟩
  · refine (lost lower).trans (congrArg (fun u => Host.Outcome.next { s with toStation := closing u }) ?_)
    obtain ⟨seat, lane, -⟩ := afterLost_keeps after
    rw [Station.settleFate_lost _ _ _ after]
    refine if_neg ?_
    have body : u.lane.line = .body ↔ s.lane.line = .key ∨ s.lane.line = .body := by
      rw [lane]
      exact keyLine_body s.lane key
    simp only [Bool.and_eq_true, decide_eq_true_eq, body, seat]
    rintro ⟨h1, h2⟩
    exact deaf.elim (fun h => h h2) fun h => h1.elim h.1 h.2
  · have ran := lost lower
    obtain ⟨seat, lane, unheld⟩ :=
      v.settleFate_lost_keeps a.queue e rest (a.phase = .contending) none s.localTime plain
    have settled {u : Station} := Station.settleFate_lost (v := v) (u := u) (q := a.queue) (e := e) (rest := rest)
      (a.phase = .contending) none s.localTime
    generalize v.settleFate a.queue rest (e.fate .lost (a.phase = .contending) none s.localTime) = w
      at ran seat lane unheld settled
    have body : w.lane.line = .body := by
      rw [lane]
      exact (keyLine_body s.lane key).2 (.inl line)
    have clash : w.judgeKey key = w.enterClashed := by
      unfold Station.judgeKey Station.ownKeyHeard
      rw [if_pos (by simp [body, own, seat, v]), seat]
      rcases moves with h | h | h | h <;> simp only [v, h]
    obtain ⟨state, -, -, gate, frame, raised⟩ := w.closing_enterClashed (unheld.trans hold)
    rw [clash] at ran
    refine ⟨_, ran, ⟨state.trans (by rw [seat]), ?_, raised⟩, fun u after => ?_⟩
    · exact gate.2.2.2.1.trans (by rw [lane]; rfl)
    · rw [← settled after]
      exact ⟨gate, frame⟩
  · refine (lost lower).trans (congrArg (fun u => Host.Outcome.next { s with toStation := closing u }) ?_)
    obtain ⟨seat, -, -⟩ := afterLost_keeps after
    rw [Station.settleFate_lost _ _ _ after]
    unfold Station.judgeKey Station.ownKeyHeard
    rw [seat]
    split
    · rcases rests with h | h | h | h | h <;> simp only [v, h]
    · rfl
  · refine (flawed higher).trans (congrArg (fun u => Host.Outcome.next { s with toStation := closing u }) ?_)
    obtain ⟨seat, -, -⟩ := afterFlaw_keeps after
    rw [Station.settleFate_flaw _ _ after]
    by_cases counts : CountsReadback s.toStation
    · rw [if_pos counts, Station.readbackMismatch_first (by rw [CountsReadback, seat]; exact counts)
        (by rw [seat]; exact quiet.resolve_left fun h => h counts), seat]
    · rw [if_neg counts, Station.readbackMismatch_uncounted (by rw [CountsReadback, seat]; exact counts)]
      exact (congrArg (fun c => ({ u with seat := c } : Station)) seat :)
  · have ran := flawed higher
    obtain ⟨seat, lane, unheld⟩ := afterFlaw_keeps after
    rw [Station.settleFate_flaw _ _ after] at ran
    obtain ⟨state, gate, frame, raised⟩ := Station.closing_mismatch_second (unheld.trans hold)
      (by rw [CountsReadback, seat]; exact counts) (by rw [seat]; exact second)
    exact ⟨_, ran, ⟨state.trans (by rw [seat]), gate.2.2.2.1.trans (by rw [lane]; rfl), raised⟩, gate, frame⟩
  · have ran := flawed higher
    obtain ⟨e', hk, staying, ended⟩ := spent own
    have fails : left.tellOwner e' .unheard = left.joinFlawed := by
      have state : left.seat.state = .joining := joining
      simp [Station.tellOwner, hk, kind, staying, state]
    obtain ⟨seat, lane, express, bulk, completions, periodic, missed, roster, -, failed, frame⟩ := left.joinFlawed_spec
    rw [ended, fails] at ran
    generalize left.joinFlawed = w at ran seat lane express bulk completions periodic missed roster failed frame
    have counts : CountsReadback w := by rw [CountsReadback, seat]; exact .inr (.inl rfl)
    have cleared : w.lane.attempt = none := congrArg Lane.attempt lane
    have frame' : SeatFrame left (closing w.readbackMismatch) := (frame.trans w.readbackMismatch_frame).closing
    rcases Nat.eq_zero_or_pos s.seat.mismatch with first | second
    · rw [Station.readbackMismatch_first counts (by rw [seat]; exact first)] at ran frame'
      obtain ⟨o, idle⟩ := Station.closing_quiet { w with seat := { w.seat with mismatch := 1 } } (by rw [seat]; rfl)
      rw [idle] at ran frame'
      refine ⟨_, ran, cleared, failed, frame', fun _ => ⟨?_, express, bulk, completions⟩, fun h => by omega⟩
      show ({ w.seat with mismatch := 1 } : Seat) = _
      rw [seat]
      rfl
    · have second' : 1 ≤ w.seat.mismatch := by rw [seat]; exact second
      obtain ⟨state, gate, -, raised⟩ := Station.closing_mismatch_second (frame.hold.trans hold) counts second'
      obtain ⟨-, -, -, -, alarm, -⟩ := w.readbackMismatch.closing_frame
      have stands : w.readbackMismatch.alarm.has joinFailed = true := by
        rw [Station.readbackMismatch_second counts second']
        exact Station.enterClashed_has _ (by decide) failed
      have gone : (closing w.readbackMismatch).lane.attempt = none := gate.2.2.2.1.trans (by rw [cleared]; rfl)
      refine ⟨_, ran, gone, (congrArg (AlarmUnit.has · joinFailed) alarm).trans stands, frame', fun h => by omega,
        fun _ => ⟨⟨state.trans (by rw [seat]; rfl), gone, raised⟩, ?_⟩⟩
      exact gateClosed_of_idle gate cleared rfl express bulk completions periodic missed (by rw [roster])
  · have ran := flawed higher
    obtain ⟨e', hk, staying, ended⟩ := spent own
    have goes : left.tellOwner e' .unheard = left.enterSeat .gone := by
      have state : left.seat.state = .leaving := leaving
      simp [Station.tellOwner, hk, kind, staying, state]
    have quiet : (left.enterSeat .gone).readbackMismatch = left.enterSeat .gone := by
      refine Station.readbackMismatch_uncounted fun counts => ?_
      rw [CountsReadback, Station.enterSeat_seat] at counts
      simp at counts
    obtain ⟨seat, -, safe, gate, frame⟩ := left.closing_enterSeat_closed .gone rfl hold
    rw [ended, goes, quiet] at ran
    generalize closing (left.enterSeat .gone) = t at ran seat safe gate frame
    exact ⟨_, ran, seat, gate.2.2.2.1, safe, gate, frame⟩

end Sys2Proof.Slice0
end

section
/-! SUPPORT. The receive path (R104 to R111): frames that are not queued, own keys, and what a hearing leaves of the
other blocks. -/

-- One theorem after another: the check's data limit has no room for a thread for each.
set_option Elab.async false

open Sys2Proof Sys2Proof.Machine Sys2Proof.Safety Sys2Proof.Slice0

namespace Sys2Proof.Machine

/-! ### What a frame heard leaves alone -/

/-- The blocks that no hearing touches: the seat, the lane interface, the share, the receive queues, local time. -/
structure HeardFrame (s t : Station) : Prop where
  share : t.share = s.share := by rfl
  seat : t.seat = s.seat := by rfl
  present : t.pins.seatPresent = s.pins.seatPresent := by rfl
  hold : t.hold = s.hold := by rfl
  localTime : t.localTime = s.localTime := by rfl
  lane : t.lane = s.lane := by rfl
  rx : t.rx = s.rx := by rfl

theorem HeardFrame.refl (s : Station) : HeardFrame s s := {}

theorem HeardFrame.trans {s t u : Station} (h : HeardFrame s t) (g : HeardFrame t u) : HeardFrame s u :=
  ⟨g.share.trans h.share, g.seat.trans h.seat, g.present.trans h.present, g.hold.trans h.hold,
    g.localTime.trans h.localTime, g.lane.trans h.lane, g.rx.trans h.rx⟩

theorem ReviewFrame.heard {s t : Station} (h : ReviewFrame s t) : HeardFrame s t :=
  ⟨h.share, h.seat, congrArg Pins.seatPresent h.pins, h.hold, h.localTime, h.lane, h.rx⟩

theorem AlarmFrame.heard {s t : Station} (h : AlarmFrame s t) : HeardFrame s t := h.toReview.heard

theorem QueueFrame.heard {s t : Station} (h : QueueFrame s t) : HeardFrame s t :=
  ⟨h.share, h.seat, congrArg Pins.seatPresent h.pins, h.hold, h.localTime, h.lane, h.rx⟩

theorem Station.setPeer_heard (s : Station) (p : Slot) (r : Peer) : HeardFrame s (s.setPeer p r) := {}

theorem Station.closing_heard (s : Station) : HeardFrame s (closing s) := {
  HeardFrame.trans s.renewOffer_spec.1.heard (u := closing s) {} with }

/-- R15, log 7: the line behind the hand-over of a frame. -/
theorem rxEnds_of_heard {s t : Station} {m : Marks} {r : Rx}
    (h : HeardFrame { s with lane := s.lane.heardEnd m, rx := r } t) : RxEnds s t ∧ t.lane.marks = m ∧ t.rx = r := by
  refine ⟨⟨⟨h.share, h.seat, h.present, h.hold, h.localTime, ?_⟩, congrArg Lane.endLeft h.lane⟩,
    congrArg Lane.marks h.lane, h.rx⟩
  rw [h.lane]
  rfl

/-! ### The disposition of DATA that is not queued (R106 to R110) -/

/-- R104, R111: a hand-over with its marks and its placement. -/
theorem Station.handOver_eq {u : Station} {key : Byte} {f : RxFrame} {m : Marks} (stamp : RxStamp) (air : Bool)
    (marks : (if markGate u.seat.state then u.marksFor key f (goodContent key f) else Marks.none) = m) :
    u.handOver key f stamp air =
      (({ u with lane := u.lane.heardEnd m } : Station).filterTakes key f (goodContent key f) stamp).rosterTakes
        (keySlot key) f.seq (goodContent key f) stamp air := by
  subst marks
  rfl

theorem Station.disposition_elsewhere {u : Station} {key : Byte} {f : RxFrame} (good : GoodData key f)
    (h : ¬ ForUs u f) : u.disposition key f (goodContent key f) = .elsewhere := by
  have ⟨_, _, _, dest⟩ := good
  have other : ¬ (destOf f.dest = some .all ∨ destOf f.dest = some (.slot u.seat.slot)) := by
    rintro (all | own)
    · exact h (.inl ((destOf_eq_all_iff _).1 all))
    · unfold destOf at own
      split at own
      · simp only [Option.some.injEq, Dest.slot.injEq] at own
        refine h (.inr ?_)
        rw [← own]
        simp [Nat.mod_eq_of_lt (by assumption : f.dest.toNat < 16)]
      · split at own <;> cases own
  rw [goodContent_of_goodData good]
  unfold Station.disposition
  exact if_neg (by simpa using other)

/-- R107: DATA that a test of its source, of the seat state or of its class drops. -/
theorem Station.acceptance_dropped {u : Station} {key : Byte} (seq : Byte)
    (h : ¬ Takes u (keySlot key) ∨ key.toNat / 64 < 2) :
    u.acceptance key seq = .barred ∨ u.acceptance key seq = .fromLeft ∨ u.acceptance key seq = .notTaking ∨
      u.acceptance key seq = .misclassed := by
  unfold Station.acceptance
  dsimp only
  by_cases barred : (u.peer (keySlot key)).barred = true
  · simp [barred]
  by_cases left : (u.peer (keySlot key)).state = .left
  · simp [barred, left]
  by_cases taking : u.seat.state = .active ∨ u.seat.state = .leaving
  · have takes : Takes u (keySlot key) := ⟨by simpa [Peer.barred] using barred, left, taking⟩
    have early := h.resolve_left fun n => n takes
    rw [← keyClass_number] at early
    have inner : keyClass key = .timing ∨ keyClass key = .control := by
      revert early
      cases keyClass key <;> simp [FrameClass.number]
    have taking' : (!(decide (u.seat.state = .active) || decide (u.seat.state = .leaving))) = false := by
      rcases taking with h | h <;> simp [h]
    rcases inner with cls | cls <;> simp [barred, left, taking', cls]
  · have idle : (!(decide (u.seat.state = .active) || decide (u.seat.state = .leaving))) = true := by
      simpa [not_or] using taking
    simp [barred, left, idle]

/-- R108, R110: DATA that passes the tests of its source, its class and the seat state. -/
theorem Station.acceptance_takes {u : Station} {key : Byte} (seq : Byte) {q : CardQueue}
    (takes : Takes u (keySlot key)) (cls : keyClass key = cardClass q) :
    u.acceptance key seq =
      if (u.peer (keySlot key)).lastSeq = some seq then .duplicate
      else if (u.rx.queue q).length < rxCapacity q then .accepted else .overflow := by
  obtain ⟨unbarred, notLeft, taking⟩ := takes
  have takesData : (decide (u.seat.state = .active) || decide (u.seat.state = .leaving)) = true := by
    simpa using taking
  unfold Station.acceptance
  cases q <;> simp [Peer.barred, unbarred, notLeft, takesData, cls, cardClass, Rx.queue] <;> rfl

theorem cardClass_of_late {key : Byte} (h : 2 ≤ key.toNat / 64) : ∃ q, keyClass key = cardClass q := by
  rw [← keyClass_number] at h
  revert h
  cases keyClass key with
  | timing | control => simp [FrameClass.number]
  | express => exact fun _ => ⟨.express, rfl⟩
  | bulk => exact fun _ => ⟨.bulk, rfl⟩

/-! ### The hearing of a DATA frame (R47) -/

theorem Station.setPeer_peer (s : Station) (p : Slot) : s.setPeer p (s.peer p) = s := by
  unfold Station.setPeer Station.peer
  have same : s.roster.peers.set p.val s.roster.peers[p.val] = s.roster.peers := Vector.set_getElem_self p.isLt
  exact (congrArg (fun v => ({ s with roster := { s.roster with peers := v } } : Station)) same :)

/-- R47: the hearing of DATA, the records of its source apart. -/
theorem Station.closing_settle_data (u : Station) (p : Slot) :
    (((closing (u.settle p)).peer p).lastSeq = (u.peer p).lastSeq) ∧ HeardFrame u (closing (u.settle p)) := by
  have frame := u.closing_settle_frame p
  refine ⟨?_, ⟨frame.share, frame.seat, congrArg Pins.seatPresent frame.pins, frame.hold, frame.localTime,
    frame.lane, frame.rx⟩⟩
  rw [Station.peer_of_roster _ _ frame.roster, Station.peer_setPeer_same, heardRecord_lastSeq]

/-- R47: DATA leaves the last DATA seq of its source, and of no other block anything, heard or not. -/
theorem Station.closing_rosterTakes_data (u : Station) (p : Slot) (seq : Byte) (tier : Nat) (stamp : RxStamp)
    (air : Bool) :
    let t := closing (u.rosterTakes p seq (some (.data tier)) stamp air)
    (t.peer p).lastSeq = (u.peer p).lastSeq ∧ HeardFrame u t := by
  by_cases h : (u.peer p).hears (.data tier) = true
  · have taken : u.rosterTakes p seq (some (.data tier)) stamp air = u.settle p := if_pos h
    rw [taken]
    exact u.closing_settle_data p
  · have dropped : u.rosterTakes p seq (some (.data tier)) stamp air = u := if_neg h
    rw [dropped]
    obtain ⟨-, -, -, -, -, roster, -⟩ := u.closing_frame
    exact ⟨by rw [Station.peer_of_roster _ _ roster], u.closing_heard⟩

/-- R47: the record of a source heard by the filter. -/
theorem Station.closing_settle_heardNow {s u : Station} (p : Slot) (time : u.localTime = s.localTime)
    (peer : u.peer p = s.peer p) : HeardNow s (closing (u.settle p)) p := by
  have frame := u.closing_settle_frame p
  have record : (closing (u.settle p)).peer p = heardRecord u p := by
    rw [Station.peer_of_roster _ _ frame.roster, Station.peer_setPeer_same]
  refine ⟨(congrArg Peer.lastHeard record).trans ((heardRecord_lastHeard u p).trans (by rw [time])), fun known => ?_⟩
  rw [record]
  exact heardRecord_present (by rw [peer]; exact known)

/-! ### The own list over a hearing (R170) -/

/-- R162, R178: merges leave the own list, and reviews add to it at most, ALARM_VIEW_FULL aside. -/
def RestGrew (s t : Station) : Prop := s.alarm.ownRest <+: t.alarm.ownRest

theorem RestGrew.of_eq {s t : Station} (h : t.alarm.ownRest = s.alarm.ownRest) : RestGrew s t := by
  unfold RestGrew
  rw [h]

theorem RestGrew.trans {s t u : Station} (h : RestGrew s t) (g : RestGrew t u) : RestGrew s u :=
  List.IsPrefix.trans h g

theorem HoldoverRaised.restGrew {s t : Station} (h : HoldoverRaised s t) : RestGrew s t := by
  rcases h with ⟨own, -⟩ | ⟨-, -, -, x, -, rest⟩
  · refine .of_eq ?_
    unfold AlarmUnit.ownRest
    rw [own]
  · exact ⟨[x], rest.symm⟩

theorem RestGrew.has {s t : Station} (h : RestGrew s t) {code : Word16} (hc : code ≠ alarmViewFull)
    (hs : s.alarm.has code = true) : t.alarm.has code = true := by
  obtain ⟨l, h⟩ := h
  rw [s.alarm.has_eq_rest code hc] at hs
  rw [t.alarm.has_eq_rest code hc, ← h, List.any_append, hs]
  rfl

theorem Station.unmarkMissing_restGrew (s : Station) (p : Slot) : RestGrew s (s.unmarkMissing p) := by
  unfold Station.unmarkMissing
  split
  · exact .of_eq (s.setMarker_rest p _)
  · exact .of_eq rfl
  · exact .of_eq rfl

theorem Station.settle_restGrew (s : Station) (p : Slot) : RestGrew s (s.settle p) := by
  have notice (v : Station) (h : v.alarm = s.alarm) : RestGrew s (v.notifyPresent p) := by
    have same : RestGrew s v := .of_eq (congrArg AlarmUnit.ownRest h)
    exact (same.trans (v.unmarkMissing_restGrew p)).trans (Station.reviews_holdoverRaised _ 1).restGrew
  unfold Station.settle
  dsimp only
  split
  · exact notice _ rfl
  · exact notice _ rfl
  all_goals exact .of_eq rfl

/-! ### The hand-over of DATA that is not queued -/

/-- R104: DATA that the filter neither places nor loses. -/
theorem exec_frameHandover_passed {s : State} {key : Byte} {f : RxFrame} {m : Marks} (air : Bool)
    (receiving : Receiving s key (keySlot key)) (good : GoodData key f)
    (marks : (if markGate s.seat.state then s.toStation.marksFor key f (goodContent key f) else Marks.none) = m)
    (d : s.toStation.disposition key f (goodContent key f) ≠ .accepted ∧
      s.toStation.disposition key f (goodContent key f) ≠ .overflow) :
    exec (.frameHandover f air) s = .next { s with
      toStation := closing
        (({ s.toStation with lane := s.lane.heardEnd m } : Station).rosterTakes (keySlot key) f.seq
          (some (.data (f.kind.toNat % 4))) s.startStamp air) } := by
  have passed (u : Station) (h : u.disposition key f (goodContent key f) ≠ .accepted ∧
      u.disposition key f (goodContent key f) ≠ .overflow) :
      u.filterTakes key f (goodContent key f) s.startStamp = u := by
    unfold Station.filterTakes
    split
    next h' => exact absurd h' h.1
    next h' => exact absurd h' h.2
    all_goals rfl
  rw [exec_frameHandover f air receiving, Station.handOver_eq _ _ marks, passed { s.toStation with lane := s.lane.heardEnd m } d,
    goodContent_of_goodData good]

/-- R110: what the loss of a broadcast on a full queue leaves. -/
theorem Station.overrun_spec (s : Station) :
    HeardFrame { s with rx := { s.rx with overrun := true } } s.overrun ∧ s.overrun.roster = s.roster ∧
      (s.rx.overrun = false → s.overrun.alarm.has queueOverrun = true) := by
  unfold Station.overrun
  split
  next h =>
    have same : ({ s.rx with overrun := true } : Rx) = s.rx := by rw [← h]
    exact ⟨{ rx := same.symm }, rfl, fun n => by simp [h] at n⟩
  · have f := Station.raiseInternal_frame { s with rx := { s.rx with overrun := true } } queueOverrun
    exact ⟨f.heard, f.roster, fun _ =>
      AlarmUnit.has_of_raised (Station.raiseInternal_raised _ queueOverrun (by decide)) (by decide)⟩

/-- R110, R111: DATA that meets a full queue. -/
theorem exec_frameHandover_full {s : State} {key : Byte} {f : RxFrame} {q : CardQueue} (air : Bool)
    (receiving : Receiving s key (keySlot key)) (good : GoodData key f) (wanted : Wanted s.toStation f (keySlot key))
    (cls : keyClass key = cardClass q) (fresh : (s.peer (keySlot key)).lastSeq ≠ some f.seq)
    (full : rxCapacity q ≤ (s.rx.queue q).length) :
    let u : Station := { s.toStation with lane := s.lane.heardEnd ⟨false, false, !isBroadcast f⟩ }
    exec (.frameHandover f air) s =
      .next { s with toStation := closing ((if isBroadcast f then u.overrun else u).settle (keySlot key)) } := by
  intro u
  obtain ⟨forUs, takes⟩ := wanted
  have ⟨unbarred, notLeft, _⟩ := takes
  have d : s.toStation.disposition key f (goodContent key f) = .overflow := by
    rw [Station.disposition_data good forUs, Station.acceptance_takes f.seq takes cls, if_neg fresh,
      if_neg (Nat.not_lt.2 full)]
  have marks : (if markGate s.seat.state then s.toStation.marksFor key f (goodContent key f) else Marks.none) =
      ⟨false, false, !isBroadcast f⟩ := by
    rw [if_pos (markGate_of_takes takes)]
    unfold Station.marksFor
    rw [d]
    rfl
  have lost : u.filterTakes key f (goodContent key f) s.startStamp = if isBroadcast f then u.overrun else u := by
    have d' : u.disposition key f (goodContent key f) = .overflow := d
    unfold Station.filterTakes
    rw [d']
  have peer (v : Station) (h : v.roster = s.roster) : v.peer (keySlot key) = s.peer (keySlot key) :=
    Station.peer_of_roster _ _ h _
  have roster : (if isBroadcast f then u.overrun else u).roster = s.roster := by
    split
    · exact u.overrun_spec.2.1
    · rfl
  rw [exec_frameHandover f air receiving, Station.handOver_eq _ _ marks]
  show Host.Outcome.next { s with toStation := closing ((u.filterTakes key f _ _).rosterTakes _ _ _ _ _) } = _
  rw [lost, goodContent_of_goodData good,
    Station.rosterTakes_data _ _ _ _ (by rw [peer _ roster]; exact unbarred) (by rw [peer _ roster]; exact notLeft)]

end Sys2Proof.Machine

namespace Sys2Proof.Slice0

/-- Settles O28. -/
theorem otherDataAndOwnKeysAreNotQueued : Obligations.OtherDataAndOwnKeysAreNotQueued := by
  refine ⟨fun s key p f air receiving good => ?_, fun s key f air running line silent keyRead own => ?_⟩
  · obtain rfl : keySlot key = p := receiving.source
    refine ⟨fun dropped => ?_, fun wanted late => ⟨fun again => ?_, fun fresh full => ?_⟩⟩
    · have d : s.toStation.disposition key f (goodContent key f) = .elsewhere ∨
          s.toStation.disposition key f (goodContent key f) = .barred ∨
          s.toStation.disposition key f (goodContent key f) = .fromLeft ∨
          s.toStation.disposition key f (goodContent key f) = .notTaking ∨
          s.toStation.disposition key f (goodContent key f) = .misclassed := by
        by_cases forUs : ForUs s.toStation f
        · rw [Station.disposition_data good forUs]
          exact .inr (s.toStation.acceptance_dropped f.seq (dropped.resolve_left fun n => n forUs))
        · exact .inl (Station.disposition_elsewhere good forUs)
      have unmarked : s.toStation.marksFor key f (goodContent key f) = Marks.none := by
        unfold Station.marksFor
        rcases d with d | d | d | d | d <;> rw [d]
      have run := exec_frameHandover_passed (m := Marks.none) air receiving good (by rw [unmarked]; exact ite_self _)
        (by rcases d with d | d | d | d | d <;> simp [d])
      obtain ⟨lastSeq, frame⟩ := Station.closing_rosterTakes_data
        { s.toStation with lane := s.lane.heardEnd Marks.none } (keySlot key) f.seq (f.kind.toNat % 4) s.startStamp air
      obtain ⟨ends, marks, rx⟩ := rxEnds_of_heard frame
      exact ⟨_, run, rx, lastSeq, marks, ends⟩
    · obtain ⟨forUs, takes⟩ := wanted
      have ⟨unbarred, notLeft, _⟩ := takes
      obtain ⟨q, cls⟩ := cardClass_of_late late
      have d : s.toStation.disposition key f (goodContent key f) = .duplicate := by
        rw [Station.disposition_data good forUs, Station.acceptance_takes f.seq takes cls, if_pos again]
      have marks : (if markGate s.seat.state then s.toStation.marksFor key f (goodContent key f) else Marks.none) =
          ⟨false, true, false⟩ := by
        rw [if_pos (markGate_of_takes takes)]
        unfold Station.marksFor
        rw [d]
        rfl
      have run := exec_frameHandover_passed air receiving good marks (by simp [d])
      rw [Station.rosterTakes_data (u := { s.toStation with lane := s.lane.heardEnd ⟨false, true, false⟩ })
        f.seq _ s.startStamp air unbarred notLeft] at run
      obtain ⟨lastSeq, frame⟩ := Station.closing_settle_data
        { s.toStation with lane := s.lane.heardEnd ⟨false, true, false⟩ } (keySlot key)
      obtain ⟨ends, marks, rx⟩ := rxEnds_of_heard frame
      exact ⟨_, run, rx, lastSeq.trans again, marks, Station.closing_settle_heardNow _ rfl rfl, ends⟩
    · obtain ⟨q, cls⟩ := cardClass_of_late late
      have run := exec_frameHandover_full air receiving good wanted cls fresh (by
        have number := keyClass_number key
        rw [cls] at number
        cases q
        · exact full.elim (fun h => h.2) fun h => by rw [h.1] at number; cases number
        · exact full.elim (fun h => by rw [h.1] at number; cases number) fun h => h.2)
      refine ⟨fun unicast => ?_, fun broadcast => ?_⟩
      · have narrow : isBroadcast f = false := by
          rw [isBroadcast_eq, unicast]
          simp [Nat.ne_of_lt s.seat.slot.isLt]
        rw [narrow] at run
        obtain ⟨lastSeq, frame⟩ := Station.closing_settle_data
          { s.toStation with lane := s.lane.heardEnd ⟨false, false, true⟩ } (keySlot key)
        obtain ⟨ends, marks, rx⟩ := rxEnds_of_heard frame
        exact ⟨_, run, rx, lastSeq, marks, Station.closing_settle_heardNow _ rfl rfl, ends⟩
      · have wide : isBroadcast f = true := by
          rw [isBroadcast_eq, broadcast]
          rfl
        let u : Station := { s.toStation with lane := s.lane.heardEnd ⟨false, false, false⟩ }
        obtain ⟨lost, roster, raised⟩ := u.overrun_spec
        have peer : u.overrun.peer (keySlot key) = s.peer (keySlot key) := Station.peer_of_roster _ _ roster _
        rw [wide] at run
        obtain ⟨lastSeq, frame⟩ := u.overrun.closing_settle_data (keySlot key)
        obtain ⟨ends, marks, rx⟩ := rxEnds_of_heard (lost.trans frame)
        have heard := Station.closing_settle_heardNow (u := u.overrun) (keySlot key) lost.localTime peer
        have grew := u.overrun.settle_restGrew (keySlot key)
        obtain ⟨-, -, -, -, alarm, -⟩ := (u.overrun.settle (keySlot key)).closing_frame
        refine ⟨_, run, rx, lastSeq.trans (congrArg Peer.lastSeq peer), marks, fun first => ?_, heard, ends⟩
        exact (congrArg (AlarmUnit.has · queueOverrun) alarm).trans (grew.has (by decide) (raised first))
  · have handed : s.toStation.frameHandover f air = { s.toStation with lane := s.lane.heardEnd Marks.none } := by
      simp [Station.frameHandover, keyRead, own]
    refine (State.run_offerEvent_due _ running (by simp [Lane.receiving, line, silent])).trans ?_
    rw [handed]
    rfl

end Sys2Proof.Slice0
end

section
/-! SUPPORT. The candidate set over reviews (R136, R137, R142), TALKER_BARRED (R170), and what the reviews and the
merges leave of the markers: the layer under flaws, bars and the timers of the roster. -/

-- One theorem after another: the check's data limit has no room for a thread for each.
set_option Elab.async false

open Sys2Proof Sys2Proof.Machine Sys2Proof.Safety Sys2Proof.Slice0

namespace Sys2Proof.Machine

/-! ### Candidates over reviews -/

/-- R142: the candidates after a review. -/
theorem Station.review_cands (s : Station) : s.review.sel.cands = s.refreshed s.sel.cands := by
  have decided (u : Station) : u.decideBeaconing.sel.cands = u.sel.cands := by
    unfold Station.decideBeaconing
    split <;> rfl
  unfold Station.review
  dsimp only
  split
  · exact decided _
  · exact (congrArg Selector.cands (Station.takeSource_same _ _).2).trans (decided _)

/-- Slot `p` is no candidate. -/
def NoCandidate (p : Slot) (s : Station) : Prop := ∀ c ∈ s.sel.cands, c.slot ≠ p

theorem Station.review_noCandidate {p : Slot} {s : Station} (h : NoCandidate p s) : NoCandidate p s.review := by
  intro c hc
  rw [s.review_cands] at hc
  obtain ⟨d, hd, k, -, rfl⟩ := (s.mem_refreshed _ c).1 hc
  exact h d hd

theorem Station.reviews_noCandidate {p : Slot} {s : Station} (events : Nat) (h : NoCandidate p s) :
    NoCandidate p (s.reviews events) :=
  reviews_keep (NoCandidate p) (fun _ h => Station.review_noCandidate h) s events h

/-- R141: a bus source is a candidate. -/
def SourceListed (s : Station) : Prop := ∀ p, s.sel.source = .bus p → ∃ c ∈ s.sel.cands, c.slot = p

theorem Station.review_sourceListed (s : Station) : SourceListed s.review := by
  intro p hp
  have chosen : s.chooseSource (s.refreshed s.sel.cands) = .bus p := s.review_source.1.symm.trans hp
  rw [s.review_cands]
  unfold Station.chooseSource at chosen
  split at chosen
  · cases chosen
  · split at chosen
    next b l hl =>
      split at chosen
      · cases chosen
        exact ⟨b, hl ▸ List.mem_cons_self, rfl⟩
      · cases chosen
    · cases chosen

theorem Station.reviews_sourceListed (s : Station) (events : Nat) : SourceListed (s.reviews (events + 1)) :=
  reviews_reach SourceListed Station.review_sourceListed s events

/-- R137: a slot dropped from the set is neither candidate nor source. -/
theorem Station.dropAndReview_dropped (s : Station) (p : Slot) :
    NoCandidate p (s.dropAndReview p) ∧ (s.dropAndReview p).sel.source ≠ .bus p := by
  have gone : NoCandidate p (s.removeCandidate p) := by
    intro c hc
    simpa using (List.mem_filter.1 hc).2
  have none : NoCandidate p (s.dropAndReview p) := Station.reviews_noCandidate 1 gone
  refine ⟨none, fun source => ?_⟩
  obtain ⟨c, hc, same⟩ := Station.reviews_sourceListed (s.removeCandidate p) 0 p source
  exact none c hc same

theorem Station.removeCandidate_frame (s : Station) (p : Slot) : ReviewFrame s (s.removeCandidate p) := by
  constructor
  case timing => exact Withdrawn.refl _
  case control => exact ControlTold.refl _
  all_goals rfl

theorem Station.dropAndReview_frame (s : Station) (p : Slot) : ReviewFrame s (s.dropAndReview p) :=
  (s.removeCandidate_frame p).trans (Station.reviews_frame _ 1)

/-! ### The lowest barred slot (R63) -/

theorem find?_lowest {l : List Slot} (sorted : l.Pairwise (· < ·)) {P : Slot → Bool} {q : Slot} (mem : q ∈ l)
    (hq : P q = true) (lower : ∀ r < q, P r = false) : l.find? P = some q := by
  induction l with
  | nil => cases mem
  | cons x l ih =>
    obtain ⟨first, sorted⟩ := List.pairwise_cons.1 sorted
    rcases List.mem_cons.1 mem with rfl | later
    · simp [hq]
    · rw [List.find?_cons_of_neg (by simp [lower x (first q later)])]
      exact ih sorted later

theorem mem_allSlots (p : Slot) : p ∈ allSlots := by
  revert p
  decide

/-- R63: the lowest barred slot. -/
theorem Station.lowestBarred_eq {s : Station} {q : Slot} (barred : (s.peer q).barredUntil ≠ none)
    (lower : ∀ r < q, (s.peer r).barredUntil = none) : s.lowestBarred = some q := by
  refine find?_lowest (by decide) (mem_allSlots q) ?_ fun r hr => ?_
  · exact Option.isSome_iff_ne_none.2 barred
  · simp [Peer.barred, lower r hr]

theorem Station.lowestBarred_none {s : Station} (h : ∀ q, (s.peer q).barredUntil = none) :
    s.lowestBarred = none :=
  List.find?_eq_none.2 fun q _ => by simp [Peer.barred, h q]

/-! ### TALKER_BARRED (R170) -/

theorem AlarmUnit.mem_own_of_rest {a : AlarmUnit} {e : AlarmEntry} (h : e ∈ a.ownRest) : e ∈ a.own :=
  (List.mem_filter.1 h).1

/-- R170: TALKER_BARRED stands with the lowest barred slot as its subject. -/
theorem Station.keepTalker_some {s : Station} {q : Slot} (h : s.lowestBarred = some q) :
    ∃ e ∈ s.keepTalker.alarm.own, e.code = talkerBarred ∧ e.subject = some q := by
  have changed {l : List AlarmEntry} {e : AlarmEntry} (he : e ∈ l) (code : e.code = talkerBarred) :
      e ∈ (s.changeOwn l).alarm.own := by
    refine AlarmUnit.mem_own_of_rest ?_
    rw [Station.changeOwn_rest]
    exact List.mem_filter.2 ⟨he, by simp [code, talkerBarred, alarmViewFull]⟩
  unfold Station.keepTalker
  rw [h]
  cases talker : s.alarm.talker with
  | none => exact ⟨_, changed (List.mem_append_right _ (List.mem_singleton.2 rfl)) rfl, rfl, rfl⟩
  | some e =>
    have code : e.code = talkerBarred := by simpa using List.find?_some talker
    have mem : e ∈ s.alarm.own := List.mem_of_find?_eq_some talker
    dsimp only
    split
    next subject => exact ⟨e, mem, code, subject⟩
    · refine ⟨_, changed (List.mem_map_of_mem mem) ?_, ?_, ?_⟩ <;> simp [code]

/-- R170: with no slot barred TALKER_BARRED does not stand. -/
theorem Station.keepTalker_none {s : Station} (h : s.lowestBarred = none) :
    s.keepTalker.alarm.has talkerBarred = false := by
  unfold Station.keepTalker
  rw [h]
  cases talker : s.alarm.talker with
  | none => exact (AlarmUnit.has_false_iff _ _).2 (AlarmUnit.talker_none talker)
  | some e => exact AlarmUnit.not_has_of_cleared (Station.clearInternal_cleared _ talkerBarred) (by decide)

theorem AlarmUnit.has_of_mem {a : AlarmUnit} {e : AlarmEntry} {code : Word16} (h : e ∈ a.own) (hc : e.code = code) :
    a.has code = true := List.any_eq_true.2 ⟨e, h, by simp [hc]⟩

/-! ### What the alarm unit and the reviews leave of the other blocks -/

theorem ReviewFrame.blocks {s t : Station} (h : ReviewFrame s t) : BlocksKept s t :=
  ⟨h.hold, h.localTime, h.pins, h.seat, h.lane, h.share, h.rx, h.time,
    h.port.trans (by rw [h.port]), h.i, h.lastSample⟩

theorem blocksKept_of_queueFrame {s t : Station} (h : QueueFrame s t) : BlocksKept s t :=
  ⟨h.hold, h.localTime, h.pins, h.seat, h.lane, h.share, h.rx, by rw [h.time],
    h.port.trans (by rw [h.port]), by rw [h.servo], by rw [h.servo]⟩

theorem blocksKept_trans {s t u : Station} (h : BlocksKept s t) (g : BlocksKept t u) : BlocksKept s u := by
  obtain ⟨h1, h2, h3, h4, h5, h6, h7, h8, h9, h10, h11⟩ := h
  obtain ⟨g1, g2, g3, g4, g5, g6, g7, g8, g9, g10, g11⟩ := g
  refine ⟨g1.trans h1, g2.trans h2, g3.trans h3, g4.trans h4, g5.trans h5, g6.trans h6, g7.trans h7, ?_, ?_,
    g10.trans h10, g11.trans h11⟩
  · rw [g8, h8]
  · rw [g9, h9]

theorem Station.closing_blocks (u : Station) : BlocksKept u (closing u) :=
  blocksKept_trans (blocksKept_of_queueFrame u.renewOffer_spec.1) ⟨rfl, rfl, rfl, rfl, rfl, rfl, rfl, rfl, rfl, rfl, rfl⟩

theorem Station.setPeer_blocks (s : Station) (p : Slot) (r : Peer) : BlocksKept s (s.setPeer p r) :=
  ⟨rfl, rfl, rfl, rfl, rfl, rfl, rfl, rfl, rfl, rfl, rfl⟩

/-- Where the roster has one record written and stands otherwise. -/
theorem peers_of_setPeer {s t : Station} {p : Slot} {r : Peer} (h : t.roster = (s.setPeer p r).roster) :
    t.peer p = r ∧ OthersKept s t p := by
  refine ⟨?_, fun q hq => ?_⟩
  · rw [Station.peer_of_roster _ _ h, Station.peer_setPeer_same]
  · rw [Station.peer_of_roster _ _ h, Station.peer_setPeer_other _ _ _ _ hq]

/-- R74: the end of a back-off. -/
theorem Entry.endBackoff_eq (e : Entry) (now : Nat) :
    (if e.backoffOver now then { e with backoff := none } else e) =
      { e with backoff := e.backoff.filter fun d => now < d } := by
  unfold Entry.backoffOver
  obtain ⟨_, _, _, _, _, _, _, _, _, _, _, backoff, _, _, _, _⟩ := e
  cases backoff with
  | none => rfl
  | some d =>
    by_cases late : d ≤ now
    · simp [due, late, Nat.not_lt.2 late, Option.filter]
    · simp [due, late, Nat.lt_of_not_le late, Option.filter]

end Sys2Proof.Machine

namespace Sys2Proof.Slice0

/-- Settles O33. -/
theorem flawTimesAgeAndBarsEnd : Obligations.FlawTimesAgeAndBarsEnd := by
  refine fun s p hold => ⟨State.run_event_due _ hold rfl, fun d barred late => ?_, fun early => ?_⟩
  · let u := (s.toStation.setPeer p { s.peer p with barredUntil := none }).reviews 1
    have f : ReviewFrame (s.toStation.setPeer p { s.peer p with barredUntil := none }) u := Station.reviews_frame _ 1
    have g : AlarmFrame u u.keepTalker := u.keepTalker_frame
    obtain ⟨-, -, -, -, alarm, roster, -⟩ := u.keepTalker.closing_frame
    obtain ⟨record, others⟩ := peers_of_setPeer (roster.trans (g.roster.trans f.roster))
    obtain ⟨record', others'⟩ := peers_of_setPeer f.roster
    have due : due (s.peer p).barredUntil s.localTime = true := by simp [due, barred, late]
    refine ⟨_, State.run_offerEvent_due _ hold due, record, others, fun none => ?_, fun q other barred' lower => ?_,
      (Station.renewOffer_express _).trans (g.express.trans f.express),
      blocksKept_trans (blocksKept_trans (Station.setPeer_blocks _ _ _) (blocksKept_trans f.blocks g.toReview.blocks))
        (Station.closing_blocks _)⟩
    · have clear (q : Slot) : (u.peer q).barredUntil = Option.none := by
        by_cases h : q = p
        · rw [h, record']
        · rw [others' q h, none q h]
      exact (congrArg (AlarmUnit.has · talkerBarred) alarm).trans
        (Station.keepTalker_none (Station.lowestBarred_none clear))
    · have lowest : u.lowestBarred = some q := by
        refine Station.lowestBarred_eq (by rw [others' q other]; exact barred') fun r hr => ?_
        by_cases h : r = p
        · rw [h, record']
        · rw [others' r h, lower r hr h]
      obtain ⟨e, he, stands⟩ := Station.keepTalker_some lowest
      exact ⟨e, (congrArg (e ∈ AlarmUnit.own ·) alarm).mpr he, stands⟩
  · refine State.run_offerEvent_not_due _ ?_
    cases barred : (s.peer p).barredUntil with
    | none => rfl
    | some d => simp [due, early d barred]

/-- Settles O34. -/
theorem silenceTimerPlacesRollcallAndBackoffEnds : Obligations.SilenceTimerPlacesRollcallAndBackoffEnds := by
  refine fun s hold => ⟨fun d timer => ⟨fun late => ?_, fun early => ?_⟩, fun q => ⟨fun ends => ?_, fun early => ?_⟩⟩
  · refine (State.run_offerEvent_due _ hold (by simp [due, timer, late])).trans
      (congrArg (fun u => Host.Outcome.next { s with toStation := closing u }) ?_)
    have room : (!s.toStation.rollcallQueued && s.sched.hasRoom .control) = true ↔
        (∀ e ∈ s.sched.control, e.kind ≠ .rollcall) ∧ s.sched.control.length < 8 := by
      rw [Bool.and_eq_true, Sched.hasRoom_iff]
      simp [Station.rollcallQueued, Sched.queue, FrameClass.capacity]
    unfold Station.silenceExpires
    by_cases h : (∀ e ∈ s.sched.control, e.kind ≠ .rollcall) ∧ s.sched.control.length < 8
    · simp only [room.2 h, if_pos h, if_true]
      rfl
    · simp only [if_neg h]
      rw [if_neg fun n => h (room.1 n)]
      rfl
  · exact State.run_offerEvent_not_due _ (by simp [due, timer, early])
  · obtain ⟨e, he, d, backoff, late⟩ := ends
    have ends : (s.sched.queue (cardClass q)).any (fun e => e.backoffOver s.localTime) = true :=
      List.any_eq_true.2 ⟨e, he, by simp [Entry.backoffOver, due, backoff, late]⟩
    refine (State.run_offerEvent_due _ hold ends).trans
      (congrArg (fun u => Host.Outcome.next { s with toStation := closing u }) ?_)
    unfold Station.endBackoff
    exact congrArg (fun l => s.toStation.setQueue (cardClass q) l)
      (List.map_congr_left fun e _ => e.endBackoff_eq s.localTime)
  · refine State.run_offerEvent_not_due _ (List.any_eq_false.2 fun e he => ?_)
    cases backoff : e.backoff with
    | none => simp [Entry.backoffOver, due, backoff]
    | some d => simp [Entry.backoffOver, due, backoff, early e he d backoff]

end Sys2Proof.Slice0
end

section
/-! SUPPORT. Flaws and bars at the hand-over of a frame (R61, R62, R105, R111). -/

-- One theorem after another: the check's data limit has no room for a thread for each.
set_option Elab.async false

open Sys2Proof Sys2Proof.Machine Sys2Proof.Safety Sys2Proof.Slice0

namespace Sys2Proof.Machine

theorem Station.lowestBarred_of_barred {s : Station} {p : Slot} (barred : (s.peer p).barredUntil ≠ none) :
    ∃ q, s.lowestBarred = some q :=
  Option.isSome_iff_exists.1 (List.find?_isSome.2 ⟨p, mem_allSlots p, Option.isSome_iff_ne_none.2 barred⟩)

/-- R62: the bar of `p` begins. -/
theorem Station.closing_beginBar (s : Station) (p : Slot) :
    let t := closing (s.beginBar p)
    t.peer p = { s.peer p with barredUntil := some (s.localTime + 1000000000), flaws := [], beacon := none } ∧
      OthersKept s t p ∧ NoCandidate p t ∧ t.sel.source ≠ .bus p ∧ t.alarm.has talkerBarred = true ∧
      HeardFrame s t := by
  let u := (s.setPeer p
    { s.peer p with
      barredUntil := some (s.localTime + Config.bar), flaws := [], beacon := none }).dropAndReview p
  have f : ReviewFrame _ u := Station.dropAndReview_frame _ p
  have g : AlarmFrame u u.keepTalker := u.keepTalker_frame
  obtain ⟨none, source⟩ : NoCandidate p u ∧ u.sel.source ≠ .bus p := Station.dropAndReview_dropped _ p
  obtain ⟨-, -, -, -, alarm, roster, sel, -⟩ := u.keepTalker.closing_frame
  obtain ⟨record, others⟩ := peers_of_setPeer (roster.trans (g.roster.trans f.roster))
  have sel' := sel.trans g.sel
  have frame := ((Station.setPeer_heard _ _ _).trans f.heard).trans (g.heard.trans u.keepTalker.closing_heard)
  refine ⟨record, others, fun c hc => none c (sel' ▸ hc), fun n => source (sel' ▸ n), ?_, frame⟩
  have barred : (u.peer p).barredUntil ≠ Option.none := by
    rw [(peers_of_setPeer f.roster).1]
    simp
  obtain ⟨q, lowest⟩ := Station.lowestBarred_of_barred barred
  obtain ⟨e, he, code, -⟩ := Station.keepTalker_some lowest
  exact (congrArg (AlarmUnit.has · talkerBarred) alarm).trans (AlarmUnit.has_of_mem he code)

/-- R61: a flaw of a source that is not barred. -/
theorem Station.countFlaw_eq {s : Station} {p : Slot} (unbarred : (s.peer p).barredUntil = none) :
    s.countFlaw p =
      if 7 ≤ (recentFlaws (s.peer p).flaws s.localTime).length then s.beginBar p
      else s.setPeer p
        { s.peer p with flaws := recentFlaws (s.peer p).flaws s.localTime ++ [s.localTime] } := by
  unfold Station.countFlaw
  dsimp only
  rw [if_neg (by simp [Peer.barred, unbarred]), List.length_append]
  simp only [List.length_singleton, Nat.succ_le_succ_iff]

/-- R105, R111: a frame that is not good. -/
theorem exec_frameHandover_flawed {s : State} {key : Byte} {f : RxFrame} (air : Bool)
    (receiving : Receiving s key (keySlot key)) (bad : goodContent key f = none)
    (unbarred : (s.peer (keySlot key)).barredUntil = none) :
    exec (.frameHandover f air) s = .next { s with
      toStation := closing (Station.countFlaw
        { s.toStation with lane := s.lane.heardEnd ⟨markGate s.seat.state, false, false⟩ } (keySlot key)) } := by
  have marks : (if markGate s.seat.state then s.toStation.marksFor key f (goodContent key f) else Marks.none) =
      ⟨markGate s.seat.state, false, false⟩ := by
    rw [bad]
    cases markGate s.seat.state with
    | false => rfl
    | true => simp [Station.marksFor, Station.disposition, Peer.barred, unbarred, Marks.none]
  rw [exec_frameHandover f air receiving, Station.handOver_eq _ _ marks, bad]
  rfl

/-- R105, R111: a frame of a barred source. -/
theorem exec_frameHandover_barred {s : State} {key : Byte} (f : RxFrame) (air : Bool)
    (receiving : Receiving s key (keySlot key)) (barred : (s.peer (keySlot key)).barredUntil ≠ none) :
    exec (.frameHandover f air) s = .next { s with
      toStation := closing { s.toStation with lane := s.lane.heardEnd Marks.none } } := by
  have bar : (s.peer (keySlot key)).barred = true := Option.isSome_iff_ne_none.2 barred
  have deaf (c : Content) : (s.peer (keySlot key)).hears c = false := by simp [Peer.hears, bar]
  have accepts : s.toStation.acceptance key f.seq = .barred := if_pos bar
  let u : Station := { s.toStation with lane := s.lane.heardEnd Marks.none }
  have data (tier : Nat) : s.toStation.disposition key f (some (.data tier)) = .barred ∨
      s.toStation.disposition key f (some (.data tier)) = .elsewhere := by
    unfold Station.disposition
    rw [accepts]
    dsimp only
    split
    · exact .inl rfl
    · exact .inr rfl
  have marks : s.toStation.marksFor key f (goodContent key f) = Marks.none := by
    cases goodContent key f with
    | none => simp [Station.marksFor, Station.disposition, bar, Marks.none]
    | some c =>
      cases c with
      | data tier =>
        unfold Station.marksFor
        rcases data tier with d | d <;> rw [d]
      | beacon | rollcall | join | leave | alarm => simp [Station.marksFor, Station.disposition, deaf, Marks.none]
  have passed : u.filterTakes key f (goodContent key f) s.startStamp = u := by
    have same (c : Option Content) : u.disposition key f c = s.toStation.disposition key f c := rfl
    unfold Station.filterTakes
    rw [same]
    cases goodContent key f with
    | none => rfl
    | some c =>
      cases c with
      | data tier => rcases data tier with d | d <;> rw [d]
      | beacon | rollcall | join | leave | alarm => rfl
  have unheard : u.rosterTakes (keySlot key) f.seq (goodContent key f) s.startStamp air = u := by
    cases goodContent key f with
    | none => exact if_pos bar
    | some c => exact if_neg (by rw [show (u.peer (keySlot key)).hears c = false from deaf c]; simp)
  rw [exec_frameHandover f air receiving, Station.handOver_eq (m := Marks.none) _ _ (by rw [marks]; exact ite_self _)]
  show Host.Outcome.next { s with toStation := closing ((u.filterTakes key f _ _).rosterTakes _ _ _ _ _) } = _
  rw [passed, unheard]

end Sys2Proof.Machine

namespace Sys2Proof.Slice0

/-- Settles O31. -/
theorem badChecksCountAndBar : Obligations.BadChecksCountAndBar := by
  intro s key p f air receiving recent
  obtain rfl : keySlot key = p := receiving.source
  refine ⟨fun bad unbarred => ?_, exec_frameHandover_barred f air receiving⟩
  let u : Station := { s.toStation with lane := s.lane.heardEnd ⟨markGate s.seat.state, false, false⟩ }
  have run := exec_frameHandover_flawed air receiving bad unbarred
  have counted : u.countFlaw (keySlot key) = if 7 ≤ recent.length then u.beginBar (keySlot key)
      else u.setPeer (keySlot key) { s.peer (keySlot key) with flaws := recent ++ [s.localTime] } :=
    Station.countFlaw_eq unbarred
  refine ⟨fun few => ?_, fun many => ?_⟩
  · rw [counted, if_neg (Nat.not_le.2 few)] at run
    exact run
  · rw [counted, if_pos many] at run
    obtain ⟨record, others, none, source, talker, frame⟩ := u.closing_beginBar (keySlot key)
    obtain ⟨ends, marks, rx⟩ := rxEnds_of_heard frame
    exact ⟨_, run, record, others, none, source, talker, rx, marks, ends⟩

end Sys2Proof.Slice0
end

section
/-! SUPPORT. The synthetic markers over the operations of the alarm unit (R179), the flush of a slot (R79), and the
timers of the roster. -/

-- One theorem after another: the check's data limit has no room for a thread for each.
set_option Elab.async false

open Sys2Proof Sys2Proof.Machine Sys2Proof.Safety Sys2Proof.Slice0

namespace Sys2Proof.Machine

/-! ### What leaves the markers -/

theorem Station.announceList_markers (s : Station) : s.announceList.alarm.markers = s.alarm.markers := by
  unfold Station.announceList Station.placeAlarmIfPermitted Station.placeAlarm
  repeat' split
  all_goals rfl

theorem Station.setOwn_markers (s : Station) (l : List AlarmEntry) :
    (s.setOwn l).alarm.markers = s.alarm.markers := Station.announceList_markers _

theorem Station.offerEach_markers (s : Station) (l : List ViewEntry) :
    (s.offerEach l).alarm.markers = s.alarm.markers := by
  induction l generalizing s with
  | nil => rfl
  | cons e l ih => exact (ih _).trans rfl

theorem Station.offer_markers (s : Station) (l : List ViewEntry) :
    (s.offer l).alarm.markers = s.alarm.markers := by
  unfold Station.offer Station.raiseViewFull
  dsimp only
  split
  · split
    · exact s.offerEach_markers _
    · rw [Station.offerEach_markers, Station.setOwn_markers, Station.offerEach_markers]
  · exact s.offerEach_markers _

theorem Station.clearViewFull_markers (s : Station) : s.clearViewFull.alarm.markers = s.alarm.markers := by
  unfold Station.clearViewFull
  dsimp only
  rw [Station.offer_markers]
  exact s.setOwn_markers _

theorem Station.merge_markers (s : Station) (mine : Station → ViewEntry → Bool)
    (entries : Station → List ViewEntry) : (s.merge mine entries).alarm.markers = s.alarm.markers := by
  have low (u : Station) (l : List ViewEntry) : (u.clearViewFullIfLow l).alarm.markers = u.alarm.markers := by
    unfold Station.clearViewFullIfLow
    split
    · exact u.clearViewFull_markers
    · rfl
  exact (Station.offer_markers _ _).trans (low _ _)

theorem Station.changeOwn_markers (s : Station) (l : List AlarmEntry) :
    (s.changeOwn l).alarm.markers = s.alarm.markers :=
  (Station.merge_markers _ _ _).trans (s.setOwn_markers l)

theorem Station.raiseInternal_markers (s : Station) (code : Word16) :
    (s.raiseInternal code).alarm.markers = s.alarm.markers := by
  unfold Station.raiseInternal
  split
  · rfl
  · exact s.changeOwn_markers _

theorem Station.takeSource_markers (s : Station) (new : Source) :
    (s.takeSource new).alarm.markers = s.alarm.markers := by
  have holdover (u : Station) : u.enterHoldover.alarm.markers = u.alarm.markers := by
    unfold Station.enterHoldover
    dsimp only
    split
    · refine (Station.raiseInternal_markers _ _).trans ?_
      exact congrArg AlarmUnit.markers ((Station.setServoState_alarm _ _).trans u.startUnlockedIfLocked_alarm)
    · exact congrArg AlarmUnit.markers ((Station.setServoState_alarm _ _).trans u.startUnlockedIfLocked_alarm)
  unfold Station.takeSource
  dsimp only
  split
  · split
    · exact holdover _
    · exact holdover _
    · rfl
    · rfl
  · unfold Station.acquireSource
    exact congrArg AlarmUnit.markers ((Station.setServoState_alarm _ _).trans (Station.startUnlockedIfLocked_alarm _))

theorem Station.reviews_markers (s : Station) (events : Nat) : (s.reviews events).alarm.markers = s.alarm.markers := by
  refine reviews_keep (fun t => t.alarm.markers = s.alarm.markers) (fun u h => Eq.trans ?_ h) s events rfl
  have decided : ({ u with sel := u.chosen }).decideBeaconing.alarm = u.alarm := Station.decideBeaconing_alarm _
  unfold Station.review
  dsimp only
  split
  · rw [decided]
  · rw [Station.takeSource_markers, decided]

/-! ### The markers (R179) -/

theorem vector_get_set {α : Type} {n : Nat} (v : Vector α n) (i j : Fin n) (a : α) :
    (v.set i a).get j = if j = i then a else v.get j := by
  by_cases h : j = i
  · subst h
    rw [if_pos rfl]
    exact Vector.getElem_set_self j.isLt
  · rw [if_neg h]
    exact Vector.getElem_set_ne i.isLt j.isLt fun e => h (Fin.ext e.symm)

theorem Station.setMarker_get (s : Station) (p : Slot) (m : Marker) (q : Slot) :
    (s.setMarker p m).alarm.markers.get q = if q = p then m else s.alarm.markers.get q :=
  (congrArg (·.get q) (Station.merge_markers _ _ _)).trans (vector_get_set _ _ _ _)

/-- R179: a slot gone absent is marked MISSING, since the time at which it was first found so. -/
theorem Station.markMissing_get (s : Station) (p : Slot) :
    ((s.markMissing p).alarm.markers.get p = .missing s.time.sec ∨
        (s.markMissing p).alarm.markers.get p = s.alarm.markers.get p ∧
          ∃ since, s.alarm.markers.get p = .missing since) ∧
      ∀ q ≠ p, (s.markMissing p).alarm.markers.get q = s.alarm.markers.get q := by
  unfold Station.markMissing
  cases h : s.alarm.markers.get p with
  | missing since => exact ⟨.inr ⟨h, since, rfl⟩, fun _ _ => rfl⟩
  | none | removed =>
    exact ⟨.inl ((s.setMarker_get p _ p).trans (if_pos rfl)), fun q hq => (s.setMarker_get p _ q).trans (if_neg hq)⟩

/-- R179: the marker of a slot that had left goes where it is absent. -/
theorem Station.unmarkRemoved_get (s : Station) (p : Slot) (since : Nat) :
    (s.unmarkRemoved p).alarm.markers.get p ≠ .removed since := by
  unfold Station.unmarkRemoved
  cases h : s.alarm.markers.get p with
  | removed old =>
    dsimp only
    rw [s.setMarker_get p _ p, if_pos rfl]
    simp
  | none | missing => simp [h]

/-! ### Notices whose order is open (log 9) -/

theorem AlarmFrame.eitherOrder {f g : Station → Station} (hf : ∀ u, AlarmFrame u (f u))
    (hg : ∀ u, AlarmFrame u (g u)) (s : Station) :
    AlarmFrame { s with freeIdx := s.freeIdx + 1 } (eitherOrder f g s) := by
  rcases eitherOrder_cases f g s with h | h <;> rw [h]
  · exact (hf _).trans (hg _)
  · exact (hg _).trans (hf _)

/-- Of two notices the markers are those that the second leaves, where the first moves none. -/
theorem eitherOrder_markers {f g : Station → Station} (hf : ∀ u, AlarmFrame u (f u))
    (hm : ∀ u, (f u).alarm.markers = u.alarm.markers) (s : Station) :
    ∃ u, u.alarm.markers = s.alarm.markers ∧ u.time = s.time ∧
      (eitherOrder f g s).alarm.markers = (g u).alarm.markers := by
  rcases eitherOrder_cases f g s with h | h
  · exact ⟨f { s with freeIdx := s.freeIdx + 1 }, hm _, (hf _).time, by rw [h]⟩
  · exact ⟨{ s with freeIdx := s.freeIdx + 1 }, rfl, rfl, by rw [h, hm]⟩

/-! ### The flush of a slot (R79) -/

theorem Station.renewOffer_bulk_suffix (s : Station) : s.renewOffer.sched.bulk <:+ s.sched.bulk := by
  have selected : s.bulkSelection.sched.bulk <:+ s.sched.bulk := by
    obtain ⟨-, -, sheds, quiet⟩ := s.bulkSelection_spec
    cases h : s.seat.maySendAlarms with
    | true =>
      rw [(sheds h).1]
      exact List.dropWhile_suffix _
    | false => rw [quiet h]
  unfold Station.renewOffer
  split
  · exact List.suffix_rfl
  · split
    · exact List.suffix_rfl
    · split
      · exact List.suffix_rfl
      · split
        · exact List.suffix_rfl
        · exact selected

/-- R79: a card frame to slot `p` is on the lane and marked for its result. -/
def FlushedTo (p : Slot) (l : List Entry) : Prop := ∀ e ∈ l, e.dest = .slot p → e.onLane = true ∧ e.pending.isSome = true

/-- R79: the flush of the card frames to a slot, EXPRESS before BULK (log 39). -/
theorem Station.flushSlot_spec (s : Station) (p : Slot) :
    QueueFrame s (s.flushSlot p) ∧ (s.flushSlot p).sched.timing = s.sched.timing ∧
      (s.flushSlot p).sched.control = s.sched.control ∧ FlushedTo p (s.flushSlot p).sched.express ∧
      FlushedTo p (s.flushSlot p).sched.bulk ∧
      (s.flushSlot p).sched.completions = s.sched.completions ++ goneRecords s p := by
  let hit := fun e : Entry => decide (e.dest = .slot p)
  have flushed (l : List Entry) : FlushedTo p
      ((l.filter fun e => !(hit e && !e.onLane)).map fun e => if hit e then e.markPending .destGone else e) := by
    intro e he hd
    obtain ⟨x, hx, rfl⟩ := List.mem_map.1 he
    have stays : (!(hit x && !x.onLane)) = true := (List.mem_filter.1 hx).2
    have dest : x.dest = .slot p := by
      rw [← hd]
      split <;> rfl
    have hits : hit x = true := decide_eq_true dest
    rw [if_pos hits]
    rw [hits] at stays
    have onLane : x.onLane = true := by simpa using stays
    exact ⟨onLane, by simp [Entry.markPending]⟩
  obtain ⟨frame, express, others, -, records⟩ := s.flush_spec .express hit .destGone
  obtain ⟨frame', bulk, others', -, records'⟩ := (s.flush .express hit .destGone).flush_spec .bulk hit .destGone
  have old : (s.flush .express hit .destGone).sched.queue .bulk = s.sched.queue .bulk := others .bulk (by decide)
  refine ⟨frame.trans frame', (others' .timing (by decide)).trans (others .timing (by decide)),
    (others' .control (by decide)).trans (others .control (by decide)), ?_, ?_, ?_⟩
  · have same : (s.flushSlot p).sched.express = _ := (others' .express (by decide)).trans express
    rw [same]
    exact flushed _
  · have same : (s.flushSlot p).sched.bulk = _ := bulk
    rw [same, old]
    exact flushed _
  · refine records'.trans ?_
    rw [records, old, List.append_assoc, ← List.filterMap_append, ← List.filter_append]
    rfl

/-! ### A slot gone absent (R49, R79, R137, R179) -/

/-- R79, R137, R178, R179: "slot absent". -/
theorem Station.closing_notifyAbsent (s : Station) (p : Slot) (missing : Bool) :
    let t := closing (s.notifyAbsent p missing)
    t.roster = s.roster ∧ NoCandidate p t ∧ FlushedTo p t.sched.express ∧ FlushedTo p t.sched.bulk ∧
      s.sched.completions ++ goneRecords s p <+: t.sched.completions ∧ BlocksKept s t ∧
      ∃ u : Station, u.alarm.markers = s.alarm.markers ∧ u.time.sec = s.time.sec ∧
        t.alarm.markers = (if missing then u.markMissing p else u.unmarkRemoved p).alarm.markers := by
  let v := (s.flushSlot p).dropAndReview p
  obtain ⟨q, -, -, express, bulk, records⟩ := s.flushSlot_spec p
  have f : ReviewFrame (s.flushSlot p) v := (s.flushSlot p).dropAndReview_frame p
  obtain ⟨none, -⟩ := (s.flushSlot p).dropAndReview_dropped p
  have merges (u : Station) : AlarmFrame u (u.mergePeer p) := u.mergePeer_frame p
  have marks (u : Station) : AlarmFrame u (if missing then u.markMissing p else u.unmarkRemoved p) := by
    split
    · exact u.markMissing_frame p
    · exact u.unmarkRemoved_frame p
  have g : AlarmFrame { v with freeIdx := v.freeIdx + 1 } (s.notifyAbsent p missing) :=
    AlarmFrame.eitherOrder merges marks v
  obtain ⟨u, markers, time, stands⟩ := eitherOrder_markers (g := fun u => if missing then u.markMissing p else
    u.unmarkRemoved p) merges (fun u => u.merge_markers _ _) v
  obtain ⟨-, -, -, -, alarm, roster, sel, -⟩ := (s.notifyAbsent p missing).closing_frame
  have kept : BlocksKept s v := blocksKept_trans (blocksKept_of_queueFrame q) f.blocks
  have drawn : BlocksKept v { v with freeIdx := v.freeIdx + 1 } :=
    ⟨rfl, rfl, rfl, rfl, rfl, rfl, rfl, rfl, rfl, rfl, rfl⟩
  refine ⟨(roster.trans g.roster).trans (f.roster.trans q.roster), fun c hc => none c ?_, ?_, ?_, ?_,
    blocksKept_trans kept (blocksKept_trans drawn (blocksKept_trans g.toReview.blocks (Station.closing_blocks _))),
    u, ?_, ?_, ?_⟩
  · rw [sel, g.sel] at hc
    exact hc
  · rw [show (closing (s.notifyAbsent p missing)).sched.express = _ from
      (Station.renewOffer_express _).trans (g.express.trans f.express)]
    exact express
  · intro e he hd
    have mem := (Station.renewOffer_bulk_suffix _).mem he
    rw [show (s.notifyAbsent p missing).sched.bulk = _ from g.bulk.trans f.bulk] at mem
    exact bulk e mem hd
  · rw [← records, ← f.completions]
    exact g.completions ▸ (Station.renewOffer_spec _).1.completions
  · rw [markers]
    exact (Station.reviews_markers _ 1).trans (congrArg AlarmUnit.markers q.alarm)
  · rw [time, f.time, q.time]
  · rw [alarm]
    exact stands

/-- R49: a slot becomes ABSENT. -/
theorem Station.closing_becomeAbsent (s : Station) (p : Slot) (missing : Bool) :
    let t := closing (s.becomeAbsent missing p)
    t.peer p = emptiedRecord (s.peer p) s.localTime ∧ OthersKept s t p ∧ NoCandidate p t ∧
      FlushedTo p (t.sched.express ++ t.sched.bulk) ∧
      s.sched.completions ++ goneRecords s p <+: t.sched.completions ∧ BlocksKept s t ∧
      ∃ u : Station, u.alarm.markers = s.alarm.markers ∧ u.time.sec = s.time.sec ∧
        t.alarm.markers = (if missing then u.markMissing p else u.unmarkRemoved p).alarm.markers := by
  obtain ⟨roster, none, express, bulk, records, blocks, marked⟩ :=
    (s.setPeer p (emptiedRecord (s.peer p) s.localTime)).closing_notifyAbsent p missing
  obtain ⟨record, others⟩ := peers_of_setPeer roster
  exact ⟨record, others, none, fun e he => (List.mem_append.1 he).elim (express e) (bulk e), records,
    blocksKept_trans (Station.setPeer_blocks _ _ _) blocks, marked⟩

/-- R137, R178: "slot silent". -/
theorem Station.closing_notifySilent (s : Station) (p : Slot) :
    let t := closing (s.notifySilent p)
    t.roster = s.roster ∧ NoCandidate p t ∧ t.sel.source ≠ .bus p ∧ t.sched.express = s.sched.express ∧
      BlocksKept s t := by
  have silent : s.notifySilent p = (s.mergePeer p).dropAndReview p := rfl
  have g : AlarmFrame s (s.mergePeer p) := s.mergePeer_frame p
  have f := (s.mergePeer p).dropAndReview_frame p
  have dropped := (s.mergePeer p).dropAndReview_dropped p
  rw [silent]
  generalize (s.mergePeer p).dropAndReview p = v at f dropped
  obtain ⟨none, source⟩ := dropped
  obtain ⟨-, -, -, -, -, roster, sel, -⟩ := v.closing_frame
  refine ⟨roster.trans (f.roster.trans g.roster), fun c hc => none c (sel ▸ hc), sel ▸ source,
    (Station.renewOffer_express _).trans (f.express.trans g.express), ?_⟩
  exact blocksKept_trans g.toReview.blocks (blocksKept_trans f.blocks (Station.closing_blocks _))

/-- R48: a slot becomes SILENT. -/
theorem Station.closing_fallSilent (s : Station) (p : Slot) :
    let t := closing (s.fallSilent p)
    t.peer p = (s.peer p).silenced s.localTime ∧ OthersKept s t p ∧ NoCandidate p t ∧ t.sel.source ≠ .bus p ∧
      t.sched.express = s.sched.express ∧ BlocksKept s t := by
  have fallen : s.fallSilent p = (s.setPeer p ((s.peer p).silenced s.localTime)).notifySilent p := rfl
  have told := (s.setPeer p ((s.peer p).silenced s.localTime)).closing_notifySilent p
  rw [fallen]
  generalize closing ((s.setPeer p ((s.peer p).silenced s.localTime)).notifySilent p) = t at told
  obtain ⟨roster, none, source, express, blocks⟩ := told
  obtain ⟨record, others⟩ := peers_of_setPeer roster
  exact ⟨record, others, none, source, express, blocksKept_trans (Station.setPeer_blocks _ _ _) blocks⟩

end Sys2Proof.Machine

namespace Sys2Proof.Slice0

/-- Settles O32. -/
theorem unheardPeersFallSilentThenAbsent : Obligations.UnheardPeersFallSilentThenAbsent := by
  refine fun s p hold => ⟨fun h state heard => ⟨fun late => ?_, fun early => ?_⟩,
    fun h state heard => ⟨fun late => ?_, fun early => ?_⟩, fun state => ⟨fun late => ?_, fun early => ?_⟩⟩
  · have late' : h + Config.silentAfter ≤ s.localTime := late
    obtain ⟨record, others, none, source, express, blocks⟩ := s.toStation.closing_fallSilent p
    exact ⟨_, State.run_offerEvent_due _ hold (by simp [Station.silentDue, Station.unheardFor, due, state, heard, late']),
      record, others, none, source, express, blocks⟩
  · have early' : ¬ h + Config.silentAfter ≤ s.localTime := Nat.not_le.2 early
    exact State.run_offerEvent_not_due _ (by simp [Station.silentDue, Station.unheardFor, due, heard, early'])
  · have late' : h + Config.absentAfter ≤ s.localTime := late
    obtain ⟨record, others, none, flushed, records, blocks, u, markers, sec, marked⟩ :=
      s.toStation.closing_becomeAbsent p true
    refine ⟨_, State.run_offerEvent_due _ hold (by simp [Station.absentDue, Station.unheardFor, due, state, heard, late']),
      record, others, none, flushed, records, ?_, blocks⟩
    have missing := (u.markMissing_get p).1
    rw [markers, sec] at missing
    rw [marked]
    exact missing
  · have early' : ¬ h + Config.absentAfter ≤ s.localTime := Nat.not_le.2 early
    exact State.run_offerEvent_not_due _ (by simp [Station.absentDue, Station.unheardFor, due, heard, early'])
  · have late' : (s.peer p).since + Config.leftFor ≤ s.localTime := late
    obtain ⟨record, others, -, flushed, records, blocks, u, -, -, marked⟩ :=
      s.toStation.closing_becomeAbsent p false
    refine ⟨_, State.run_offerEvent_due _ hold (by simp [Station.leftDue, state, late']), record, others,
      fun since => ?_, flushed, records, blocks⟩
    rw [marked]
    exact u.unmarkRemoved_get p since
  · have early' : ¬ (s.peer p).since + Config.leftFor ≤ s.localTime := Nat.not_le.2 early
    exact State.run_offerEvent_not_due _ (by simp [Station.leftDue, early'])

end Sys2Proof.Slice0
end

section
/-! SUPPORT. The frames of membership (R47, R50, R51, R55, R56): what each makes of its source's record, and what the
notices that follow leave. -/

-- One theorem after another: the check's data limit has no room for a thread for each.
set_option Elab.async false

open Sys2Proof Sys2Proof.Machine Sys2Proof.Safety Sys2Proof.Slice0

namespace Sys2Proof.Machine

/-! ### The hand-over of a good frame that is no DATA (R47, R111) -/

theorem markGate_iff (u : Station) : markGate u.seat.state = true ↔ GateOpen u := by
  unfold GateOpen
  cases u.seat.state <;> simp [markGate]

/-- R104, R111: a good frame that is no DATA. -/
theorem exec_frameHandover_content {s : State} {key : Byte} {f : RxFrame} {c : Content} (air : Bool)
    (h : Hears s key (keySlot key) f c) (nonData : ∀ tier, c ≠ .data tier) :
    let heard := (s.peer (keySlot key)).hears c
    let u : Station := { s.toStation with lane := s.lane.heardEnd ⟨false, markGate s.seat.state && heard, false⟩ }
    exec (.frameHandover f air) s = .next { s with
      toStation := closing
        (if heard then (u.settle (keySlot key)).takeKind (keySlot key) f.seq c s.startStamp air else u) } := by
  intro heard u
  obtain ⟨receiving, good, -⟩ := h
  have d (v : Station) : v.disposition key f (some c) = .nonData := by
    unfold Station.disposition
    cases c with
    | data tier => exact absurd rfl (nonData tier)
    | beacon | rollcall | join | leave | alarm => rfl
  have marks : (if markGate s.seat.state then s.toStation.marksFor key f (goodContent key f) else Marks.none) =
      ⟨false, markGate s.seat.state && heard, false⟩ := by
    rw [good]
    cases markGate s.seat.state with
    | false => rfl
    | true =>
      unfold Station.marksFor
      rw [d]
      rfl
  have passed (v : Station) : v.filterTakes key f (some c) s.startStamp = v := by
    unfold Station.filterTakes
    rw [d]
  rw [exec_frameHandover f air receiving, Station.handOver_eq _ _ marks, good, passed]
  rfl

/-- R26, R111: the mark of a frame heard. -/
theorem markedTaken_of_marks {s t : Station} (h : t.lane.marks = ⟨false, markGate s.seat.state, false⟩) :
    MarkedTaken s t := by
  refine ⟨fun g => ?_, fun g => ?_⟩
  · rw [h, (markGate_iff s).2 g]
  · rw [h, Bool.eq_false_iff.2 fun n => g ((markGate_iff s).1 n)]

/-! ### The record as the hearing settles it (R47, R48) -/

@[simp] theorem heardRecord_alarms (u : Station) (p : Slot) : (heardRecord u p).alarms = (u.peer p).alarms := by
  unfold heardRecord
  dsimp only
  split <;> rfl

@[simp] theorem heardRecord_generation (u : Station) (p : Slot) :
    (heardRecord u p).generation = (u.peer p).generation := by
  unfold heardRecord
  dsimp only
  split <;> rfl

@[simp] theorem heardRecord_beacon (u : Station) (p : Slot) : (heardRecord u p).beacon = (u.peer p).beacon := by
  unfold heardRecord
  dsimp only
  split <;> rfl

/-- R47: the station once a source is heard. -/
theorem Station.settle_spec (u : Station) (p : Slot) :
    (u.settle p).peer p = heardRecord u p ∧ OthersKept u (u.settle p) p ∧ HeardFrame u (u.settle p) ∧
      (u.settle p).time = { u.time with a := (u.settle p).time.a } := by
  have f := u.settle_frame p
  obtain ⟨record, others⟩ := peers_of_setPeer f.roster
  exact ⟨record, others, (u.setPeer_heard p _).trans f.heard, f.time⟩

/-- R50: the record of a JOIN. -/
theorem heardRecord_joins (u : Station) (p : Slot) (now : Nat) (generation cardType : Byte) (cls : Nat)
    (cardOk : Bool) (cause : ResetCause) (first : Bool) :
    (heardRecord u p).joins now generation cardType cls cardOk cause first =
      { heardRecord u p with
        state := .present, since := now, generation := some generation
        cardType := some cardType, cls := some cls, cardOk := some cardOk
        lastJoin := some ⟨cause, first⟩, lastSeq := none, beacon := none
        alarms := { (u.peer p).alarms with stale := true } } := by
  unfold Peer.joins
  rw [heardRecord_alarms]

/-- R51: the record of a LEAVE. -/
theorem heardRecord_leaves (u : Station) (p : Slot) (now : Nat) :
    (heardRecord u p).leaves now =
      { u.peer p with
        state := .left, since := now, lastHeard := none, lastSeq := none, beacon := none
        alarms := ⟨none, [], false⟩ } := by
  unfold Peer.leaves heardRecord
  dsimp only
  split <;> rfl

/-- R55: the record of a ROLLCALL. -/
theorem heardRecord_rollcall (u : Station) (p : Slot) (cardType : Byte) (cls : Nat) (cardOk : Bool)
    (generation listSeq : Byte) :
    (heardRecord u p).rollcall cardType cls cardOk generation listSeq =
      { heardRecord u p with
        cardType := some cardType, cls := some cls, cardOk := some cardOk
        generation := some generation
        lastSeq :=
          if (u.peer p).generation = none ∨ (u.peer p).generation = some generation
            then (u.peer p).lastSeq else none
        beacon :=
          if (u.peer p).generation = none ∨ (u.peer p).generation = some generation
            then (u.peer p).beacon else none
        alarms := { (u.peer p).alarms with stale := decide ((u.peer p).alarms.listSeq ≠ some listSeq) } } := by
  have stale : (!decide ((u.peer p).alarms.listSeq = some listSeq)) =
      decide ((u.peer p).alarms.listSeq ≠ some listSeq) := by simp
  unfold Peer.rollcall
  rw [heardRecord_generation, heardRecord_lastSeq, heardRecord_beacon, heardRecord_alarms, stale]
  cases (u.peer p).generation with
  | none => simp
  | some g =>
    by_cases same : g = generation
    · simp [same]
    · simp [same]

/-! ### What reviews and merges leave of the selector and of the timers of the alarm unit -/

/-- R142: the fields of the selector that a review moves. -/
theorem Station.review_sel (s : Station) :
    s.review.sel =
      { s.sel with
        cands := s.review.sel.cands, source := s.review.sel.source, announced := s.review.sel.announced
        standing := s.review.sel.standing, lockRecord := s.review.sel.lockRecord
        beaconing := s.review.sel.beaconing, claim := s.review.sel.claim, interval := s.review.sel.interval } := by
  have decided (u : Station) : u.decideBeaconing.sel =
      { u.sel with
        beaconing := u.decideBeaconing.sel.beaconing, claim := u.decideBeaconing.sel.claim
        interval := u.decideBeaconing.sel.interval } := by
    unfold Station.decideBeaconing
    split <;> rfl
  have sel : s.review.sel = ({ s with sel := s.chosen } : Station).decideBeaconing.sel := by
    unfold Station.review
    dsimp only
    split
    · rfl
    · exact (Station.takeSource_same _ _).2
  rw [sel, decided]
  rfl

theorem Station.setMarker_nothingPlaced (s : Station) (p : Slot) (m : Marker) : NothingPlaced s (s.setMarker p m) := by
  refine NothingPlaced.trans ?_ (Station.merge_nothingPlaced _ _ _)
  exact {}

theorem Station.unmarkMissing_nothingPlaced (s : Station) (p : Slot) : NothingPlaced s (s.unmarkMissing p) := by
  unfold Station.unmarkMissing
  split
  · exact s.setMarker_nothingPlaced p _
  all_goals exact .refl s

theorem Station.unmark_nothingPlaced (s : Station) (p : Slot) : NothingPlaced s (s.unmark p) := by
  unfold Station.unmark
  split
  · exact .refl s
  all_goals exact s.setMarker_nothingPlaced p _

theorem Station.settle_nothingPlaced (s : Station) (p : Slot) : NothingPlaced s (s.settle p) := by
  have notice (r : Peer) : NothingPlaced s ((s.setPeer p r).notifyPresent p) := by
    have placed : NothingPlaced s (s.setPeer p r) := {}
    exact (placed.trans (Station.unmarkMissing_nothingPlaced _ p)).trans (Station.reviews_nothingPlaced _ 1)
  unfold Station.settle
  dsimp only
  split
  · exact notice _
  · exact notice _
  all_goals exact {}

theorem Station.dropAndReview_nothingPlaced (s : Station) (p : Slot) : NothingPlaced s (s.dropAndReview p) := by
  refine NothingPlaced.trans ?_ (Station.reviews_nothingPlaced _ 1)
  exact {}

/-! ### Slot joined (R50, R137, R174, R179) -/

/-- R179: a slot that joins has no marker. -/
theorem Station.unmark_get (s : Station) (p : Slot) :
    (s.unmark p).alarm.markers.get p = .none ∧
      ∀ q ≠ p, (s.unmark p).alarm.markers.get q = s.alarm.markers.get q := by
  unfold Station.unmark
  cases h : s.alarm.markers.get p with
  | none => exact ⟨h, fun _ _ => rfl⟩
  | missing | removed =>
    exact ⟨(s.setMarker_get p _ p).trans (if_pos rfl), fun q hq => (s.setMarker_get p _ q).trans (if_neg hq)⟩

/-- R174: a JOIN starts the stagger timer where ALARM frames may be sent. -/
theorem Station.startStagger_spec (s : Station) :
    s.startStagger.alarm.markers = s.alarm.markers ∧
      (s.seat.maySendAlarms = true →
        s.startStagger.alarm.stagger = some (s.localTime + (s.seat.slot.val + 1) * 400000)) ∧
      (s.seat.maySendAlarms = false → s.startStagger.alarm.stagger = s.alarm.stagger) := by
  unfold Station.startStagger
  cases h : s.seat.maySendAlarms with
  | true => exact ⟨rfl, fun _ => rfl, fun n => by cases n⟩
  | false => exact ⟨rfl, fun n => (by cases n), fun _ => rfl⟩

/-- R137, R174, R178, R179: "slot joined". -/
theorem Station.notifyJoined_spec (s : Station) (p : Slot) (setChanged : Bool) :
    let t := s.notifyJoined p setChanged
    t.roster = s.roster ∧ HeardFrame s t ∧
      (s.seat.maySendAlarms = true → t.alarm.stagger = some (s.localTime + (s.seat.slot.val + 1) * 400000)) ∧
      (s.seat.maySendAlarms = false → t.alarm.stagger = s.alarm.stagger) ∧
      t.alarm.markers.get p = .none ∧ OtherMarkersKept s t p := by
  have joined (u : Station) : AlarmFrame u ((u.unmark p).startStagger) :=
    (u.unmark_frame p).trans (u.unmark p).startStagger_frame
  have merged (u : Station) : AlarmFrame u (if setChanged then u.mergePeer p else u) ∧
      (if setChanged then u.mergePeer p else u).alarm.markers = u.alarm.markers ∧
      (if setChanged then u.mergePeer p else u).alarm.stagger = u.alarm.stagger := by
    split
    · exact ⟨u.mergePeer_frame p, u.merge_markers _ _, (u.merge_nothingPlaced _ _).stagger⟩
    · exact ⟨.refl u, rfl, rfl⟩
  let v : Station := { s.dropAndReview p with freeIdx := (s.dropAndReview p).freeIdx + 1 }
  have f := s.dropAndReview_frame p
  have seat : v.seat = s.seat := f.seat
  have time : v.localTime = s.localTime := f.localTime
  have stagger : v.alarm.stagger = s.alarm.stagger := (s.dropAndReview_nothingPlaced p).stagger
  have markers : v.alarm.markers = s.alarm.markers := Station.reviews_markers _ 1
  have frame : AlarmFrame v (s.notifyJoined p setChanged) := AlarmFrame.eitherOrder joined (fun u => (merged u).1) _
  have kept : HeardFrame s v := f.heard.trans {}
  obtain ⟨w, wseat, wtime, wstagger, wmarkers, ends, ends'⟩ : ∃ w : Station, w.seat = s.seat ∧
      w.localTime = s.localTime ∧ w.alarm.stagger = s.alarm.stagger ∧ w.alarm.markers = s.alarm.markers ∧
      (s.notifyJoined p setChanged).alarm.markers = ((w.unmark p).startStagger).alarm.markers ∧
      (s.notifyJoined p setChanged).alarm.stagger = ((w.unmark p).startStagger).alarm.stagger := by
    rcases eitherOrder_cases (fun u => (u.unmark p).startStagger) (fun u => if setChanged then u.mergePeer p else u)
      (s.dropAndReview p) with h | h
    · obtain ⟨-, m, g⟩ := merged ((v.unmark p).startStagger)
      exact ⟨v, seat, time, stagger, markers, (congrArg (fun t => t.alarm.markers) h).trans m,
        (congrArg (fun t => t.alarm.stagger) h).trans g⟩
    · obtain ⟨g, m, g'⟩ := merged v
      exact ⟨_, g.seat.trans seat, g.localTime.trans time, g'.trans stagger, m.trans markers,
        congrArg (fun t => t.alarm.markers) h, congrArg (fun t => t.alarm.stagger) h⟩
  obtain ⟨marked, yes, no⟩ := (w.unmark p).startStagger_spec
  have wframe := w.unmark_frame p
  obtain ⟨gone, others⟩ := w.unmark_get p
  rw [wframe.seat, wframe.localTime, wseat, wtime] at yes
  rw [wframe.seat, wseat, (w.unmark_nothingPlaced p).stagger, wstagger] at no
  refine ⟨frame.roster.trans f.roster, kept.trans frame.heard, fun h => ends'.trans (yes h),
    fun h => ends'.trans (no h), ?_, fun q hq => ?_⟩
  · rw [ends, marked]
    exact gone
  · rw [ends, marked, others q hq, wmarkers]

/-! ### Slot left (R51, R79, R137, R149, R179) -/

/-- R179: a slot that leaves is marked REMOVED. -/
theorem Station.markRemoved_get (s : Station) (p : Slot) :
    ((∀ since, s.alarm.markers.get p ≠ .removed since) →
        (s.markRemoved p).alarm.markers.get p = .removed s.time.sec) ∧
      ∀ q ≠ p, (s.markRemoved p).alarm.markers.get q = s.alarm.markers.get q := by
  unfold Station.markRemoved
  cases h : s.alarm.markers.get p with
  | removed since => exact ⟨fun n => absurd rfl (n since), fun _ _ => rfl⟩
  | none | missing =>
    exact ⟨fun _ => (s.setMarker_get p _ p).trans (if_pos rfl),
      fun q hq => (s.setMarker_get p _ q).trans (if_neg hq)⟩

/-- R79, R137, R149, R178, R179: "slot left". -/
theorem Station.notifyLeft_spec (s : Station) (p : Slot) (handover : Bool) :
    let t := s.notifyLeft p handover
    t.roster = s.roster ∧ HeardFrame s t ∧ (handover = true → t.sel.lastHandover = some ⟨p, s.localTime⟩) ∧
      ((∀ since, s.alarm.markers.get p ≠ .removed since) → t.alarm.markers.get p = .removed s.time.sec) ∧
      OtherMarkersKept s t p := by
  have q := s.flushSlot_queueFrame p
  let u := (s.flushSlot p).recordHandover p handover
  obtain ⟨roster, time, heard⟩ : u.roster = (s.flushSlot p).roster ∧ u.time = (s.flushSlot p).time ∧
      HeardFrame (s.flushSlot p) u := by
    unfold u Station.recordHandover
    split <;> exact ⟨rfl, rfl, {}⟩
  have f := u.dropAndReview_frame p
  have handed : handover = true → (u.dropAndReview p).sel.lastHandover = some ⟨p, s.localTime⟩ := fun h => by
    have last : u.sel.lastHandover = some ⟨p, (s.flushSlot p).localTime⟩ := by
      simp [u, Station.recordHandover, h]
    rw [f.handover, last, q.localTime]
  have markers : (u.dropAndReview p).alarm.markers = s.alarm.markers := by
    have same : u.alarm = (s.flushSlot p).alarm := by
      unfold u Station.recordHandover
      split <;> rfl
    exact (Station.reviews_markers _ 1).trans (congrArg AlarmUnit.markers (same.trans q.alarm))
  have frame : AlarmFrame { u.dropAndReview p with freeIdx := (u.dropAndReview p).freeIdx + 1 }
      (s.notifyLeft p handover) :=
    AlarmFrame.eitherOrder (fun w => w.mergePeer_frame p) (fun w => w.markRemoved_frame p) _
  obtain ⟨w, wmarkers, wtime, ends⟩ := eitherOrder_markers (g := fun w => w.markRemoved p)
    (fun w => w.mergePeer_frame p) (fun w => w.merge_markers _ _) (u.dropAndReview p)
  have sec : w.time.sec = s.time.sec := by rw [wtime, f.time, time, q.time]
  obtain ⟨removed, others⟩ := w.markRemoved_get p
  rw [wmarkers, markers] at removed
  refine ⟨frame.roster.trans (f.roster.trans (roster.trans q.roster)), ?_, fun h => (congrArg Selector.lastHandover frame.sel).trans
    (handed h), fun h => ?_, fun r hr => ?_⟩
  · exact ((q.heard.trans heard).trans f.heard).trans (HeardFrame.trans {} frame.heard)
  · rw [← sec, ← removed h]
    exact congrArg (·.get p) ends
  · rw [← markers, ← wmarkers, ← others r hr]
    exact congrArg (·.get r) ends

/-! ### ROLLCALL and ALARM frames (R55, R56) -/

/-- R136: the entry of `p` in the set is as its record stands. -/
def CandidateFollows (p : Slot) (s : Station) : Prop := ∀ c ∈ s.sel.cands, c.slot = p → s.candidateClass p = some c.cls

theorem Station.candidateClass_congr {s t : Station} (h : t.roster = s.roster) (p : Slot) :
    t.candidateClass p = s.candidateClass p := by
  unfold Station.candidateClass
  rw [Station.peer_of_roster _ _ h]

theorem Station.review_candidateFollows (p : Slot) (s : Station) : CandidateFollows p s.review := by
  rintro c hc rfl
  rw [s.review_cands] at hc
  obtain ⟨d, -, k, cls, rfl⟩ := (s.mem_refreshed _ c).1 hc
  rw [Station.candidateClass_congr s.review_frame.roster]
  exact cls

theorem mem_insertCandidate {c x : Candidate} {l : List Candidate} :
    x ∈ insertCandidate c l ↔ x = c ∨ x ∈ l := by
  rw [(insertCandidate_perm c l).mem_iff, List.mem_cons]

/-- R136: after a renewal the entry of `p` is that of its record. -/
theorem Station.renewCandidate_mem {s : Station} {p : Slot} {c : Candidate} (h : c ∈ (s.renewCandidate p).sel.cands) :
    c.slot = p ∧ s.candidateOf p = some c ∨ c.slot ≠ p ∧ c ∈ s.sel.cands := by
  have others {x : Candidate} (hx : x ∈ dropCandidate s.sel.cands p) : x.slot ≠ p ∧ x ∈ s.sel.cands := by
    obtain ⟨mem, slot⟩ := List.mem_filter.1 hx
    exact ⟨by simpa using slot, mem⟩
  have cands : (s.renewCandidate p).sel.cands = match s.candidateOf p with
    | some c => insertCandidate c (dropCandidate s.sel.cands p)
    | none => dropCandidate s.sel.cands p := rfl
  rw [cands] at h
  cases new : s.candidateOf p with
  | none =>
    rw [new] at h
    exact .inr (others h)
  | some d =>
    rw [new] at h
    rcases mem_insertCandidate.1 h with rfl | h
    · refine .inl ⟨?_, rfl⟩
      unfold Station.candidateOf at new
      split at new
      · split at new
        · cases new
          rfl
        · cases new
      · cases new
    · exact .inr (others h)

theorem Station.candidateOf_class {s : Station} {p : Slot} {c : Candidate} (h : s.candidateOf p = some c) :
    s.candidateClass p = some c.cls := by
  unfold Station.candidateOf at h
  split at h
  next k b cls beacon =>
    split at h
    · cases h
      exact cls
    · cases h
  · cases h

theorem Station.renewCandidate_candidateFollows (s : Station) (p : Slot) : CandidateFollows p (s.renewCandidate p) := by
  rintro c hc slot
  obtain ⟨-, own⟩ | ⟨other, -⟩ := Station.renewCandidate_mem hc
  · exact Station.candidateOf_class own
  · exact absurd slot other

theorem Station.renewCandidate_frame (s : Station) (p : Slot) : ReviewFrame s (s.renewCandidate p) := by
  constructor
  case timing => exact Withdrawn.refl _
  case control => exact ControlTold.refl _
  all_goals rfl

/-- R136, log 22: the candidate set follows the record. -/
theorem Station.candidateFollows_spec (s : Station) (p : Slot) :
    ReviewFrame s (s.candidateFollows p) ∧ CandidateFollows p (s.candidateFollows p) := by
  rcases s.candidateFollows_cases p with ⟨same, h⟩ | ⟨-, h⟩ <;> rw [h]
  · refine ⟨.refl s, fun c hc slot => ?_⟩
    exact (s.renewCandidate_candidateFollows p) c (same ▸ hc) slot
  · exact ⟨(s.renewCandidate_frame p).trans (Station.reviews_frame _ 1),
      reviews_reach (CandidateFollows p) (Station.review_candidateFollows p) _ 0⟩

/-! ### A frame heard -/

/-- The station at the end of a frame from another slot, TAKEN marked where the mark gate is open (R15, R111). -/
def marked (s : Station) : Station := { s with lane := s.lane.heardEnd ⟨false, markGate s.seat.state, false⟩ }

theorem marked_ends {s t : Station} (h : HeardFrame (marked s) t) : t.rx = s.rx ∧ MarkedTaken s t ∧ RxEnds s t := by
  obtain ⟨ends, marks, rx⟩ := rxEnds_of_heard (r := s.rx) h
  exact ⟨rx, markedTaken_of_marks marks, ends⟩

/-- R47: a good frame that the roster hears. -/
theorem exec_frameHandover_heard {s : State} {key : Byte} {f : RxFrame} {c : Content} (air : Bool)
    (h : Hears s key (keySlot key) f c) (nonData : ∀ tier, c ≠ .data tier)
    (hears : c.isJoin = true ∨ (s.peer (keySlot key)).state ≠ .left) :
    exec (.frameHandover f air) s = .next { s with
      toStation := closing
        (((marked s.toStation).settle (keySlot key)).takeKind (keySlot key) f.seq c s.startStamp air) } := by
  have heard : (s.peer (keySlot key)).hears c = true := by
    rcases hears with join | state
    · simp [Peer.hears, Peer.barred, h.unbarred, join]
    · simp [Peer.hears, Peer.barred, h.unbarred, state]
  have run := exec_frameHandover_content air h nonData
  simp only [heard, if_true, Bool.and_true] at run
  exact run

/-- R47, R51: a good frame of a source that has left is not heard, unless it is a JOIN. -/
theorem exec_frameHandover_left {s : State} {key : Byte} {f : RxFrame} {c : Content} (air : Bool)
    (h : Hears s key (keySlot key) f c) (nonData : ∀ tier, c ≠ .data tier) (noJoin : c.isJoin = false)
    (left : (s.peer (keySlot key)).state = .left) :
    exec (.frameHandover f air) s = .next { s with
      toStation := closing { s.toStation with lane := s.lane.heardEnd ⟨false, false, false⟩ } } := by
  have deaf : (s.peer (keySlot key)).hears c = false := by simp [Peer.hears, left, noJoin]
  have run := exec_frameHandover_content air h nonData
  simp only [deaf, Bool.and_false] at run
  exact run

/-- R47: the station that has heard, before the frame's kind takes effect. -/
theorem marked_settle_spec (s : Station) (p : Slot) :
    let v := (marked s).settle p
    v.peer p = heardRecord s p ∧ OthersKept s v p ∧ HeardFrame (marked s) v ∧ v.localTime = s.localTime ∧
      v.seat = s.seat ∧ v.alarm.stagger = s.alarm.stagger := by
  obtain ⟨record, others, frame, -⟩ := (marked s).settle_spec p
  exact ⟨record, others, frame, frame.localTime, frame.seat, ((marked s).settle_nothingPlaced p).stagger⟩

/-- R50: a JOIN taken. -/
theorem Station.closing_takeJoin (s : Station) (p : Slot) (generation cardType : Byte) (cls : Nat) (cardOk : Bool)
    (cause : ResetCause) (first : Bool) :
    let t := closing (s.takeJoin p generation cardType cls cardOk cause first)
    t.peer p = (s.peer p).joins s.localTime generation cardType cls cardOk cause first ∧ OthersKept s t p ∧
      HeardFrame s t ∧
      (s.seat.maySendAlarms = true → t.alarm.stagger = some (s.localTime + (s.seat.slot.val + 1) * 400000)) ∧
      (s.seat.maySendAlarms = false → t.alarm.stagger = s.alarm.stagger) ∧
      t.alarm.markers.get p = .none ∧ OtherMarkersKept s t p := by
  let w := s.setPeer p ((s.peer p).joins s.localTime generation cardType cls cardOk cause first)
  have taken : s.takeJoin p generation cardType cls cardOk cause first = w.notifyJoined p (!(s.peer p).alarms.stale) := rfl
  have spec := w.notifyJoined_spec p (!(s.peer p).alarms.stale)
  rw [taken]
  generalize w.notifyJoined p (!(s.peer p).alarms.stale) = u at spec
  obtain ⟨roster, frame, starts, stands, gone, markers⟩ := spec
  obtain ⟨-, -, -, -, alarm, croster, -⟩ := u.closing_frame
  obtain ⟨record, others⟩ := peers_of_setPeer (croster.trans roster)
  refine ⟨record, others, ((s.setPeer_heard p _).trans frame).trans u.closing_heard,
    fun h => (congrArg AlarmUnit.stagger alarm).trans (starts h),
    fun h => (congrArg AlarmUnit.stagger alarm).trans (stands h), ?_, fun q hq => ?_⟩
  · rw [alarm]
    exact gone
  · rw [alarm]
    exact markers q hq

/-- R51: a LEAVE taken. -/
theorem Station.closing_takeLeave (s : Station) (p : Slot) (handover : Bool) :
    let t := closing (s.takeLeave p handover)
    t.peer p = (s.peer p).leaves s.localTime ∧ OthersKept s t p ∧ HeardFrame s t ∧
      (handover = true → t.sel.lastHandover = some ⟨p, s.localTime⟩) ∧
      ((∀ since, s.alarm.markers.get p ≠ .removed since) → t.alarm.markers.get p = .removed s.time.sec) ∧
      OtherMarkersKept s t p := by
  let w := s.setPeer p ((s.peer p).leaves s.localTime)
  have taken : s.takeLeave p handover = w.notifyLeft p handover := rfl
  have spec := w.notifyLeft_spec p handover
  rw [taken]
  generalize w.notifyLeft p handover = u at spec
  obtain ⟨roster, frame, handed, removed, markers⟩ := spec
  obtain ⟨-, -, -, -, alarm, croster, sel, -⟩ := u.closing_frame
  obtain ⟨record, others⟩ := peers_of_setPeer (croster.trans roster)
  refine ⟨record, others, ((s.setPeer_heard p _).trans frame).trans u.closing_heard,
    fun h => (congrArg Selector.lastHandover sel).trans (handed h), fun h => ?_, fun q hq => ?_⟩
  · rw [alarm]
    exact removed h
  · rw [alarm]
    exact markers q hq

/-- R55: a ROLLCALL taken. -/
theorem Station.closing_takeRollcall (s : Station) (p : Slot) (cardType : Byte) (cls : Nat) (cardOk : Bool)
    (generation listSeq : Byte) :
    let t := closing (s.takeRollcall p cardType cls cardOk generation listSeq)
    t.peer p = (s.peer p).rollcall cardType cls cardOk generation listSeq ∧ OthersKept s t p ∧ HeardFrame s t ∧
      CandidateFollows p t := by
  let r := (s.peer p).rollcall cardType cls cardOk generation listSeq
  let w := s.setPeer p r
  let told := if r.alarms.stale = (s.peer p).alarms.stale then w else w.mergePeer p
  have taken : s.takeRollcall p cardType cls cardOk generation listSeq = told.candidateFollows p := rfl
  have g : AlarmFrame w told := by
    unfold told
    split
    · exact .refl w
    · exact w.mergePeer_frame p
  obtain ⟨f, follows⟩ := told.candidateFollows_spec p
  rw [taken]
  generalize told.candidateFollows p = u at f follows
  obtain ⟨-, -, -, -, -, croster, sel, -⟩ := u.closing_frame
  obtain ⟨record, others⟩ := peers_of_setPeer (croster.trans (f.roster.trans g.roster))
  refine ⟨record, others, ((s.setPeer_heard p _).trans (g.heard.trans f.heard)).trans u.closing_heard,
    fun c hc slot => ?_⟩
  rw [sel] at hc
  rw [Station.candidateClass_congr croster]
  exact follows c hc slot

/-- R56: an ALARM frame taken. -/
theorem Station.closing_takeAlarms (s : Station) (p : Slot) (listSeq : Byte) (entries : List AlarmEntry) :
    let t := closing (s.takeAlarms p listSeq entries)
    t.peer p = { s.peer p with alarms := ⟨some listSeq, entries, false⟩ } ∧ OthersKept s t p ∧ HeardFrame s t := by
  let w := s.setPeer p { s.peer p with alarms := ⟨some listSeq, entries, false⟩ }
  have taken : s.takeAlarms p listSeq entries = w.mergePeer p := rfl
  have g := w.mergePeer_frame p
  rw [taken]
  generalize w.mergePeer p = u at g
  obtain ⟨-, -, -, -, -, croster, -⟩ := u.closing_frame
  obtain ⟨record, others⟩ := peers_of_setPeer (croster.trans g.roster)
  exact ⟨record, others, ((s.setPeer_heard p _).trans g.heard).trans u.closing_heard⟩

theorem othersKept_trans {s t u : Station} {p : Slot} (h : OthersKept s t p) (g : OthersKept t u p) :
    OthersKept s u p := fun q hq => (g q hq).trans (h q hq)

end Sys2Proof.Machine

namespace Sys2Proof.Slice0

/-- Settles O29. -/
theorem membershipFramesSetTheRecord : Obligations.MembershipFramesSetTheRecord := by
  intro s key p f air
  refine ⟨fun generation cardType cls cardOk cause first h => ?_, fun generation handover reason h state => ?_,
    fun cardType cls cardOk generation listSeq h state => ?_, fun listSeq entries h state => ?_,
    fun c h noJoin left nonData => ?_⟩
  all_goals obtain rfl : keySlot key = p := h.receiving.source
  · have run := exec_frameHandover_heard air h (by simp) (.inl rfl)
    obtain ⟨record, others, frame, now, seat, stagger⟩ := marked_settle_spec s.toStation (keySlot key)
    generalize (marked s.toStation).settle (keySlot key) = v at run record others frame now seat stagger
    obtain ⟨joined, others', frame', starts, stands, -⟩ :=
      v.closing_takeJoin (keySlot key) generation cardType cls cardOk cause first
    rw [record, now, heardRecord_joins] at joined
    rw [seat, now, Seat.maySendAlarms_iff] at starts
    rw [seat, stagger] at stands
    refine ⟨_, run, joined, starts, fun inactive placed => stands (Bool.eq_false_iff.2 fun may => ?_),
      othersKept_trans others others', marked_ends (frame.trans frame')⟩
    rcases s.seat.maySendAlarms_iff.1 may with active | ⟨leaving, unplaced⟩
    · exact inactive active
    · rw [placed leaving] at unplaced
      cases unplaced
  · have run := exec_frameHandover_heard air h (by simp) (.inr state)
    obtain ⟨record, others, frame, now, -⟩ := marked_settle_spec s.toStation (keySlot key)
    generalize (marked s.toStation).settle (keySlot key) = v at run record others frame now
    obtain ⟨gone, others', frame', handed, -⟩ := v.closing_takeLeave (keySlot key) handover
    rw [record, now, heardRecord_leaves] at gone
    rw [now] at handed
    exact ⟨_, run, gone, handed, othersKept_trans others others', marked_ends (frame.trans frame')⟩
  · have run := exec_frameHandover_heard air h (by simp) (.inr state)
    obtain ⟨record, others, frame, -⟩ := marked_settle_spec s.toStation (keySlot key)
    generalize (marked s.toStation).settle (keySlot key) = v at run record others frame
    obtain ⟨told, others', frame', follows⟩ :=
      v.closing_takeRollcall (keySlot key) cardType cls cardOk generation listSeq
    rw [record, heardRecord_rollcall] at told
    refine ⟨_, run, told, fun c hc slot => ?_, othersKept_trans others others', marked_ends (frame.trans frame')⟩
    obtain ⟨-, -, beacon, known, least⟩ := Station.candidateClass_some _ _ _ (follows c hc slot)
    have same : c.cls = cls := by
      rw [told] at known
      exact (Option.some.inj known).symm
    exact ⟨same, same ▸ least, beacon⟩
  · have run := exec_frameHandover_heard air h (by simp) (.inr state)
    obtain ⟨record, others, frame, -⟩ := marked_settle_spec s.toStation (keySlot key)
    generalize (marked s.toStation).settle (keySlot key) = v at run record others frame
    obtain ⟨told, others', frame'⟩ := v.closing_takeAlarms (keySlot key) listSeq entries
    rw [record] at told
    exact ⟨_, run, told, othersKept_trans others others', marked_ends (frame.trans frame')⟩
  · exact exec_frameHandover_left air h nonData noJoin left

end Sys2Proof.Slice0
end

section
/-! SUPPORT. The timers of the alarm unit, the servo and the card (R19, R20, R162, R163, R173, R174, R201). -/

-- One theorem after another: the check's data limit has no room for a thread for each.
set_option Elab.async false

open Sys2Proof Sys2Proof.Machine Sys2Proof.Safety Sys2Proof.Slice0

namespace Sys2Proof.Machine

/-! ### An event that edits the own list alone -/

/-- What an operation of the alarm unit and what follows its event leave. -/
theorem AlarmFrame.closing_kept {s u : Station} (f : AlarmFrame s u) :
    let t := closing u
    t.lane = s.lane ∧ t.seat = s.seat ∧ t.roster = s.roster ∧ t.time = s.time ∧ t.servo = s.servo ∧
      t.port = { s.port with missedCause := t.port.missedCause } ∧ t.alarm = u.alarm ∧ BlocksKept s t := by
  have closed := u.closing_eq
  have blocks : BlocksKept s (closing u) := blocksKept_trans f.toReview.blocks (Station.closing_blocks _)
  dsimp only
  generalize closing u = t at closed blocks
  refine ⟨?_, ?_, ?_, ?_, ?_, ?_, ?_, blocks⟩
  · exact (congrArg Station.lane closed).trans f.lane
  · exact (congrArg Station.seat closed).trans f.seat
  · exact (congrArg Station.roster closed).trans f.roster
  · exact (congrArg Station.time closed).trans f.time
  · exact (congrArg Station.servo closed).trans f.servo
  · rw [← f.port]
    exact congrArg Station.port closed
  · rw [closed]

/-- The own list after an operation is read off the alarm unit. -/
theorem raised_of_alarm {s s' u t : Station} {code : Word16} {sev : Severity} (h : Raised s' u code sev)
    (before : s'.alarm = s.alarm) (time : s'.time = s.time) (after : t.alarm = u.alarm) : Raised s t code sev := by
  unfold Raised ownBut at *
  rw [after, ← before, ← time]
  exact h

theorem cleared_of_alarm {s s' u t : Station} {code : Word16} (h : Cleared s' u code)
    (before : s'.alarm = s.alarm) (after : t.alarm = u.alarm) : Cleared s t code := by
  unfold Cleared ownBut at *
  rw [after, ← before]
  exact h

/-! ### The TIMING cause over reviews (R199) -/

/-- The TIMING cause stands. -/
def TimingTold (s : Station) : Prop := s.port.timingCause = true

theorem Station.setServoState_timingTold {s : Station} (h : TimingTold s) (v : ServoState) :
    TimingTold (s.setServoState v) := by
  unfold Station.setServoState
  split
  · exact h
  · rfl

theorem Station.startUnlockedIfLocked_port (s : Station) : s.startUnlockedIfLocked.port = s.port := by
  unfold Station.startUnlockedIfLocked
  split <;> rfl

theorem Station.raiseInternal_timingTold {s : Station} (h : TimingTold s) (code : Word16) :
    TimingTold (s.raiseInternal code) := by
  unfold TimingTold
  rw [(s.raiseInternal_frame code).port]
  exact h

theorem Station.expireHoldover_timingTold (s : Station) : TimingTold s.expireHoldover :=
  Station.raiseInternal_timingTold (by rfl) _

theorem Station.enterHoldover_timingTold {s : Station} (h : TimingTold s) : TimingTold s.enterHoldover := by
  unfold Station.enterHoldover
  dsimp only
  split
  · exact Station.expireHoldover_timingTold _
  · refine Station.setServoState_timingTold ?_ _
    exact (congrArg Port.timingCause s.startUnlockedIfLocked_port).trans h

theorem Station.takeSource_timingTold (s : Station) (new : Source) : TimingTold (s.takeSource new) := by
  unfold Station.takeSource
  dsimp only
  split
  · split
    · exact Station.enterHoldover_timingTold rfl
    · exact Station.enterHoldover_timingTold rfl
    · rfl
    · rfl
  · refine Station.setServoState_timingTold ?_ _
    exact congrArg Port.timingCause (Station.startUnlockedIfLocked_port _)

/-- R143: the beaconing decision leaves the time and the port. -/
theorem Station.decideBeaconing_time (s : Station) :
    s.decideBeaconing.time = s.time ∧ s.decideBeaconing.port = s.port := by
  unfold Station.decideBeaconing
  split <;> exact ⟨rfl, rfl⟩

theorem Station.review_timingTold {s : Station} (h : TimingTold s) : TimingTold s.review := by
  unfold Station.review
  dsimp only
  split
  · exact (congrArg Port.timingCause (Station.decideBeaconing_time _).2).trans h
  · exact Station.takeSource_timingTold _ _

theorem Station.reviews_timingTold {s : Station} (h : TimingTold s) (events : Nat) : TimingTold (s.reviews events) :=
  reviews_keep TimingTold (fun _ => Station.review_timingTold) s events h

/-! ### Reviews with nothing to choose (R141) -/

/-- No source, no candidate and no external time in use. -/
structure NothingToFollow (s : Station) : Prop where
  cands : s.sel.cands = []
  external : s.time.external = false ∨ s.sel.extPresent = false
  source : s.sel.source = .none

theorem Station.refreshed_nil (s : Station) : s.refreshed [] = [] :=
  List.eq_nil_iff_forall_not_mem.2 fun c hc => by
    obtain ⟨d, hd, -⟩ := (s.mem_refreshed _ c).1 hc
    cases hd

theorem NothingToFollow.chosen_source {s : Station} (h : NothingToFollow s) : s.chosen.source = .none := by
  show s.chooseSource (s.refreshed s.sel.cands) = .none
  rw [h.cands, s.refreshed_nil]
  unfold Station.chooseSource
  rcases h.external with no | no <;> simp [no]

/-- R142: a review that keeps the source leaves the servo. -/
theorem Station.review_of_same {s : Station} (h : s.chosen.source = s.sel.source) :
    s.review = ({ s with sel := s.chosen }).decideBeaconing := by
  unfold Station.review
  exact if_pos h

theorem NothingToFollow.review {s : Station} (h : NothingToFollow s) :
    NothingToFollow s.review ∧ s.review.servo = s.servo := by
  have same : s.chosen.source = s.sel.source := h.chosen_source.trans h.source.symm
  obtain ⟨servo, -⟩ := ({ s with sel := s.chosen } : Station).decideBeaconing_same
  obtain ⟨time, -⟩ := ({ s with sel := s.chosen } : Station).decideBeaconing_time
  have source : s.review.sel.source = .none := s.review_source.1.trans h.chosen_source
  have cands : s.review.sel.cands = [] := by rw [s.review_cands, h.cands, s.refreshed_nil]
  have selExt := s.review_frame.selExt
  rw [Station.review_of_same same] at *
  exact ⟨⟨cands, h.external.imp (congrArg TimeBase.external time).trans selExt.trans, source⟩, servo⟩

theorem NothingToFollow.reviews_servo {s : Station} (h : NothingToFollow s) (events : Nat) :
    (s.reviews events).servo = s.servo :=
  (reviews_keep (fun u => NothingToFollow u ∧ u.servo = s.servo)
    (fun _ g => ⟨g.1.review.1, g.1.review.2.trans g.2⟩) s events ⟨h, rfl⟩).2

/-- R162: the end of the holdover timer, with its review. -/
theorem Station.closing_holdoverExpires (s : Station) :
    let t := closing (s.thenReviews Station.expireHoldover)
    t.alarm.has holdoverExpired = true ∧ t.port.timingCause = true ∧ t.roster = s.roster ∧
      (s.sel.cands = [] → s.time.external = false → s.sel.source = .none →
        t.servo = { s.servo with holdTimer := none, expired := true }) ∧
      BlocksKept s t := by
  have frame : ReviewFrame s s.expireHoldover := s.expireHoldover_frame
  have has : s.expireHoldover.alarm.has holdoverExpired = true :=
    AlarmUnit.has_of_raised (Station.raiseInternal_raised _ holdoverExpired (by decide)) (by decide)
  have told : TimingTold s.expireHoldover := s.expireHoldover_timingTold
  have raised : AlarmFrame (({ s with servo := { s.servo with holdTimer := none, expired := true } }).setTimingCause)
      s.expireHoldover := Station.raiseInternal_frame _ _
  have sel : s.expireHoldover.sel = s.sel := raised.sel
  have servo : s.expireHoldover.servo = { s.servo with holdTimer := none, expired := true } := raised.servo
  have time : s.expireHoldover.time = s.time := raised.time
  have same : s.thenReviews Station.expireHoldover =
      s.expireHoldover.reviews (servoEvents s.servo s.expireHoldover.servo) := rfl
  rw [same]
  generalize s.expireHoldover = v at *
  generalize servoEvents s.servo v.servo = n
  have f := frame.trans (v.reviews_frame n)
  have kept := v.reviews_holdoverRaised n
  have told' := Station.reviews_timingTold told n
  have quiet (h : NothingToFollow v) := h.reviews_servo n
  generalize v.reviews n = w at *
  obtain ⟨-, -, -, -, alarm, roster, -⟩ := w.closing_frame
  have closed := w.closing_eq
  refine ⟨?_, ?_, roster.trans f.roster, fun cands external source => ?_,
    blocksKept_trans f.blocks (Station.closing_blocks _)⟩
  · exact (congrArg (AlarmUnit.has · holdoverExpired) alarm).trans (kept.has (by decide) has)
  · exact (congrArg (fun u : Station => u.port.timingCause) closed).trans told'
  · refine (congrArg Station.servo closed).trans ((quiet ⟨?_, ?_, ?_⟩).trans servo)
    · rw [sel, cands]
    · exact .inl (time ▸ external)
    · rw [sel, source]

/-! ### The own list placed (R173, R174) -/

theorem alarmEntryBytes_eq (e : AlarmEntry) : alarmEntryBytes e = wireAlarm e := by
  have byte : [severityByte e.sev e.subject] = ((wireAlarm e).drop 2).take 1 := by
    unfold severityByte wireAlarm
    cases e.sev <;> cases e.subject <;> rfl
  unfold alarmEntryBytes
  rw [inTwo_eq, inFour_eq, byte]
  rfl

theorem Station.listPayload_eq (s : Station) : s.listPayload = wireAlarms s := by
  unfold Station.listPayload alarmPayload wireAlarms
  rw [bytesOf_one, funext alarmEntryBytes_eq]
  rfl

theorem Station.alarmQueued_iff (s : Station) : s.alarmQueued = true ↔ ∃ e ∈ s.sched.control, Unwon e := by
  simp [Station.alarmQueued, Entry.isUnwonAlarm, Unwon]

/-- R173, R174: the own list placed where the seat state permits it. -/
theorem Station.placeAlarmIfPermitted_eq (s : Station) : s.placeAlarmIfPermitted = withAlarmPlaced s := by
  unfold Station.placeAlarmIfPermitted withAlarmPlaced
  have queued : (!s.alarmQueued) = true ↔ ∀ e ∈ s.sched.control, ¬ Unwon e := by
    rw [Bool.not_eq_true', ← Bool.not_eq_true, s.alarmQueued_iff]
    simp
  have may := Seat.maySendAlarms_iff s.seat
  simp only [Bool.and_eq_true, queued, may, and_comm]
  split
  · unfold Station.placeAlarm
    have room : s.sched.hasRoom .control = true ↔ s.sched.control.length < 8 := Sched.hasRoom_iff _ _
    simp only [room, s.listPayload_eq]
    rfl
  · rfl

end Sys2Proof.Machine

namespace Sys2Proof.Slice0

/-- Settles O39. -/
theorem timersRaiseTheirAlarms : Obligations.TimersRaiseTheirAlarms := by
  refine fun s hold => ⟨fun line => ⟨fun late => ?_, fun early => ?_⟩, fun d timer => ⟨fun late => ?_, fun early => ?_⟩,
    fun d timer => ⟨fun late => ?_, fun early => ?_⟩, fun d state timer => ⟨fun late => ?_, fun early => ?_⟩,
    fun d timer => ⟨fun late => ?_, fun early => ?_⟩⟩
  · let u : Station :=
      { s.toStation with
        lane :=
          { s.lane with
            line := .stuck, marks := Marks.none, delimiter := false, endLeft := 0, stuckClear := none } }
    obtain ⟨lane, seat, roster, time, servo, -, alarm, -⟩ := (u.raiseInternal_frame laneStuck).closing_kept
    have raised := u.raiseInternal_raised laneStuck (by decide)
    have late' : Config.stuckRun ≤ s.lane.domRun := late
    exact ⟨_, State.run_offerEvent_due _ hold (by simp [Lane.becomesStuck, line, late']), lane,
      raised_of_alarm raised rfl rfl alarm, seat, roster, time, servo⟩
  · have early' : ¬ Config.stuckRun ≤ s.lane.domRun := Nat.not_le.2 early
    exact State.run_offerEvent_not_due _ (by simp [Lane.becomesStuck, early'])
  · let u : Station := { s.toStation with lane := { s.lane with stuckClear := none } }
    obtain ⟨lane, seat, roster, time, servo, -, alarm, -⟩ := (u.clearInternal_frame laneStuck).closing_kept
    exact ⟨_, State.run_offerEvent_due _ hold (by simp [due, timer, late]), lane,
      cleared_of_alarm (u.clearInternal_cleared laneStuck) rfl alarm, seat, roster, time, servo⟩
  · exact State.run_offerEvent_not_due _ (by simp [due, timer, early])
  · let u : Station := { s.toStation with servo := { s.servo with unlocked := .expired } }
    obtain ⟨-, -, roster, -, servo, -, alarm, blocks⟩ := (u.raiseInternal_frame referenceLost).closing_kept
    exact ⟨_, State.run_offerEvent_due _ hold (by simp [Timer.isDue, timer, late]), servo,
      raised_of_alarm (u.raiseInternal_raised referenceLost (by decide)) rfl rfl alarm, roster, blocks⟩
  · exact State.run_offerEvent_not_due _ (by simp [Timer.isDue, timer, early])
  · have run : exec .holdoverExpiry s = _ :=
      State.run_offerEvent_due _ hold (by simp [due, state, timer, late])
    obtain ⟨has, told, roster, servo, blocks⟩ := s.toStation.closing_holdoverExpires
    exact ⟨_, run, has, told, roster, servo, blocks⟩
  · exact State.run_offerEvent_not_due _ (by simp [due, timer, early])
  · let u : Station := { s.toStation with port := { s.port with watchdog := .expired, cardOk := false } }
    obtain ⟨lane, seat, roster, time, servo, port, alarm, -⟩ :=
      (u.raiseInternal_frame cardUnresponsive).closing_kept
    exact ⟨_, State.run_offerEvent_due _ hold (by simp [Timer.isDue, timer, late]), port,
      raised_of_alarm (u.raiseInternal_raised cardUnresponsive (by decide)) rfl rfl alarm, roster, seat, lane, time,
      servo⟩
  · exact State.run_offerEvent_not_due _ (by simp [Timer.isDue, timer, early])

/-- Settles O40. -/
theorem alarmTimersPlaceTheOwnList : Obligations.AlarmTimersPlaceTheOwnList := by
  have placed {s : State} {isDue : Station → Bool} {u : Station → Station} (hold : s.hold = false)
      (d : isDue s.toStation = true) :
      s.run (offerEvent isDue fun t => (u t).placeAlarmIfPermitted) =
        .next { s with toStation := closing (withAlarmPlaced (u s.toStation)) } := by
    rw [← Station.placeAlarmIfPermitted_eq]
    exact State.run_offerEvent_due _ hold d
  refine fun s d hold => ⟨fun timer => ⟨fun late => ?_, fun early => ?_⟩,
    fun timer => ⟨fun late => ?_, fun early => ?_⟩, fun timer => ⟨fun late => ?_, fun early => ?_⟩⟩
  · exact placed (u := fun t => { t with alarm := { t.alarm with refresh := some (t.localTime + Config.refresh) } })
      hold (by simp [due, timer, late])
  · exact State.run_offerEvent_not_due _ (by simp [due, timer, early])
  · exact placed (u := fun t => { t with alarm := { t.alarm with stagger := none } }) hold
      (by simp [due, timer, late])
  · exact State.run_offerEvent_not_due _ (by simp [due, timer, early])
  · exact placed (u := fun t => { t with alarm := { t.alarm with retry := none } }) hold (by simp [due, timer, late])
  · exact State.run_offerEvent_not_due _ (by simp [due, timer, early])

end Sys2Proof.Slice0
end

section
/-! SUPPORT. The candidates' deadlines and the beacon timers (R136, R144, R145), and the external signal (R129, R130,
R156). -/

-- One theorem after another: the check's data limit has no room for a thread for each.
set_option Elab.async false

open Sys2Proof Sys2Proof.Machine Sys2Proof.Safety Sys2Proof.Slice0

namespace Sys2Proof.Machine

/-! ### Rank and the beaconing condition (R134, R143) -/

theorem ranksAbove_iff (c1 c2 : Nat) (s1 s2 : Slot) :
    ranksAbove c1 s1.val c2 s2.val = true ↔ c1 < c2 ∨ c1 = c2 ∧ s1 < s2 := by
  simp [ranksAbove]

theorem Source.isBus_false_iff (x : Source) : x.isBus = false ↔ x = .none ∨ x = .external := by
  cases x <;> simp [Source.isBus]

/-- R143: the beaconing condition. -/
theorem Station.beaconCondition_iff (s : Station) :
    s.beaconCondition = true ↔
      s.sel.eligible = true ∧ s.seat.state = .active ∧ (s.sel.source = .none ∨ s.sel.source = .external) ∧
        ∀ c ∈ s.sel.cands, ¬ (c.cls < s.sel.announced ∨ c.cls = s.sel.announced ∧ c.slot < s.seat.slot) := by
  have above (c : Candidate) := ranksAbove_iff c.cls s.sel.announced c.slot s.seat.slot
  simp only [Station.beaconCondition, Bool.and_eq_true, Bool.not_eq_true', decide_eq_true_eq,
    Source.isBus_false_iff, List.any_eq_false, above, and_assoc]

/-! ### Deadlines over reviews (R136) -/

/-- Every candidate of `t` was one of `s`, with the same deadline. -/
def CandsFrom (s t : Station) : Prop :=
  ∀ c ∈ t.sel.cands, ∃ d ∈ s.sel.cands, d.slot = c.slot ∧ d.deadline = c.deadline

theorem Station.reviews_candsFrom (s : Station) (events : Nat) : CandsFrom s (s.reviews events) := by
  refine reviews_keep (CandsFrom s) (fun u h c hc => ?_) s events fun c hc => ⟨c, hc, rfl, rfl⟩
  rw [u.review_cands] at hc
  obtain ⟨d, hd, k, -, rfl⟩ := (u.mem_refreshed _ c).1 hc
  exact h d hd

theorem Station.dropAndReview_candsFrom (s : Station) (p : Slot) : CandsFrom s (s.dropAndReview p) := by
  intro c hc
  obtain ⟨d, hd, same⟩ := (s.removeCandidate p).reviews_candsFrom 1 c hc
  exact ⟨d, List.mem_of_mem_filter hd, same⟩

/-- R137: a slot dropped from the set, with what follows the event. -/
theorem Station.closing_dropAndReview (s : Station) (p : Slot) :
    let t := closing (s.dropAndReview p)
    NoCandidate p t ∧ CandsFrom s t ∧ t.sel.source ≠ .bus p ∧ t.roster = s.roster ∧
      t.sched.express = s.sched.express ∧ BlocksKept s t := by
  have f := s.dropAndReview_frame p
  obtain ⟨none, source⟩ := s.dropAndReview_dropped p
  have deadlines := s.dropAndReview_candsFrom p
  generalize s.dropAndReview p = v at *
  obtain ⟨-, -, -, -, -, roster, sel, -⟩ := v.closing_frame
  exact ⟨fun c hc => none c (sel ▸ hc), fun c hc => deadlines c (sel ▸ hc), sel ▸ source,
    roster.trans f.roster, (Station.renewOffer_express _).trans f.express,
    blocksKept_trans f.blocks (Station.closing_blocks _)⟩

/-! ### The beacon timers (R144, R145) -/

/-- R145: a beacon placed where TIMING is empty. -/
theorem Station.placeBeacon_eq (s : Station) :
    s.placeBeacon =
      { s with
        sel := { s.sel with interval := some (s.localTime + 6250000) }
        sched :=
          { s.sched with
            timing :=
              if s.sched.timing = [] then [Entry.placed .beacon .all 0 [] none none] else s.sched.timing } } := by
  have room : s.sched.hasRoom .timing = true ↔ s.sched.timing = [] := by
    refine (Sched.hasRoom_iff _ _).trans (Nat.lt_one_iff.trans ?_)
    exact List.length_eq_zero_iff
  unfold Station.placeBeacon
  by_cases empty : s.sched.timing = []
  · have placed : s.sched.append .timing (Entry.internal .beacon []) =
        { s.sched with timing := [Entry.placed .beacon .all 0 [] none none] } := by
      show ({ s.sched with timing := s.sched.timing ++ _ } : Sched) = _
      rw [empty]
      rfl
    dsimp only
    rw [if_pos (room.2 empty), if_pos empty, placed]
    rfl
  · dsimp only
    rw [if_neg (fun h => empty (room.1 h)), if_neg empty]
    rfl

/-! ### The external source over reviews (R141) -/

/-- R141: the source is EXTERNAL exactly where external time is in use and the signal is present. -/
def ExternalFollowed (s : Station) : Prop :=
  s.sel.source = .external ↔ s.time.external = true ∧ s.sel.extPresent = true

theorem Station.chooseSource_external (s : Station) (l : List Candidate) :
    s.chooseSource l = .external ↔ s.time.external = true ∧ s.sel.extPresent = true := by
  unfold Station.chooseSource
  split
  next h => simpa using h
  next h =>
    have no : ¬ (s.time.external = true ∧ s.sel.extPresent = true) := by simpa using h
    refine iff_of_false (fun other => ?_) no
    split at other
    · split at other <;> cases other
    · cases other

theorem Station.review_externalFollowed (s : Station) : ExternalFollowed s.review := by
  have f := s.review_frame
  have source : s.review.sel.source = s.chooseSource (s.refreshed s.sel.cands) := s.review_source.1
  have external : s.review.time.external = s.time.external := by rw [f.time]
  unfold ExternalFollowed
  rw [source, external, f.selExt]
  exact s.chooseSource_external _

/-- R156: a report of the external signal, with what follows the event. -/
theorem Station.closing_reportExternal (s : Station) (present : Bool) :
    let t := closing (s.reportExternal present)
    t.sel.extPresent = present ∧ (t.sel.source = .external ↔ s.time.external = true ∧ present = true) ∧
      t.servo.announcement = s.servo.announcement ∧ t.servo.extLoss = s.servo.extLoss ∧
      t.servo.extPresent = s.servo.extPresent ∧ t.roster = s.roster ∧ t.sched.express = s.sched.express ∧
      BlocksKept s t := by
  let told : Station := { s with sel := { s.sel with extPresent := present } }
  have set : ReviewFrame { s with sel := told.sel } (s.reportExternal present) := told.reviews_frame 1
  have followed : ExternalFollowed (s.reportExternal present) :=
    reviews_reach ExternalFollowed Station.review_externalFollowed told 0
  have kept : BlocksKept s told := ⟨rfl, rfl, rfl, rfl, rfl, rfl, rfl, rfl, rfl, rfl, rfl⟩
  have blocks : BlocksKept s (closing (s.reportExternal present)) :=
    blocksKept_trans kept (blocksKept_trans set.blocks (Station.closing_blocks _))
  generalize s.reportExternal present = v at *
  obtain ⟨-, -, -, -, -, roster, sel, -⟩ := v.closing_frame
  have servo : (closing v).servo = v.servo := by rw [v.closing_eq]
  have ext : v.time.external = s.time.external := by rw [set.time]
  refine ⟨?_, ?_, ?_, ?_, ?_, roster.trans set.roster, (Station.renewOffer_express _).trans set.express, blocks⟩
  · exact (congrArg Selector.extPresent sel).trans set.selExt
  · rw [sel, show v.sel.source = .external ↔ _ from followed, ext, set.selExt]
  · exact (congrArg Servo.announcement servo).trans set.announcement
  · exact (congrArg Servo.extLoss servo).trans set.extLoss
  · exact (congrArg Servo.extPresent servo).trans set.extPresent

/-! ### Edges and announcements (R130, R156) -/

/-- R156: the announcement that an edge pairs with. -/
theorem Station.validAnnouncement_eq {s : Station} {x : Announcement} (h : s.servo.announcement = some x) :
    s.validAnnouncement = if s.localTime < x.arrival + 110000000 then some x.second else none := by
  unfold Station.validAnnouncement
  rw [h]
  rfl

/-- R130: an announcement more than 1.1 s old is discarded. -/
theorem Station.discardStale_eq {s : Station} {x : Announcement} (h : s.servo.announcement = some x) :
    s.discardStale =
      if x.arrival + 110000000 < s.localTime then { s with servo := { s.servo with announcement := none } }
      else s := by
  unfold Station.discardStale
  rw [h]
  rfl

theorem Station.ppsEdge_valid {s : Station} {x : Announcement} (h : s.servo.announcement = some x)
    (valid : s.localTime < x.arrival + 110000000) (air : Bool) : s.ppsEdge air = s.edgePairs x.second air := by
  unfold Station.ppsEdge
  rw [Station.validAnnouncement_eq h, if_pos valid]

theorem Station.ppsEdge_invalid {s : Station} {x : Announcement} (h : s.servo.announcement = some x)
    (old : ¬ s.localTime < x.arrival + 110000000) (air : Bool) : s.ppsEdge air = s.discardStale := by
  unfold Station.ppsEdge
  rw [Station.validAnnouncement_eq h, if_neg old]

end Sys2Proof.Machine

namespace Sys2Proof.Slice0

/-- Settles O35. -/
theorem candidatesExpireAndBeaconsArePlaced : Obligations.CandidatesExpireAndBeaconsArePlaced := by
  refine fun s hold => ⟨fun p stale => ?_, fun p fresh => ?_, fun d claiming claim late eligible active source best => ?_,
    fun early => ?_, fun off => ?_, fun d on timer => ⟨fun late => ?_, fun early => ?_⟩⟩
  · have isDue : s.candidateStale p = true := by
      obtain ⟨c, hc, slot, late⟩ := stale
      exact List.any_eq_true.2 ⟨c, hc, by simp [slot, late]⟩
    have run : exec (.candidateDeadline p) s = _ := State.run_offerEvent_due _ hold isDue
    obtain ⟨none, deadlines, source, roster, express, blocks⟩ := s.toStation.closing_dropAndReview p
    exact ⟨_, run, fun c hc => ⟨none c hc, deadlines c hc⟩, source, roster, express, blocks⟩
  · refine State.run_offerEvent_not_due _ (List.any_eq_false.2 fun c hc => ?_)
    by_cases slot : c.slot = p
    · simp [fresh c hc slot]
    · simp [slot]
  · have condition : s.toStation.beaconCondition = true :=
      s.toStation.beaconCondition_iff.2 ⟨eligible, active, source, best⟩
    refine (State.run_offerEvent_due _ hold (by simp [Station.claimDue, due, claiming, claim, late, condition])).trans ?_
    refine congrArg (fun u => Host.Outcome.next { s with toStation := closing u }) ?_
    exact Station.placeBeacon_eq _
  · refine State.run_offerEvent_not_due _ ?_
    unfold Station.claimDue
    rcases early with other | early
    · simp [other]
    · cases claim : s.sel.claim with
      | none => simp [due]
      | some d => simp [due, early d claim]
  · exact State.run_offerEvent_not_due _ (by simp [Station.intervalDue, off])
  · refine (State.run_offerEvent_due _ hold (by simp [Station.intervalDue, due, on, timer, late])).trans ?_
    exact congrArg (fun u => Host.Outcome.next { s with toStation := closing u }) (Station.placeBeacon_eq _)
  · exact State.run_offerEvent_not_due _ (by simp [Station.intervalDue, due, timer, early])

/-- Settles O37. -/
theorem externalEdgesPairWithAnnouncements : Obligations.ExternalEdgesPairWithAnnouncements := by
  intro s air hold
  have edge {v : Station} (external : s.time.external = true) (h : s.toStation.ppsEdge air = v) :
      exec (.extPpsEdge air) s = .next { s with toStation := closing v } := by
    rw [← h]
    exact State.run_offerEvent_due _ hold external
  refine ⟨fun external => State.run_offerEvent_not_due _ external, fun external none => edge external ?_,
    fun x announced => ⟨fun external exact_ => edge external ?_, fun external old => edge external ?_,
      fun external valid absent => ?_, fun old => ?_, fun young => ?_⟩, fun d timer => ⟨fun late => ?_, fun early => ?_⟩⟩
  · simp [Station.ppsEdge, Station.validAnnouncement, Station.discardStale, none]
  · rw [Station.ppsEdge_invalid announced (by omega), Station.discardStale_eq announced, if_neg (by omega)]
  · rw [Station.ppsEdge_invalid announced (by omega), Station.discardStale_eq announced, if_pos old]
  · have pairs : s.toStation.ppsEdge air = s.toStation.pairEdge.reportExternal true := by
      rw [Station.ppsEdge_valid announced valid]
      exact if_neg (by simp [absent])
    obtain ⟨present, source, announcement, loss, servo, roster, express, blocks⟩ :=
      s.toStation.pairEdge.closing_reportExternal true
    have kept : BlocksKept s.toStation s.toStation.pairEdge :=
      ⟨rfl, rfl, rfl, rfl, rfl, rfl, rfl, rfl, rfl, rfl, rfl⟩
    exact ⟨_, edge external pairs, announcement, loss, servo, present, source.2 ⟨external, rfl⟩, roster, express,
      blocksKept_trans kept blocks⟩
  · refine (State.run_event_due _ hold ?_).trans ?_
    · have old' : x.arrival + Config.announceValid < s.localTime := old
      simp [Station.announcementOld, announced, old']
    · rw [Station.discardStale_eq announced, if_pos old]
  · have young' : ¬ x.arrival + Config.announceValid < s.localTime := Nat.not_lt.2 young
    exact State.run_event_not_due _ (by simp [Station.announcementOld, announced, young'])
  · let lost : Station := { s.toStation with servo := { s.servo with extLoss := none, extPresent := false } }
    have kept : BlocksKept s.toStation lost := ⟨rfl, rfl, rfl, rfl, rfl, rfl, rfl, rfl, rfl, rfl, rfl⟩
    obtain ⟨present, source, -, loss, servo, roster, express, blocks⟩ := lost.closing_reportExternal false
    exact ⟨_, State.run_offerEvent_due _ hold (by simp [due, timer, late]), loss, servo, present,
      fun h => Bool.false_ne_true (source.1 h).2, roster, express, blocksKept_trans kept blocks⟩
  · exact State.run_offerEvent_not_due _ (by simp [due, timer, early])

end Sys2Proof.Slice0
end

section
/-! SUPPORT. What every request does before its own effect (R189, R201), and the requests that read: the views, the
cursor, the time (R165, R184, R185, R194 to R196). -/

-- One theorem after another: the check's data limit has no room for a thread for each.
set_option Elab.async false

open Sys2Proof Sys2Proof.Machine Sys2Proof.Safety Sys2Proof.Slice0

namespace Sys2Proof.Machine

/-! ### What every request does first (R189, R201) -/

/-- R201: the alarm unit after a raised CARD_UNRESPONSIVE is cleared. -/
theorem Station.cardAlive_alarm (s : Station) :
    s.cardAlive.alarm = (s.renewWatchdog.clearInternal cardUnresponsive).alarm := by
  unfold Station.cardAlive
  dsimp only
  split
  · exact (Station.renewOffer_spec _).1.alarm
  next h =>
    unfold Station.clearInternal
    rw [if_neg h]

theorem Station.cardAlive_quiet (s : Station) : s.cardAlive.alarm.has cardUnresponsive = false := by
  rw [s.cardAlive_alarm]
  exact AlarmUnit.not_has_of_cleared (Station.clearInternal_cleared _ cardUnresponsive) (by decide)

/-- R189, R201: card_ok is renewed, and the watchdog in ACTIVE. -/
theorem Station.cardAlive_port (s : Station) :
    s.cardAlive.port =
      { s.port with
        cardOk := true, missedCause := s.cardAlive.port.missedCause
        watchdog :=
          if s.seat.state = .active then s.port.watchdogIn true s.localTime else s.port.watchdog } := by
  have renewed : s.renewWatchdog.port =
      { s.port with
        cardOk := true, missedCause := s.renewWatchdog.port.missedCause
        watchdog :=
          if s.seat.state = .active then s.port.watchdogIn true s.localTime else s.port.watchdog } := by
    unfold Station.renewWatchdog
    simp only [decide_eq_true_eq]
  unfold Station.cardAlive
  dsimp only
  split
  · have q := (Station.renewOffer_spec (s.renewWatchdog.clearInternal cardUnresponsive)).1.port
    rw [(s.renewWatchdog.clearInternal_frame cardUnresponsive).port, renewed] at q
    exact q
  · exact renewed

/-! ### Requests that only read or move the cursor -/

/-- R188: a request that the port serves, by the name of its effect. -/
theorem State.run_answered {s : State} (h : Serving s) {req : Instr} {f : Station → Answer} {a : Answer}
    (hf : f s.cardAlive = a) :
    s.run (Station.serve req f) = .next { s with toStation := served a.1 req a.2.1 a.2.2 } :=
  State.run_serve h hf

theorem findIdent_split {before after : List ViewEntry} {e : ViewEntry} (h : ∀ x ∈ before, x.ident ≠ e.ident) :
    findIdent (before ++ e :: after) e.ident = some e := by
  unfold findIdent
  rw [List.find?_append, List.find?_eq_none.2 fun x hx => by simpa using h x hx]
  simp

theorem takeWhile_split {before after : List ViewEntry} {e : ViewEntry} (h : ∀ x ∈ before, x.ident ≠ e.ident) :
    ((before ++ e :: after).takeWhile fun x => !(x.ident = e.ident)) = before := by
  rw [List.takeWhile_append_of_pos fun x hx => by simpa using h x hx]
  simp

theorem dropWhile_split {before after : List ViewEntry} {e : ViewEntry} (h : ∀ x ∈ before, x.ident ≠ e.ident) :
    ((before ++ e :: after).dropWhile fun x => !(x.ident = e.ident)) = e :: after := by
  rw [List.dropWhile_append_of_pos fun x hx => by simpa using h x hx]
  simp

/-- R184: the cursor stands on `e`, with `before` and `after` around it in the view. -/
structure CursorOn (u : Station) (before : List ViewEntry) (e : ViewEntry) (after : List ViewEntry) : Prop where
  cursor : u.alarm.cursor = some e.ident
  view : u.alarm.view = before ++ e :: after
  first : ∀ x ∈ before, x.ident ≠ e.ident

theorem CursorOn.atCursor {u : Station} {before after : List ViewEntry} {e : ViewEntry} (h : CursorOn u before e after) :
    u.atCursor = some e := by
  unfold Station.atCursor
  rw [h.cursor, h.view]
  exact findIdent_split h.first

theorem CursorOn.afterCursor {u : Station} {before after : List ViewEntry} {e : ViewEntry}
    (h : CursorOn u before e after) : u.afterCursor = after.head? := by
  unfold Station.afterCursor successor
  rw [h.cursor, h.view, Option.bind_some, dropWhile_split h.first]
  rfl

theorem CursorOn.beforeCursor {u : Station} {before after : List ViewEntry} {e : ViewEntry}
    (h : CursorOn u before e after) : u.beforeCursor = before.getLast? := by
  unfold Station.beforeCursor predecessor
  rw [h.cursor, h.view, Option.bind_some, takeWhile_split h.first]

theorem CursorOn.placesFrom {u : Station} {before after : List ViewEntry} {e : ViewEntry}
    (h : CursorOn u before e after) (k : Int) :
    (u.alarm.cursor.bind fun i => placesFrom u.alarm.view i k) =
      if (before.length : Int) + k < 0 then none else u.alarm.view[((before.length : Int) + k).toNat]? := by
  rw [h.cursor, Option.bind_some]
  unfold Machine.placesFrom
  have place : (u.alarm.view.takeWhile fun x => !(x.ident = e.ident)) = before := by
    rw [h.view]
    exact takeWhile_split h.first
  dsimp only
  rw [place]
  by_cases past : (before.length : Int) + k < 0
  · rw [if_neg (by omega), if_pos past]
  · rw [if_pos (by omega), if_neg past]

/-- R184: a cursor at END stays there. -/
theorem Station.setCursor_none {u : Station} (h : u.alarm.cursor = none) : u.setCursor none = u := by
  unfold Station.setCursor
  rw [Option.map_none, ← h]

theorem peekArg_some {k : Byte} (h : -8 ≤ k.toInt) (h' : k.toInt ≤ 8) : peekArg k = some k.toInt := by
  simp [peekArg, h, h']

theorem peekArg_none {k : Byte} (h : k.toInt < -8 ∨ 8 < k.toInt) : peekArg k = none := by
  refine if_neg fun both => ?_
  simp only [Bool.and_eq_true, decide_eq_true_eq] at both
  omega

/-! ### Reports -/

theorem vector_toList_four {α : Type} (v : Vector α 4) : v.toList = [v.get 0, v.get 1, v.get 2, v.get 3] := by
  obtain ⟨⟨l⟩, four⟩ := v
  match l, four with
  | [_, _, _, _], _ => rfl

theorem Sched.clearMissed_eq (c : Sched) :
    c.clearMissed = { c with periodic := c.periodic.map fun e => { e with missed := false } } := by
  have set : c.clearMissed.periodic = c.periodic.map fun e => { e with missed := false } := by
    refine Vector.ext fun i hi => ?_
    have four : i = 0 ∨ i = 1 ∨ i = 2 ∨ i = 3 := by omega
    rcases four with rfl | rfl | rfl | rfl <;> simp [Sched.clearMissed, Vector.get]
  exact congrArg (fun v => { c with periodic := v }) set

/-- R165: seconds are true to within one. -/
theorem asSeconds_withinASecond (periods : Nat) : WithinASecond (asSeconds periods) periods := by
  have second : Config.seconds 1 = 100000000 := rfl
  unfold WithinASecond asSeconds
  rw [second]
  split <;> omega

/-- R165: the report of the holdover timer. -/
theorem Station.holdoverReport_spec (s : Station) :
    (s.servo.state ≠ .holdover → s.holdoverReport = none) ∧
      (s.servo.state = .holdover → s.servo.expired = true → s.holdoverReport = some .expired) ∧
      ∀ d, s.servo.state = .holdover → s.servo.expired = false → s.servo.holdTimer = some d →
        ∃ n, s.holdoverReport = some (.remaining n) ∧ WithinASecond n (d - s.localTime) := by
  unfold Station.holdoverReport
  refine ⟨fun out => if_neg out, fun held expired => ?_, fun d held running timer => ?_⟩
  · rw [if_pos held, if_pos expired]
  · rw [if_pos held, if_neg (by simp [running]), timer]
    exact ⟨_, rfl, asSeconds_withinASecond _⟩

/-- R165: the report of the unlocked timer. -/
theorem Station.unlockedReport_spec (s : Station) :
    (s.servo.unlocked = .stopped → s.unlockedReport = none) ∧
      (s.servo.unlocked = .expired → s.unlockedReport = some 10) ∧
      ∀ d, s.servo.unlocked = .running d →
        ∃ n, s.unlockedReport = some (min 10 n) ∧ WithinASecond n (s.localTime + 1000000000 - d) := by
  unfold Station.unlockedReport
  refine ⟨fun timer => ?_, fun timer => ?_, fun d timer => ?_⟩
  · rw [timer]
  · rw [timer]
  · rw [timer]
    exact ⟨_, rfl, asSeconds_withinASecond _⟩

end Sys2Proof.Machine

namespace Sys2Proof.Slice0

/-- Settles O49. -/
theorem viewsReportAndClearTheirCause : Obligations.ViewsReportAndClearTheirCause := by
  intro s serving u
  obtain ⟨frame, -, seat, roster, -, sel, -, -, -⟩ := s.toStation.cardAlive_frame
  have port := s.toStation.cardAlive_port
  refine ⟨?_, fun b p place => ?_, fun b high => ?_, ?_, ?_, ?_⟩
  · refine State.run_serve serving ?_
    have report : u.stationReport =
        { state := s.seat.state, slot := s.seat.slot, generation := s.seat.generation, cause := s.seat.cause
          leaveReason := if s.seat.state = .leaving then s.seat.leaveReason else none
          cardOk := true, watchdog := u.port.watchdog, cardTimeout := s.port.timeout
          txRoom := s.port.txRoom, reapLevel := s.port.reapLevel, causes := u.causes } := by
      unfold Station.stationReport
      rw [seat, port]
    exact congrArg (fun r => (({ u with port := { u.port with seatCause := false } } : Station).answer (.station r)))
      report
  · refine State.run_serve serving ?_
    have slot : (Fin.ofNat 16 b.toNat : Slot) = p := by
      rw [place]
      exact Fin.ofNat_val_eq_self p
    have report : u.rosterReport p =
        if p = s.seat.slot then .self s.seat.generation s.roster.cardType s.sel.announced else .peer (s.peer p) := by
      unfold Station.rosterReport Station.peer
      rw [seat, roster, sel]
    unfold Station.viewRoster
    rw [if_pos (by omega), slot]
    exact congrArg (fun r => u.answer (.roster r)) report
  · exact State.run_serve serving (if_neg (by omega))
  · refine State.run_serve serving ?_
    show Station.viewQueues u = _
    unfold Station.viewQueues Station.queuesReport
    rw [Sched.clearMissed_eq, ← vector_toList_four, show u.rx = s.rx from frame.rx, show u.share = s.share from frame.share]
    rfl
  · refine State.run_serve serving ?_
    show Station.viewReference u = _
    unfold Station.viewReference
    rw [show u.sel = s.sel from sel]
    rfl
  · have hold : u.hold = false := frame.hold.trans serving.1
    have outs : (served u .viewAlarms .ok (Station.viewAlarms u).2.2).outs =
        ({ u with port := replied u .viewAlarms .ok (Station.viewAlarms u).2.2 } : Station).outputs :=
      if_neg (by simp [hold])
    have relayCapable : u.alarm.relayCapable = s.alarm.relayCapable :=
      (congrArg AlarmUnit.relayCapable s.toStation.cardAlive_alarm).trans
        (Station.clearInternal_frame s.renewWatchdog cardUnresponsive).relayCapable
    refine ⟨_, _, _, State.run_serve serving rfl, rfl, rfl, rfl, rfl, rfl, rfl, rfl, relayCapable, ?_, ?_,
      Option.isNone_iff_eq_none⟩
    · exact (congrArg Outputs.critRelay outs).symm
    · exact (congrArg Outputs.majRelay outs).symm

/-- Settles O50. -/
theorem readsAndSeeksMoveTheCursor : Obligations.ReadsAndSeeksMoveTheCursor := by
  intro s serving u moved sought
  refine ⟨fun before after e cursor view first => ?_, fun ended => ?_, fun k out => ?_, ?_, ?_⟩
  · have on : CursorOn u before e after := ⟨cursor, view, first⟩
    refine ⟨State.run_serve serving ?_, State.run_serve serving ?_, State.run_serve serving ?_,
      State.run_serve serving ?_, fun k low high => State.run_serve serving ?_⟩
    · exact congrArg (fun x => u.answer (.viewRecord x)) on.atCursor
    · exact congrArg₂ (fun c x => (u.setCursor c).answer (.viewRecord x)) on.afterCursor on.atCursor
    · exact congrArg₂ (fun c x => (u.setCursor c).answer (.viewRecord x)) on.beforeCursor on.atCursor
    · exact congrArg (fun c => (u.setCursor c).answer (.viewRecord c)) on.afterCursor
    · unfold Station.readPeek
      rw [peekArg_some low high]
      exact congrArg (fun x => u.answer (.viewRecord x)) (on.placesFrom _)
  · have at_ : u.atCursor = none := by rw [Station.atCursor, ended, Option.bind_none]
    have after : u.afterCursor = none := by rw [Station.afterCursor, ended, Option.bind_none]
    have before : u.beforeCursor = none := by rw [Station.beforeCursor, ended, Option.bind_none]
    have stays := Station.setCursor_none ended
    refine ⟨State.run_serve serving ?_, State.run_serve serving ?_, State.run_serve serving ?_,
      State.run_serve serving ?_, fun k low high => State.run_serve serving ?_⟩
    · exact congrArg (fun x => u.answer (.viewRecord x)) at_
    · show (u.setCursor u.afterCursor).answer (.viewRecord u.atCursor) = _
      rw [after, at_, stays]
      rfl
    · show (u.setCursor u.beforeCursor).answer (.viewRecord u.atCursor) = _
      rw [before, at_, stays]
      rfl
    · show (u.setCursor u.afterCursor).answer (.viewRecord u.afterCursor) = _
      rw [after, stays]
      rfl
    · unfold Station.readPeek
      rw [peekArg_some low high]
      show u.answer (.viewRecord (u.alarm.cursor.bind _)) = _
      rw [ended, Option.bind_none]
      rfl
  · refine State.run_serve serving ?_
    unfold Station.readPeek
    rw [peekArg_none out]
    rfl
  · exact State.run_serve serving rfl
  · exact State.run_serve serving rfl

/-- Settles O52. -/
theorem timeRequestsReportAndAnnounce : Obligations.TimeRequestsReportAndAnnounce := by
  intro s serving u
  obtain ⟨frame, -, -, -, time, -, servo, -, -⟩ := s.toStation.cardAlive_frame
  have now : u.localTime = s.localTime := frame.localTime
  have hold := u.holdoverReport_spec
  have unlocked := u.unlockedReport_spec
  have sameServo : u.servo = s.servo := servo
  rw [sameServo, now] at hold unlocked
  obtain ⟨holdOut, holdExpired, holdRunning⟩ := hold
  obtain ⟨stopped, expired, running⟩ := unlocked
  have timeReport : u.timeReport = _ := congrArg (fun x => ({ u with time := x } : Station).timeReport) time
  have field {α : Type} (f : Servo → α) : f u.servo = f s.servo := congrArg f servo
  refine ⟨⟨_, _, u.timeReport, u.servoReport, State.run_serve serving rfl, rfl, rfl, rfl, rfl, timeReport,
    field Servo.state, field Servo.source, field Servo.i, field Servo.a, field Servo.lastSample,
    field Servo.inCount, field Servo.outCount, field Servo.extPresent, field Servo.pitch,
    field Servo.holdLimit, field fun v => v.announcement.map Announcement.second, holdOut, holdExpired, holdRunning,
    stopped, expired, running⟩, fun second =>
    ⟨fun external => State.run_serve serving ?_, fun external => State.run_serve serving ?_⟩⟩
  · show (if u.time.external then _ else _) = _
    rw [show u.time = s.time from time, if_pos external, now, show u.servo = s.servo from servo]
    rfl
  · show (if u.time.external then _ else _) = _
    rw [show u.time = s.time from time, if_neg (by simp [external])]
    rfl

end Sys2Proof.Slice0
end

section
/-! SUPPORT. The arguments of SEND and SET PERIODIC, and what their owners make of them (R78, R83, R191, R193). -/

-- One theorem after another: the check's data limit has no room for a thread for each.
set_option Elab.async false

open Sys2Proof Sys2Proof.Machine Sys2Proof.Safety Sys2Proof.Slice0

namespace Sys2Proof.Machine

/-! ### Arguments -/

/-- R191: class 2 is EXPRESS, 3 is BULK. -/
theorem sendClassOf_number {b : Byte} {q : CardQueue} (h : b.toNat = (cardClass q).number) :
    sendClassOf b = some q := by
  unfold sendClassOf
  cases q <;> (rw [h]; rfl)

theorem sendClassOf_none {b : Byte} (h : ¬ (b.toNat = 2 ∨ b.toNat = 3)) : sendClassOf b = none := by
  unfold sendClassOf
  split
  next two => exact absurd (.inl two) h
  next three => exact absurd (.inr three) h
  · rfl

/-- R204: the destination that a byte names. -/
theorem destOf_number {b : Byte} {d : Dest} (h : b.toNat = d.number) : destOf b = some d := by
  unfold destOf
  cases d with
  | slot p =>
    have slot : b.toNat = p.val := h
    have same : (Fin.ofNat 16 b.toNat : Slot) = p := by
      rw [slot]
      exact Fin.ofNat_val_eq_self p
    rw [if_pos (by omega), same]
  | all =>
    have all : b.toNat = 16 := h
    rw [if_neg (by omega), if_pos all]

theorem destOf_none {b : Byte} (h : ¬ b.toNat ≤ 16) : destOf b = none := by
  unfold destOf
  rw [if_neg (by omega), if_neg (by omega)]

/-- R191, R193: dest at most 16 and not the latched slot. -/
theorem cardDestOf_number {own : Slot} {b : Byte} {d : Dest} (h : b.toNat = d.number) (other : b.toNat ≠ own.val) :
    cardDestOf own b = some d := by
  unfold cardDestOf
  rw [destOf_number h]
  refine if_neg fun same => other ?_
  rw [h, same]
  rfl

theorem cardDestOf_none {own : Slot} {b : Byte} (h : ¬ (b.toNat ≤ 16 ∧ b.toNat ≠ own.val)) :
    cardDestOf own b = none := by
  unfold cardDestOf
  by_cases range : b.toNat ≤ 16
  · have own' : b.toNat = (Dest.slot own).number := not_not.1 fun other => h ⟨range, other⟩
    rw [destOf_number own']
    exact if_pos rfl
  · rw [destOf_none range]

/-- R204: every number up to 16 is that of a destination. -/
theorem exists_dest {n : Nat} (h : n ≤ 16) : ∃ d : Dest, n = d.number := by
  rcases Nat.lt_or_eq_of_le h with slot | all
  · exact ⟨.slot ⟨n, slot⟩, rfl⟩
  · exact ⟨.all, all⟩

theorem sendArgs_some {own : Slot} {cls tier dest : Byte} {payload : List Byte} {q : CardQueue} {d : Dest}
    (hq : cls.toNat = (cardClass q).number) (ht : tier.toNat ≤ 3) (hd : dest.toNat = d.number)
    (other : dest.toNat ≠ own.val) (short : payload.length ≤ 256) :
    sendArgs own cls tier dest payload = some (q, d) := by
  unfold sendArgs
  rw [sendClassOf_number hq, cardDestOf_number hd other]
  simp [ht, short]

theorem sendArgs_none {own : Slot} {cls tier dest : Byte} {payload : List Byte}
    (bad : ¬ ((cls.toNat = 2 ∨ cls.toNat = 3) ∧ tier.toNat ≤ 3 ∧ dest.toNat ≤ 16 ∧ dest.toNat ≠ own.val ∧
      payload.length ≤ 256)) : sendArgs own cls tier dest payload = none := by
  unfold sendArgs
  by_cases class_ : cls.toNat = 2 ∨ cls.toNat = 3
  · by_cases place : dest.toNat ≤ 16 ∧ dest.toNat ≠ own.val
    · have rest : ¬ (tier.toNat ≤ 3 ∧ payload.length ≤ 256) := fun ok =>
        bad ⟨class_, ok.1, place.1, place.2, ok.2⟩
      split
      · exact if_neg (by simpa using rest)
      · rfl
    · rw [cardDestOf_none place]
      cases sendClassOf cls <;> rfl
  · rw [sendClassOf_none class_]

theorem periodicArgs_some {own : Slot} {index dest tier : Byte} {payload : List Byte} {i : Fin 4} {d : Dest}
    (hi : index.toNat = i.val) (hd : dest.toNat = d.number) (other : dest.toNat ≠ own.val) (ht : tier.toNat ≤ 3)
    (short : payload.length ≤ 256) : periodicArgs own index dest tier payload = some (i, d) := by
  have index_ : (Fin.ofNat 4 index.toNat : Fin 4) = i := by
    rw [hi]
    exact Fin.ofNat_val_eq_self i
  have low : index.toNat ≤ 3 := by omega
  unfold periodicArgs
  rw [cardDestOf_number hd other]
  exact (if_pos (by simp [low, ht, short])).trans (by rw [index_])

theorem periodicArgs_none {own : Slot} {index dest tier : Byte} {payload : List Byte}
    (bad : ¬ (index.toNat ≤ 3 ∧ tier.toNat ≤ 3 ∧ dest.toNat ≤ 16 ∧ dest.toNat ≠ own.val ∧ payload.length ≤ 256)) :
    periodicArgs own index dest tier payload = none := by
  unfold periodicArgs
  by_cases place : dest.toNat ≤ 16 ∧ dest.toNat ≠ own.val
  · have rest : ¬ (index.toNat ≤ 3 ∧ tier.toNat ≤ 3 ∧ payload.length ≤ 256) := fun ok =>
      bad ⟨ok.1, ok.2.1, place.1, place.2, ok.2.2⟩
    split
    · exact if_neg (by simpa [and_assoc] using rest)
    · rfl
  · rw [cardDestOf_none place]

/-! ### SEND (R78, R191) -/

theorem Station.destGone_iff (s : Station) (d : Dest) :
    s.destGone d = true ↔ ∃ p : Slot, d.number = p.val ∧ ((s.peer p).state = .absent ∨ (s.peer p).state = .left) := by
  cases d with
  | slot q =>
    refine ⟨fun h => ⟨q, rfl, by simpa [Station.destGone, Peer.isGone] using h⟩, ?_⟩
    rintro ⟨p, same, h⟩
    have same' : q = p := Fin.ext same
    subst same'
    simpa [Station.destGone, Peer.isGone] using h
  | all =>
    refine iff_of_false (by simp [Station.destGone]) ?_
    rintro ⟨p, same, -⟩
    have all : 16 = p.val := same
    omega

/-- R78: a SEND frame placed counts against the reservation. -/
theorem Sched.append_reserved (c : Sched) (q : CardQueue) (e : Entry) (h : e.tag.isSome = true) :
    (c.append (cardClass q) e).reserved = c.reserved + 1 := by
  have one : sendFrames [e] = 1 := by simp [sendFrames, h]
  unfold Sched.append Sched.reserved
  cases q with
  | express =>
    have more : sendFrames (c.express ++ [e]) = sendFrames c.express + 1 := by rw [sendFrames_append, one]
    show sendFrames (c.express ++ [e]) + sendFrames c.bulk + c.completions.length = _
    omega
  | bulk =>
    have more : sendFrames (c.bulk ++ [e]) = sendFrames c.bulk + 1 := by rw [sendFrames_append, one]
    show sendFrames c.express + sendFrames (c.bulk ++ [e]) + c.completions.length = _
    omega

/-- R78: the scheduler takes a SEND that it has room for. -/
theorem Station.placeSend_taken {u : Station} {q : CardQueue} {d : Dest} {tier : Nat} {tag : Word16}
    {payload : List Byte} (free : u.sched.reserved < 48)
    (room : (u.sched.queue (cardClass q)).length < (cardClass q).capacity) (there : u.destGone d = false) :
    u.placeSend q d tier tag payload =
      ((({ u with
            sched :=
              u.sched.setQueue (cardClass q)
                (u.sched.queue (cardClass q) ++ [Entry.placed .data d tier payload (some tag) none]) } :
          Station).renewOffer), .ok, .reservation (u.sched.reserved + 1)) := by
  have free' : ¬ Config.reservation ≤ u.sched.reserved := Nat.not_le.2 free
  have room' : u.sched.hasRoom (cardClass q) = true := (Sched.hasRoom_iff _ _).2 room
  unfold Station.placeSend
  rw [if_neg free', if_neg (by simp [room']), if_neg (by simp [there])]
  refine congrArg (fun n => (_, Result.ok, Body.reservation n)) ?_
  exact Sched.append_reserved _ _ _ rfl

theorem Station.placeSend_full {u : Station} {q : CardQueue} {d : Dest} {tier : Nat} {tag : Word16}
    {payload : List Byte}
    (full : 48 ≤ u.sched.reserved ∨ (cardClass q).capacity ≤ (u.sched.queue (cardClass q)).length) :
    u.placeSend q d tier tag payload = u.refuse .full := by
  unfold Station.placeSend
  by_cases held : Config.reservation ≤ u.sched.reserved
  · exact if_pos held
  · have full' : ¬ (u.sched.queue (cardClass q)).length < (cardClass q).capacity :=
      Nat.not_lt.2 (full.resolve_left held)
    rw [if_neg held, if_pos (by simpa [Sched.hasRoom] using full')]

/-- R191: a SEND with good arguments in ACTIVE, to a destination there. -/
theorem Station.send_good {u : Station} {tag : Word16} {cls tier dest : Byte} {payload : List Byte} {q : CardQueue}
    {d : Dest} (short : payload.length ≤ 256) (active : u.seat.state = .active)
    (args : sendArgs u.seat.slot cls tier dest payload = some (q, d)) :
    u.send tag cls tier dest payload =
      if u.destGone d then u.refuse .destGone else u.placeSend q d tier.toNat tag payload := by
  unfold Station.send
  rw [if_neg (by omega), if_neg (by simp [active]), args]

/-- R193: a SET PERIODIC with good arguments outside CONFIG. -/
theorem Station.setPeriodic_good {u : Station} {index skip phase dest tier : Byte} {payload : List Byte} {i : Fin 4}
    {d : Dest} (short : payload.length ≤ 256) (out : u.seat.state ≠ .config)
    (args : periodicArgs u.seat.slot index dest tier payload = some (i, d)) :
    u.setPeriodic index skip phase dest tier payload =
      u.writePeriodic i skip.toNat phase.toNat d tier.toNat payload := by
  unfold Station.setPeriodic
  rw [if_neg (by omega), if_neg out, args]

end Sys2Proof.Machine

namespace Sys2Proof.Slice0

/-- Settles O46. -/
theorem sendIsQueuedOrRefusedInOrder : Obligations.SendIsQueuedOrRefusedInOrder := by
  intro s tag cls tier dest payload serving u req good gone refusedWith
  obtain ⟨-, -, seat, roster, -⟩ := s.toStation.cardAlive_frame
  have seat' : u.seat = s.seat := seat
  have goneOf {d : Dest} (hd : dest.toNat = d.number) : u.destGone d = true ↔ gone := by
    refine (u.destGone_iff d).trans ?_
    rw [← hd]
    have peers (p : Slot) : u.peer p = s.peer p := congrArg (fun r => r.peers.get p) roster
    simp only [peers]
    rfl
  have sent {q : CardQueue} {d : Dest} (active : s.seat.state = .active) (ok : good)
      (hq : cls.toNat = (cardClass q).number) (hd : dest.toNat = d.number) :
      u.send tag cls tier dest payload =
        if u.destGone d then u.refuse .destGone else u.placeSend q d tier.toNat tag payload := by
    obtain ⟨-, ht, -, other, short⟩ := ok
    refine Station.send_good short ((congrArg Seat.state seat').trans active) ?_
    rw [seat']
    exact sendArgs_some hq ht hd other short
  have class_ (ok : good) : ∃ q : CardQueue, cls.toNat = (cardClass q).number :=
    ok.1.elim (fun two => ⟨.express, two⟩) fun three => ⟨.bulk, three⟩
  refine ⟨fun active ok there free q d hq hd room => ?_, fun long => ?_, fun short out => ?_, fun active bad => ?_,
    fun active ok isGone => ?_, fun active ok there full => ?_⟩
  · have there' : u.destGone d = false := Bool.eq_false_iff.2 fun h => there ((goneOf hd).1 h)
    refine State.run_serve serving ((sent active ok hq hd).trans ?_)
    rw [if_neg (by simp [there'])]
    exact Station.placeSend_taken free room there'
  · exact State.run_serve serving (if_pos long)
  · refine State.run_serve serving ((if_neg (by omega)).trans (if_pos ?_))
    rw [show u.seat = s.seat from seat]
    simpa using out
  · refine State.run_serve serving ?_
    by_cases long : 256 < payload.length
    · exact if_pos long
    · refine (if_neg long).trans ((if_neg ?_).trans ?_)
      · rw [show u.seat = s.seat from seat]
        simp [active]
      · rw [show u.seat = s.seat from seat, sendArgs_none bad]
        rfl
  · obtain ⟨q, hq⟩ := class_ ok
    obtain ⟨d, hd⟩ := exists_dest ok.2.2.1
    refine State.run_serve serving ((sent active ok hq hd).trans ?_)
    exact if_pos ((goneOf hd).2 isGone)
  · obtain ⟨d, hd⟩ := exists_dest ok.2.2.1
    have there' : ¬ u.destGone d = true := fun h => there ((goneOf hd).1 h)
    rcases full with held | ⟨q, hq, full⟩
    · obtain ⟨q, hq⟩ := class_ ok
      refine State.run_serve serving ((sent active ok hq hd).trans ?_)
      rw [if_neg there']
      exact Station.placeSend_full (.inl held)
    · refine State.run_serve serving ((sent active ok hq hd).trans ?_)
      rw [if_neg there']
      exact Station.placeSend_full (.inr full)

/-- Settles O48. -/
theorem setPeriodicWritesOneEntry : Obligations.SetPeriodicWritesOneEntry := by
  intro s index skip phase dest tier payload serving u req good
  obtain ⟨-, -, seat, -⟩ := s.toStation.cardAlive_frame
  have seat' : u.seat = s.seat := seat
  refine ⟨fun out ok i d hi hd => ?_, fun config short => ?_, fun long bad => ?_⟩
  · obtain ⟨-, ht, -, other, short⟩ := ok
    refine State.run_serve serving (Station.setPeriodic_good short ?_ ?_)
    · exact fun h => out ((congrArg Seat.state seat').symm.trans h)
    · exact (congrArg (fun c => periodicArgs c.slot index dest tier payload) seat').trans
        (periodicArgs_some hi hd other ht short)
  · refine State.run_serve serving ((if_neg (by omega)).trans (if_pos ?_))
    rw [show u.seat = s.seat from seat]
    exact config
  · refine State.run_serve serving ?_
    by_cases past : 256 < payload.length
    · exact if_pos past
    · refine (if_neg past).trans ((if_neg ?_).trans ?_)
      · rw [show u.seat = s.seat from seat]
        exact long.resolve_right past
      · rw [show u.seat = s.seat from seat, periodicArgs_none bad]
        rfl

end Sys2Proof.Slice0
end

section
/-! SUPPORT. TAKE and REAP (R77, R112, R113). -/

-- One theorem after another: the check's data limit has no room for a thread for each.
set_option Elab.async false

open Sys2Proof Sys2Proof.Machine Sys2Proof.Safety Sys2Proof.Slice0

namespace Sys2Proof.Machine

/-- R112: the overrun flag and QUEUE_OVERRUN clear together, when both queues are at most half full. -/
theorem Station.clearOverrun_spec (s : Station) :
    let t := s.clearOverrun
    AlarmFrame { s with rx := t.rx } t ∧
      t.rx =
        { s.rx with
          overrun := s.rx.overrun &&
            !(decide (s.rx.express.length ≤ 8) && decide (s.rx.bulk.length ≤ 16)) } ∧
      (s.rx.overrun = true → t.rx.overrun = false → Cleared s t queueOverrun) ∧
      (t.rx.overrun = s.rx.overrun → t.alarm = s.alarm) := by
  unfold Station.clearOverrun
  by_cases low : (s.rx.overrun && decide (s.rx.express.length ≤ 8) && decide (s.rx.bulk.length ≤ 16)) = true
  · let u : Station := { s with rx := { s.rx with overrun := false } }
    have f := u.clearInternal_frame queueOverrun
    have cleared : Cleared s (u.clearInternal queueOverrun) queueOverrun := u.clearInternal_cleared queueOverrun
    dsimp only
    rw [if_pos low]
    simp only [Bool.and_eq_true, decide_eq_true_eq] at low
    obtain ⟨⟨set, short⟩, short'⟩ := low
    generalize u.clearInternal queueOverrun = t at f cleared
    have rx : t.rx = { s.rx with overrun := false } := f.rx
    refine ⟨by rw [rx]; exact f, by simp [rx, short, short'], fun _ _ => cleared, fun same => ?_⟩
    rw [rx, set] at same
    cases same
  · dsimp only
    rw [if_neg low]
    refine ⟨AlarmFrame.refl s, ?_, fun set clear => by simp [set] at clear, fun _ => rfl⟩
    have flag : s.rx.overrun = (s.rx.overrun &&
        !(decide (s.rx.express.length ≤ 8) && decide (s.rx.bulk.length ≤ 16))) := by
      cases set : s.rx.overrun
      · rfl
      · rw [set, Bool.true_and] at low
        rw [Bool.eq_false_iff.2 low]
        rfl
    exact congrArg (fun b => { s.rx with overrun := b }) flag

theorem Rx.setQueue_overrun (r : Rx) (q : CardQueue) (l : List RxEntry) : (r.setQueue q l).overrun = r.overrun := by
  cases q <;> rfl

/-- R113: the queue that a selector names. -/
theorem Rx.selected_eq {r : Rx} {sel : Byte} {q : CardQueue}
    (h : sel.toNat = 0 ∧ q = .express ∨ sel.toNat = 1 ∧ q = .bulk ∨
      sel.toNat = 2 ∧ q = (if r.express = [] then .bulk else .express)) : r.selected sel = some q := by
  unfold Rx.selected
  rcases h with ⟨place, rfl⟩ | ⟨place, rfl⟩ | ⟨place, rfl⟩
  · rw [place]
    rfl
  · rw [place]
    rfl
  · rw [place]
    cases r.express <;> rfl

theorem Rx.selected_none {r : Rx} {sel : Byte} (h : 3 ≤ sel.toNat) : r.selected sel = none := by
  unfold Rx.selected
  split
  next zero => omega
  next one => omega
  next two => omega
  · rfl

end Sys2Proof.Machine

namespace Sys2Proof.Slice0

/-- Settles O47. -/
theorem takeAndReapHandOverTheFront : Obligations.TakeAndReapHandOverTheFront := by
  intro s serving u
  obtain ⟨frame, lane, seat, roster, time, -, servo, -⟩ := s.toStation.cardAlive_frame
  refine ⟨fun sel q named => ⟨fun x rest head => ?_, fun empty => State.run_serve serving ?_⟩,
    fun sel past => State.run_serve serving ?_, fun some_ => State.run_serve serving ?_,
    fun none => State.run_serve serving ?_⟩
  · let v : Station := { u with rx := u.rx.setQueue q rest }
    have taken : Station.take sel u = (v.clearOverrun.renewOffer, .ok, .taken x.arrival x.payload) := by
      unfold Station.take
      rw [Rx.selected_eq named]
      dsimp only
      rw [head]
      rfl
    obtain ⟨f, rx, cleared, kept⟩ := v.clearOverrun_spec
    have g := v.clearOverrun.renewOffer_spec.1
    have over_ : v.rx.overrun = u.rx.overrun := u.rx.setQueue_overrun q rest
    have own : (v.clearOverrun.renewOffer).alarm = v.clearOverrun.alarm := g.alarm
    refine ⟨_, _, State.run_serve serving taken, rfl, rfl, rfl, ?_, fun set clear => ?_, fun same => ?_,
      ?_, ?_, ?_, ?_, ?_, ?_⟩
    · refine (g.rx.trans rx).trans ?_
      rw [over_]
    · refine (congrArg (AlarmUnit.has · queueOverrun) own).trans ?_
      have clear' : v.clearOverrun.rx.overrun = false := (congrArg Rx.overrun g.rx).symm.trans clear
      exact AlarmUnit.not_has_of_cleared (cleared (over_.trans set) clear') (by decide)
    · have same' : v.clearOverrun.rx.overrun = v.rx.overrun :=
        (congrArg Rx.overrun g.rx).symm.trans (same.trans over_.symm)
      exact congrArg AlarmUnit.own (own.trans (kept same'))
    · exact (g.seat.trans f.seat).trans seat
    · exact (g.lane.trans f.lane).trans lane
    · exact (g.share.trans f.share).trans frame.share
    · exact (g.roster.trans f.roster).trans roster
    · exact (g.time.trans f.time).trans time
    · exact (g.servo.trans f.servo).trans servo
  · show Station.take sel u = _
    unfold Station.take
    rw [Rx.selected_eq named]
    dsimp only
    rw [empty]
    rfl
  · show Station.take sel u = _
    unfold Station.take
    rw [Rx.selected_none past]
    rfl
  · show Station.reap u = _
    unfold Station.reap
    cases records : u.sched.completions with
    | nil => exact absurd records some_
    | cons => rfl
  · show Station.reap u = _
    unfold Station.reap
    rw [none]
    rfl

end Sys2Proof.Slice0
end

section
/-! SUPPORT. The own list made known on the lane (R173), and the card's RAISE and CLEAR (R171, R197). -/

-- One theorem after another: the check's data limit has no room for a thread for each.
set_option Elab.async false

open Sys2Proof Sys2Proof.Machine Sys2Proof.Safety Sys2Proof.Slice0

namespace Sys2Proof.Machine

/-! ### What an announcement of the list makes of CONTROL and of the retry timer (R173) -/

/-- R173: CONTROL after the list with this payload is made known. -/
def announceControl (control : List Entry) (may : Bool) (payload : List Byte) : List Entry :=
  if control.any Entry.isUnwonAlarm then
    control.map fun e => if e.isUnwonAlarm then { e with payload := payload } else e
  else if may = true ∧ control.length < 8 then control ++ [Entry.internal .alarm payload]
  else control

/-- R173: the retry timer after the list is made known. -/
def announceRetry (control : List Entry) (may : Bool) (retry : Option Nat) (now : Nat) : Option Nat :=
  if control.any Entry.isUnwonAlarm then retry
  else if may = true then if control.length < 8 then none else some (now + 400000)
  else retry

theorem Station.announceList_control (s : Station) :
    s.announceList.sched.control = announceControl s.sched.control s.seat.maySendAlarms s.listPayload ∧
      s.announceList.alarm.retry =
        announceRetry s.sched.control s.seat.maySendAlarms s.alarm.retry s.localTime := by
  unfold Station.announceList announceControl announceRetry Station.alarmQueued
  by_cases queued : s.sched.control.any Entry.isUnwonAlarm = true
  · rw [if_pos queued, if_pos queued, if_pos queued]
    exact ⟨rfl, rfl⟩
  · rw [if_neg queued, if_neg queued, if_neg queued]
    unfold Station.placeAlarmIfPermitted Station.alarmQueued
    cases may : s.seat.maySendAlarms with
    | false =>
      rw [if_neg (by simp), if_neg (by simp), if_neg (by simp)]
      exact ⟨rfl, rfl⟩
    | true =>
      rw [if_pos (by simp [queued]), if_pos rfl]
      unfold Station.placeAlarm
      have room : s.sched.hasRoom .control = true ↔ s.sched.control.length < 8 := Sched.hasRoom_iff _ _
      by_cases short : s.sched.control.length < 8
      · rw [if_pos (room.2 short), if_pos ⟨rfl, short⟩, if_pos short]
        exact ⟨rfl, rfl⟩
      · rw [if_neg (fun h => short (room.1 h)), if_neg (fun h => short h.2), if_neg short]
        exact ⟨rfl, rfl⟩

theorem Entry.isUnwonAlarm_payload (e : Entry) (p : List Byte) :
    ({ e with payload := p } : Entry).isUnwonAlarm = e.isUnwonAlarm := rfl

/-- The contents of an unwon ALARM frame do not tell whether it is one. -/
theorem isUnwonAlarm_refilled (p : List Byte) (e : Entry) :
    (if e.isUnwonAlarm then { e with payload := p } else e).isUnwonAlarm = e.isUnwonAlarm := by
  split <;> rfl

theorem any_refilled (l : List Entry) (p : List Byte) :
    (l.map fun e => if e.isUnwonAlarm then { e with payload := p } else e).any Entry.isUnwonAlarm =
      l.any Entry.isUnwonAlarm := by
  rw [List.any_map]
  congr 1
  exact funext (isUnwonAlarm_refilled p)

theorem refilled_of_none {l : List Entry} (h : ¬ l.any Entry.isUnwonAlarm = true) (p : List Byte) :
    (l.map fun e => if e.isUnwonAlarm then { e with payload := p } else e) = l := by
  refine (List.map_congr_left fun e he => ?_).trans (List.map_id l)
  exact if_neg fun he' => h (List.any_eq_true.2 ⟨e, he, he'⟩)

/-- R173: a list made known after another takes its place. -/
theorem announceControl_again (l : List Entry) (may : Bool) (p p' : List Byte) (retry : Option Nat) (now : Nat) :
    announceControl (announceControl l may p) may p' = announceControl l may p' ∧
      announceRetry (announceControl l may p) may (announceRetry l may retry now) now =
        announceRetry l may retry now := by
  by_cases queued : l.any Entry.isUnwonAlarm = true
  · have known : announceControl l may p =
        l.map fun e => if e.isUnwonAlarm then { e with payload := p } else e := if_pos queued
    have again : (announceControl l may p).any Entry.isUnwonAlarm = true := by
      rw [known, any_refilled]
      exact queued
    have twice (e : Entry) :
        (if (if e.isUnwonAlarm then { e with payload := p } else e).isUnwonAlarm then
          { (if e.isUnwonAlarm then { e with payload := p } else e : Entry) with payload := p' }
        else if e.isUnwonAlarm then { e with payload := p } else e) =
          if e.isUnwonAlarm then { e with payload := p' } else e := by
      rw [isUnwonAlarm_refilled]
      split <;> rfl
    refine ⟨?_, if_pos again⟩
    refine (if_pos again).trans (Eq.trans ?_ (if_pos queued).symm)
    rw [known, List.map_map]
    exact List.map_congr_left fun e _ => twice e
  · by_cases place : may = true ∧ l.length < 8
    · have known : announceControl l may p = l ++ [Entry.internal .alarm p] :=
        (if_neg queued).trans (if_pos place)
      have again : (announceControl l may p).any Entry.isUnwonAlarm = true := by
        rw [known, List.any_append]
        exact Bool.or_eq_true_iff.2 (.inr rfl)
      refine ⟨?_, if_pos again⟩
      refine (if_pos again).trans (Eq.trans ?_ ((if_neg queued).trans (if_pos place)).symm)
      rw [known, List.map_append, refilled_of_none queued]
      rfl
    · have known : announceControl l may p = l := (if_neg queued).trans (if_neg place)
      rw [known]
      refine ⟨rfl, ?_⟩
      simp only [announceRetry, if_neg queued]
      cases may <;> rfl

/-- R173: what `t` holds in CONTROL and in the retry timer is its own list made known from `u`. -/
structure Known (u t : Station) : Prop where
  seat : t.seat = u.seat
  localTime : t.localTime = u.localTime
  control : t.sched.control = announceControl u.sched.control u.seat.maySendAlarms t.listPayload
  retry : t.alarm.retry = announceRetry u.sched.control u.seat.maySendAlarms u.alarm.retry u.localTime

/-- What the announcement reads and moves is all that `Known` speaks of. -/
theorem Known.congr {u t v : Station} (h : Known u t) (seat : v.seat = t.seat) (time : v.localTime = t.localTime)
    (control : v.sched.control = t.sched.control) (own : v.alarm.own = t.alarm.own)
    (seq : v.alarm.ownSeq = t.alarm.ownSeq) (retry : v.alarm.retry = t.alarm.retry) : Known u v where
  seat := seat.trans h.seat
  localTime := time.trans h.localTime
  control := by
    unfold Station.listPayload
    rw [control, own, seq]
    exact h.control
  retry := retry.trans h.retry

theorem Station.setOwn_known (u : Station) (l : List AlarmEntry) : Known u (u.setOwn l) where
  seat := (u.setOwn_frame l).seat
  localTime := (u.setOwn_frame l).localTime
  control := by
    refine (Station.announceList_control _).1.trans (congrArg (announceControl _ _) ?_)
    unfold Station.listPayload
    rw [Station.setOwn_seq, Station.setOwn_own]
  retry := (Station.announceList_control _).2

/-- R173: a second change of the list is made known in the place of the first. -/
theorem Known.setOwn {u t : Station} (h : Known u t) (l : List AlarmEntry) : Known u (t.setOwn l) := by
  have next := t.setOwn_known l
  obtain ⟨control, retry⟩ :=
    announceControl_again u.sched.control u.seat.maySendAlarms t.listPayload (t.setOwn l).listPayload u.alarm.retry
      u.localTime
  refine ⟨next.seat.trans h.seat, next.localTime.trans h.localTime, ?_, ?_⟩
  · rw [next.control, h.seat, h.control, control]
  · rw [next.retry, h.seat, h.localTime, h.control, h.retry, retry]

theorem Known.setView {u t : Station} (h : Known u t) (view : List ViewEntry) : Known u (t.setView view) :=
  h.congr rfl rfl rfl rfl rfl rfl

theorem Known.offerEach {u t : Station} (h : Known u t) (l : List ViewEntry) : Known u (t.offerEach l) := by
  induction l generalizing t with
  | nil => exact h
  | cons e l ih => exact ih (h.setView _)

theorem Known.offer {u t : Station} (h : Known u t) (l : List ViewEntry) : Known u (t.offer l) := by
  unfold Station.offer Station.raiseViewFull
  dsimp only
  split
  · split
    · exact h.offerEach _
    · exact ((h.offerEach _).setOwn _).offerEach _
  · exact h.offerEach _

theorem Known.merge {u t : Station} (h : Known u t) (mine : Station → ViewEntry → Bool)
    (entries : Station → List ViewEntry) : Known u (t.merge mine entries) := by
  have low {v : Station} (g : Known u v) (l : List ViewEntry) : Known u (v.clearViewFullIfLow l) := by
    unfold Station.clearViewFullIfLow
    split
    · exact ((g.setOwn _).setView _).offer _
    · exact g
  exact ((low (h.setView _) _).setView _).offer _

/-- R172, R173, R178: a change of the own list and its merge. -/
theorem Station.changeOwn_known (u : Station) (l : List AlarmEntry) : Known u (u.changeOwn l) :=
  (u.setOwn_known l).merge _ _

theorem any_isUnwonAlarm (l : List Entry) : l.any Entry.isUnwonAlarm = true ↔ ∃ e ∈ l, Unwon e := by
  simp [Entry.isUnwonAlarm, Unwon]

/-- R173: a list made known, as the statements describe it. -/
theorem Known.listMadeKnown {u t : Station} (h : Known u t) : ListMadeKnown u t := by
  have payload := t.listPayload_eq
  refine ⟨fun queued => ?_, fun none => ?_⟩
  · have queued' := (any_isUnwonAlarm _).2 queued
    refine ⟨?_, h.retry.trans (if_pos queued')⟩
    rw [h.control, payload]
    refine (if_pos queued').trans (List.map_congr_left fun e _ => ?_)
    simp [Entry.isUnwonAlarm, Unwon]
  · let v : Station := { u with alarm := { u.alarm with own := t.alarm.own, ownSeq := t.alarm.ownSeq } }
    have queued : ¬ v.alarmQueued = true := fun q => by
      obtain ⟨e, he, unwon⟩ := v.alarmQueued_iff.1 q
      exact none e he unwon
    have placed : v.announceList = withAlarmPlaced v := (if_neg queued).trans v.placeAlarmIfPermitted_eq
    obtain ⟨control, retry⟩ := v.announceList_control
    have same : v.listPayload = t.listPayload := rfl
    show t.sched.control = (withAlarmPlaced v).sched.control ∧ t.alarm.retry = (withAlarmPlaced v).alarm.retry
    rw [← placed, control, retry, same]
    exact ⟨h.control, h.retry⟩

/-! ### The arguments of RAISE and CLEAR (R197) -/

theorem severityArg_number {b : Byte} {sev : Severity} (h : b.toNat = sev.number) : severityArg b = some sev := by
  unfold severityArg
  rw [h]
  cases sev <;> rfl

theorem severityArg_none {b : Byte} (h : 4 ≤ b.toNat) : severityArg b = none := if_neg (by omega)

theorem subjectArg_some {sub : Option Byte} {subject : Option Slot} (h : sub.map BitVec.toNat = subject.map Fin.val) :
    subjectArg sub = some subject := by
  cases sub with
  | none =>
    cases subject with
    | none => rfl
    | some p => cases h
  | some b =>
    cases subject with
    | none => cases h
    | some p =>
      have place : b.toNat = p.val := Option.some.inj h
      have slot : (Fin.ofNat 16 b.toNat : Slot) = p := by
        rw [place]
        exact Fin.ofNat_val_eq_self p
      unfold subjectArg
      dsimp only
      rw [if_pos (by omega), slot]

theorem subjectArg_none {sub : Option Byte} (h : ∃ b, sub = some b ∧ 16 ≤ b.toNat) : subjectArg sub = none := by
  obtain ⟨b, rfl, past⟩ := h
  exact if_neg (by omega)

theorem cardCode_of_le {code : Word16} (h : 4096 ≤ code.toNat) : cardCode code = true := decide_eq_true h

theorem cardCode_of_lt {code : Word16} (h : code.toNat < 4096) : cardCode code = false :=
  decide_eq_false (Nat.not_le.2 h)

theorem raiseArgs_some {code : Word16} {sev : Byte} {severity : Severity} {sub : Option Byte} {subject : Option Slot}
    (card : 4096 ≤ code.toNat) (hs : sev.toNat = severity.number)
    (h : sub.map BitVec.toNat = subject.map Fin.val) : raiseArgs code sev sub = some (severity, subject) := by
  unfold raiseArgs
  rw [if_pos (cardCode_of_le card), severityArg_number hs, subjectArg_some h]

theorem raiseArgs_none {code : Word16} {sev : Byte} {sub : Option Byte}
    (bad : code.toNat < 4096 ∨ 4 ≤ sev.toNat ∨ ∃ b, sub = some b ∧ 16 ≤ b.toNat) :
    raiseArgs code sev sub = none := by
  unfold raiseArgs
  rcases bad with low | high | past
  · rw [if_neg (by simp [cardCode_of_lt low])]
  · rw [severityArg_none high]
    exact ite_self _
  · rw [subjectArg_none past]
    cases severityArg sev <;> exact ite_self _

theorem clearArgs_some {code : Word16} {sub : Option Byte} {subject : Option Slot} (card : 4096 ≤ code.toNat)
    (h : sub.map BitVec.toNat = subject.map Fin.val) : clearArgs code sub = some subject := by
  unfold clearArgs
  rw [if_pos (cardCode_of_le card), subjectArg_some h]

theorem clearArgs_none {code : Word16} {sub : Option Byte}
    (bad : code.toNat < 4096 ∨ ∃ b, sub = some b ∧ 16 ≤ b.toNat) : clearArgs code sub = none := by
  unfold clearArgs
  rcases bad with low | past
  · rw [if_neg (by simp [cardCode_of_lt low])]
  · rw [subjectArg_none past]
    exact ite_self _

/-! ### Entries of the own list by their identity (R171) -/

theorem AlarmEntry.is_iff (e : AlarmEntry) (code : Word16) (subject : Option Slot) :
    e.is code subject = true ↔ e.code = code ∧ e.subject = subject := by
  simp [AlarmEntry.is]

/-- A card code is none of the station's own. -/
theorem card_ne_viewFull {code : Word16} (card : 4096 ≤ code.toNat) : code ≠ alarmViewFull := by
  rintro rfl
  exact absurd card (by decide)

/-- The own list around the one entry of an identity. -/
structure OneEntry (l before : List AlarmEntry) (e : AlarmEntry) (after : List AlarmEntry) (code : Word16)
    (subject : Option Slot) : Prop where
  split : l = before ++ e :: after
  is_ : e.is code subject = true
  others : ∀ x ∈ before ++ after, x.is code subject = false

variable {l before after : List AlarmEntry} {e : AlarmEntry} {code : Word16} {subject : Option Slot}

theorem OneEntry.find? (h : OneEntry l before e after code subject) :
    (l.find? fun x => x.is code subject) = some e := by
  rw [h.split, List.find?_append,
    List.find?_eq_none.2 fun x hx => by simp [h.others x (List.mem_append_left _ hx)]]
  simp [h.is_]

theorem OneEntry.map (h : OneEntry l before e after code subject) (f : AlarmEntry → AlarmEntry) :
    (l.map fun x => if x.is code subject then f x else x) = before ++ f e :: after := by
  have kept {m : List AlarmEntry} (hm : ∀ x ∈ m, x.is code subject = false) :
      (m.map fun x => if x.is code subject then f x else x) = m :=
    (List.map_congr_left fun x hx => if_neg (by simp [hm x hx])).trans (List.map_id m)
  rw [h.split, List.map_append, List.map_cons, if_pos h.is_,
    kept fun x hx => h.others x (List.mem_append_left _ hx), kept fun x hx => h.others x (List.mem_append_right _ hx)]

theorem OneEntry.filter (h : OneEntry l before e after code subject) :
    (l.filter fun x => !x.is code subject) = before ++ after := by
  have kept {m : List AlarmEntry} (hm : ∀ x ∈ m, x.is code subject = false) :
      (m.filter fun x => !x.is code subject) = m :=
    List.filter_eq_self.2 fun x hx => by simp [hm x hx]
  rw [h.split, List.filter_append, List.filter_cons_of_neg (by simp [h.is_]),
    kept fun x hx => h.others x (List.mem_append_left _ hx), kept fun x hx => h.others x (List.mem_append_right _ hx)]

/-- An identity that no entry of the list has. -/
theorem is_false_of_absent (h : ∀ x ∈ l, x.code = code → x.subject ≠ subject) : ∀ x ∈ l, x.is code subject = false :=
  fun x hx => Bool.eq_false_iff.2 fun same => h x hx ((x.is_iff _ _).1 same).1 ((x.is_iff _ _).1 same).2

/-! ### A change of the own list by the card (R171 to R173) -/

/-- What a change of the own list leaves of the station, from `s`. -/
structure OwnEdited (s t : Station) : Prop where
  seat : t.seat = s.seat
  lane : t.lane = s.lane
  share : t.share = s.share
  rx : t.rx = s.rx
  roster : t.roster = s.roster
  time : t.time = s.time
  servo : t.servo = s.servo
  express : t.sched.express = s.sched.express
  markers : t.alarm.markers = s.alarm.markers
  refresh : t.alarm.refresh = s.alarm.refresh
  stagger : t.alarm.stagger = s.alarm.stagger

theorem OwnEdited.trans {s t v : Station} (h : OwnEdited s t) (g : OwnEdited t v) : OwnEdited s v where
  seat := g.seat.trans h.seat
  lane := g.lane.trans h.lane
  share := g.share.trans h.share
  rx := g.rx.trans h.rx
  roster := g.roster.trans h.roster
  time := g.time.trans h.time
  servo := g.servo.trans h.servo
  express := g.express.trans h.express
  markers := g.markers.trans h.markers
  refresh := g.refresh.trans h.refresh
  stagger := g.stagger.trans h.stagger

/-- A change of the own list and the offer renewed after it. -/
theorem Station.changeOwn_edited (u : Station) (l : List AlarmEntry) :
    OwnEdited u (u.changeOwn l).renewOffer := by
  have f := u.changeOwn_frame l
  have placed := u.changeOwn_nothingPlaced l
  have g := (u.changeOwn l).renewOffer_spec.1
  exact
    { seat := g.seat.trans f.seat
      lane := g.lane.trans f.lane
      share := g.share.trans f.share
      rx := g.rx.trans f.rx
      roster := g.roster.trans f.roster
      time := g.time.trans f.time
      servo := g.servo.trans f.servo
      express := (Station.renewOffer_express _).trans f.express
      markers := (congrArg AlarmUnit.markers g.alarm).trans (u.changeOwn_markers l)
      refresh := (congrArg AlarmUnit.refresh g.alarm).trans placed.refresh
      stagger := (congrArg AlarmUnit.stagger g.alarm).trans placed.stagger }

theorem Station.cardAlive_edited (s : Station) : OwnEdited s s.cardAlive := by
  have renewed : OwnEdited s s.renewWatchdog := ⟨rfl, rfl, rfl, rfl, rfl, rfl, rfl, rfl, rfl, rfl, rfl⟩
  unfold Station.cardAlive Station.clearInternal
  dsimp only
  split
  · exact renewed.trans (Station.changeOwn_edited _ _)
  · exact renewed

/-- R171 to R173: the own list, its seq and its announcement after a change that leaves ALARM_VIEW_FULL. -/
theorem Station.changeOwn_told (u : Station) (l : List AlarmEntry)
    (same : (l.any fun x => x.code = alarmViewFull) = u.alarm.has alarmViewFull) :
    let t := (u.changeOwn l).renewOffer
    ownBut t = (l.filter fun x => x.code != alarmViewFull) ∧ ListSeqRose u t ∧ ListMadeKnown u t := by
  have g := (u.changeOwn l).renewOffer_spec.1
  have rest := u.changeOwn_rest l
  have rose := u.changeOwn_seqRose l same
  have known := u.changeOwn_known l
  have control := (u.changeOwn l).renewOffer_control
  dsimp only
  generalize u.changeOwn l = v at *
  refine ⟨?_, listSeqRose_congr rfl rfl (congrArg AlarmUnit.own g.alarm) (congrArg AlarmUnit.ownSeq g.alarm) rose, ?_⟩
  · unfold ownBut
    rw [g.alarm]
    exact rest
  · exact (known.congr g.seat g.localTime control (congrArg AlarmUnit.own g.alarm) (congrArg AlarmUnit.ownSeq g.alarm)
      (congrArg AlarmUnit.retry g.alarm)).listMadeKnown

/-- R171, R172: the answer is a change of the own list to `l`, with its seq; ALARM_VIEW_FULL is as it was. -/
structure EditsTo (u : Station) (l : List AlarmEntry) (a : Answer) : Prop where
  same : (l.any fun x => x.code = alarmViewFull) = u.alarm.has alarmViewFull
  answer : a = (u.changeOwn l).answerOffer (.listSeq (u.changeOwn l).alarm.ownSeq)

theorem Station.takeRaise_adds {u : Station} {code : Word16} {sev : Severity} {subject : Option Slot}
    (other : code ≠ alarmViewFull) (none : (u.alarm.own.find? fun x => x.is code subject) = none)
    (room : u.alarm.cardEntries < 22) :
    EditsTo u (u.alarm.own ++ [⟨code, sev, subject, u.time.sec⟩]) (u.takeRaise code sev subject) := by
  refine ⟨by simp [AlarmUnit.has, other], ?_⟩
  unfold Station.takeRaise
  rw [none]
  exact if_pos room

theorem OneEntry.takeRaise {u : Station} {before after : List AlarmEntry} {e : AlarmEntry} {code : Word16}
    {subject : Option Slot} (one : OneEntry u.alarm.own before e after code subject) {sev : Severity}
    (moved : e.sev ≠ sev) :
    EditsTo u (before ++ { e with sev := sev } :: after) (u.takeRaise code sev subject) := by
  refine ⟨by simp [AlarmUnit.has, one.split], ?_⟩
  unfold Station.takeRaise
  rw [one.find?, ← one.map fun x => { x with sev := sev }]
  exact if_neg moved

theorem OneEntry.takeClear {u : Station} {before after : List AlarmEntry} {e : AlarmEntry} {code : Word16}
    {subject : Option Slot} (one : OneEntry u.alarm.own before e after code subject)
    (other : code ≠ alarmViewFull) : EditsTo u (before ++ after) (u.takeClear code subject) := by
  have hcode : e.code = code := ((e.is_iff _ _).1 one.is_).1
  have listed : e ∈ u.alarm.own := one.split ▸ List.mem_append_right _ List.mem_cons_self
  refine ⟨by simp [AlarmUnit.has, one.split, hcode, other], ?_⟩
  unfold Station.takeClear
  rw [← one.filter]
  exact if_pos (List.any_eq_true.2 ⟨e, listed, one.is_⟩)

end Sys2Proof.Machine

namespace Sys2Proof.Slice0

/-- A request of the card that changes the own list to `l` and answers its seq. -/
theorem edit_answered {s : State} (serving : Serving s) {req : Instr} {f : Station → Answer} {l : List AlarmEntry}
    (edits : EditsTo s.cardAlive l (f s.cardAlive)) :
    ∃ t : State, s.run (Station.serve req f) = .next t ∧
      (∃ reply, t.port.reply = some reply ∧ reply.result = .ok ∧ reply.body = .listSeq t.alarm.ownSeq) ∧
      OwnEdited s.toStation t.toStation ∧ ownBut t.toStation = (l.filter fun x => x.code != alarmViewFull) ∧
      ListSeqRose s.cardAlive t.toStation ∧ ListMadeKnown s.cardAlive t.toStation := by
  have edited := s.toStation.cardAlive_edited.trans (s.cardAlive.changeOwn_edited l)
  obtain ⟨rest, rose, known⟩ := s.cardAlive.changeOwn_told l edits.same
  have seq : (s.cardAlive.changeOwn l).renewOffer.alarm.ownSeq = (s.cardAlive.changeOwn l).alarm.ownSeq :=
    congrArg AlarmUnit.ownSeq (s.cardAlive.changeOwn l).renewOffer_spec.1.alarm
  have run := State.run_serve (req := req) serving edits.answer
  generalize (s.cardAlive.changeOwn l).alarm.ownSeq = n at seq run
  generalize (s.cardAlive.changeOwn l).renewOffer = v at edited rest rose known seq run
  refine ⟨_, run, ⟨_, rfl, rfl, congrArg Body.listSeq seq.symm⟩, ?_, rest, rose, known⟩
  exact ⟨edited.seat, edited.lane, edited.share, edited.rx, edited.roster, edited.time, edited.servo, edited.express,
    edited.markers, edited.refresh, edited.stagger⟩

/-- Settles O51. -/
theorem raiseAndClearEditTheOwnList : Obligations.RaiseAndClearEditTheOwnList := by
  intro s code sub serving u answered rest changed
  have raised {sev : Byte} {severity : Severity} {subject : Option Slot} (card : 4096 ≤ code.toNat)
      (hs : sev.toNat = severity.number) (hsub : sub.map BitVec.toNat = subject.map Fin.val) :
      Station.raiseCard code sev sub u = u.takeRaise code severity subject := by
    unfold Station.raiseCard
    rw [raiseArgs_some card hs hsub]
  have cleared {subject : Option Slot} (card : 4096 ≤ code.toNat)
      (hsub : sub.map BitVec.toNat = subject.map Fin.val) :
      Station.clearCard code sub u = u.takeClear code subject := by
    unfold Station.clearCard
    rw [clearArgs_some card hsub]
  have now : u.time = s.time := s.toStation.cardAlive_edited.time
  have told {t : State} (h : OwnEdited s.toStation t.toStation) : rest t :=
    ⟨h.seat, h.lane, h.share, h.rx, h.roster, h.time, h.servo,
      h.express.trans s.toStation.cardAlive_edited.express.symm, h.markers, h.refresh, h.stagger⟩
  refine ⟨fun sev severity subject card hs hsub absent => ?_,
    fun sev severity subject card hs hsub before after e split hcode hsubject others => ?_,
    fun subject card hsub absent => ?_, fun sev bad => ?_, fun bad => ?_⟩
  · have none : (u.alarm.own.find? fun x => x.is code subject) = none :=
      List.find?_eq_none.2 fun x hx => by simp [is_false_of_absent absent x hx]
    refine ⟨fun room => ?_, fun full => State.run_serve serving ((raised card hs hsub).trans ?_)⟩
    · have edits := Station.takeRaise_adds (sev := severity) (card_ne_viewFull card) none room
      rw [← raised card hs hsub] at edits
      obtain ⟨t, run, reply, edited, own, rose, known⟩ := edit_answered (req := .raise code sev sub) serving edits
      refine ⟨t, run, reply, told edited, ?_, rose, known⟩
      rw [own, List.filter_append, now]
      simp [ownBut, card_ne_viewFull card]
    · unfold Station.takeRaise
      rw [none]
      exact if_neg (Nat.not_lt.2 full)
  · have one : OneEntry u.alarm.own before e after code subject :=
      ⟨split, (e.is_iff _ _).2 ⟨hcode, hsubject⟩, is_false_of_absent others⟩
    have found := one.find?
    refine ⟨fun same => State.run_serve serving ((raised card hs hsub).trans ?_), fun moved => ?_, ?_⟩
    · unfold Station.takeRaise
      rw [found]
      exact if_pos same
    · have edits := one.takeRaise moved
      rw [← raised card hs hsub] at edits
      obtain ⟨t, run, reply, edited, own, rose, known⟩ := edit_answered (req := .raise code sev sub) serving edits
      exact ⟨t, run, reply, told edited, own, rose, known⟩
    · have edits := one.takeClear (card_ne_viewFull card)
      rw [← cleared card hsub] at edits
      obtain ⟨t, run, reply, edited, own, rose, known⟩ := edit_answered (req := .clear code sub) serving edits
      exact ⟨t, run, reply, told edited, ⟨rose, known⟩, own⟩
  · refine State.run_serve serving ((cleared card hsub).trans (if_neg ?_))
    rw [List.any_eq_true]
    rintro ⟨x, hx, is_⟩
    rw [is_false_of_absent absent x hx] at is_
    cases is_
  · refine State.run_serve serving ?_
    unfold Station.raiseCard
    rw [raiseArgs_none bad]
    rfl
  · refine State.run_serve serving ?_
    unfold Station.clearCard
    rw [clearArgs_none bad]
    rfl

end Sys2Proof.Slice0
end

section
/-! SUPPORT. What every request keeps of the card's watch (R188, R189, R201). -/

-- One theorem after another: the check's data limit has no room for a thread for each.
set_option Elab.async false

open Sys2Proof Sys2Proof.Machine Sys2Proof.Safety Sys2Proof.Slice0

namespace Sys2Proof.Machine

/-! ### What leaves card_ok, CARD_UNRESPONSIVE and the watchdog -/

/-- R201: card_ok stays, and CARD_UNRESPONSIVE is not raised. -/
structure StaysAlive (u v : Station) : Prop where
  cardOk : v.port.cardOk = u.port.cardOk := by rfl
  quiet : u.alarm.has cardUnresponsive = false → v.alarm.has cardUnresponsive = false := by exact id

/-- R201: and the watchdog stays. -/
structure StaysWatched (u v : Station) : Prop extends StaysAlive u v where
  watchdog : v.port.watchdog = u.port.watchdog := by rfl

theorem StaysAlive.trans {u v w : Station} (h : StaysAlive u v) (g : StaysAlive v w) : StaysAlive u w where
  cardOk := g.cardOk.trans h.cardOk
  quiet := g.quiet ∘ h.quiet

theorem StaysWatched.trans {u v w : Station} (h : StaysWatched u v) (g : StaysWatched v w) : StaysWatched u w where
  toStaysAlive := h.toStaysAlive.trans g.toStaysAlive
  watchdog := g.watchdog.trans h.watchdog

theorem QueueFrame.watched {u v : Station} (f : QueueFrame u v) : StaysWatched u v where
  cardOk := by rw [f.port]
  quiet h := by rwa [f.alarm]
  watchdog := by rw [f.port]

theorem Station.renewOffer_watched (u : Station) : StaysWatched u u.renewOffer := u.renewOffer_spec.1.watched

/-- Reviews move the TIMING cause of the port alone, and raise HOLDOVER_EXPIRED at most. -/
theorem Station.reviews_watched (u : Station) (events : Nat) : StaysWatched u (u.reviews events) where
  cardOk := by rw [(u.reviews_frame events).port]
  quiet h := ((u.reviews_holdoverRaised events).has_other (by decide) (by decide)).trans h
  watchdog := by rw [(u.reviews_frame events).port]

theorem Station.clearInternal_watched (u : Station) {code : Word16} (other : cardUnresponsive ≠ code) :
    StaysWatched u (u.clearInternal code) where
  cardOk := by rw [(u.clearInternal_frame code).port]
  quiet h := (u.clearInternal_has_other code (by decide) other).trans h
  watchdog := by rw [(u.clearInternal_frame code).port]

/-- R27, R201: a change of seat state moves the watchdog alone. -/
theorem Station.enterSeat_alive (u : Station) (new : SeatState) : StaysAlive u (u.enterSeat new) where
  cardOk := (u.enterSeat_frame new).cardOk
  quiet h := by
    refine ((u.enterSeat_holdoverRaised new).has_other (by decide) (by decide)).trans ?_
    unfold Station.seqForEntry AlarmUnit.has at *
    split <;> exact h

/-- A change of the own list to one without CARD_UNRESPONSIVE. -/
theorem Station.changeOwn_watched (u : Station) {l : List AlarmEntry}
    (h : u.alarm.has cardUnresponsive = false → ∀ e ∈ l, e.code ≠ cardUnresponsive) :
    StaysWatched u (u.changeOwn l) where
  cardOk := by rw [(u.changeOwn_frame l).port]
  quiet hu := by
    rw [AlarmUnit.has_eq_rest _ _ (by decide), u.changeOwn_rest l]
    refine List.any_eq_false.2 fun e he => ?_
    simpa using h hu e (List.mem_of_mem_filter he)
  watchdog := by rw [(u.changeOwn_frame l).port]

theorem Station.setServoState_watched (u : Station) (v : ServoState) : StaysWatched u (u.setServoState v) := by
  unfold Station.setServoState
  split <;> exact {}

theorem Station.startUnlockedIfLocked_watched (u : Station) : StaysWatched u u.startUnlockedIfLocked := by
  unfold Station.startUnlockedIfLocked
  split <;> exact {}

theorem foldl_watched {α : Type} (f : Station → α → Station) (hf : ∀ u a, StaysWatched u (f u a)) (l : List α)
    (u : Station) : StaysWatched u (l.foldl f u) := by
  induction l generalizing u with
  | nil => exact {}
  | cons a l ih => exact (hf u a).trans (ih _)

theorem Station.answerOffer_watched (u : Station) (b : Body) : StaysWatched u (u.answerOffer b).1 :=
  u.renewOffer_watched

theorem Station.refuse_watched (u : Station) (r : Result) : StaysWatched u (u.refuse r).1 := {}

/-! ### The requests -/

theorem Station.clearOverrun_watched (u : Station) : StaysWatched u u.clearOverrun := by
  have cleared : StaysWatched u { u with rx := { u.rx with overrun := false } } := {}
  unfold Station.clearOverrun
  split
  · exact cleared.trans (Station.clearInternal_watched _ (by decide))
  · exact {}

theorem Station.send_watched (tag : Word16) (cls tier dest : Byte) (payload : List Byte) (u : Station) :
    StaysWatched u (u.send tag cls tier dest payload).1 := by
  have placed (q : CardQueue) (d : Dest) : StaysWatched u (u.placeSend q d tier.toNat tag payload).1 := by
    unfold Station.placeSend
    repeat' split
    · exact {}
    · exact {}
    · exact {}
    · exact StaysWatched.trans {} (Station.answerOffer_watched _ _)
  unfold Station.send
  repeat' split
  · exact {}
  · exact {}
  · exact {}
  · exact placed _ _
  · exact {}

theorem Station.take_watched (sel : Byte) (u : Station) : StaysWatched u (u.take sel).1 := by
  have taken (r : Rx) : StaysWatched u { u with rx := r } := {}
  unfold Station.take
  split
  · split
    · exact ((taken _).trans (Station.clearOverrun_watched _)).trans (Station.answerOffer_watched _ _)
    · exact {}
  · exact {}

theorem Station.reap_watched (u : Station) : StaysWatched u u.reap.1 := by
  unfold Station.reap
  split <;> exact {}

theorem Station.setPeriodic_watched (index skip phase dest tier : Byte) (payload : List Byte) (u : Station) :
    StaysWatched u (u.setPeriodic index skip phase dest tier payload).1 := by
  unfold Station.setPeriodic
  repeat' split
  all_goals exact {}

theorem Station.viewRoster_watched (b : Byte) (u : Station) : StaysWatched u (u.viewRoster b).1 := by
  unfold Station.viewRoster
  split <;> exact {}

theorem Station.readPeek_watched (k : Byte) (u : Station) : StaysWatched u (u.readPeek k).1 := by
  unfold Station.readPeek
  split <;> exact {}

theorem Station.announceTime_watched (second : Word32) (u : Station) : StaysWatched u (u.announceTime second).1 := by
  unfold Station.announceTime
  split <;> exact {}

theorem AlarmUnit.code_ne_of_has_false {a : AlarmUnit} {code : Word16} (h : a.has code = false) :
    ∀ e ∈ a.own, e.code ≠ code := (AlarmUnit.has_false_iff _ _).1 h

/-- R171: a RAISE takes card codes alone. -/
theorem Station.raiseCard_watched (code : Word16) (sev : Byte) (sub : Option Byte) (u : Station) :
    StaysWatched u (u.raiseCard code sev sub).1 := by
  unfold Station.raiseCard
  split
  next severity subject args =>
    have card : code ≠ cardUnresponsive := by
      rintro rfl
      exact absurd (raiseArgs_cardCode args) (by decide)
    unfold Station.takeRaise
    split
    · split
      · exact {}
      · refine StaysWatched.trans (u.changeOwn_watched fun h e he => ?_) (Station.answerOffer_watched _ _)
        obtain ⟨x, hx, rfl⟩ := List.mem_map.1 he
        have old := AlarmUnit.code_ne_of_has_false h x hx
        split <;> exact old
    · split
      · refine StaysWatched.trans (u.changeOwn_watched fun h e he => ?_) (Station.answerOffer_watched _ _)
        rcases List.mem_append.1 he with old | new
        · exact AlarmUnit.code_ne_of_has_false h e old
        · rw [List.mem_singleton.1 new]
          exact card
      · exact {}
  · exact {}

theorem Station.clearCard_watched (code : Word16) (sub : Option Byte) (u : Station) :
    StaysWatched u (u.clearCard code sub).1 := by
  unfold Station.clearCard
  split
  · unfold Station.takeClear
    split
    · refine StaysWatched.trans (u.changeOwn_watched fun h e he => ?_) (Station.answerOffer_watched _ _)
      exact AlarmUnit.code_ne_of_has_false h e (List.mem_of_mem_filter he)
    · exact {}
  · exact {}

theorem Station.resetTraffic_watched (u : Station) : StaysWatched u u.resetTraffic.1 := by
  have emptied (v : Station) : StaysWatched v { v with rx := { v.rx with express := [], bulk := [] } } := {}
  have periodic : StaysWatched u u.clearPeriodic := {}
  unfold Station.resetTraffic
  split
  · exact {}
  · exact (((periodic.trans (Station.flushCards_queueFrame _).watched).trans (emptied _)).trans
      (Station.clearOverrun_watched _)).trans (Station.answerOffer_watched _ _)

theorem Station.resetServo_watched (u : Station) : StaysWatched u u.resetServo := by
  have reset (v : Station) : StaysWatched v
      (({ v with
          servo :=
            { v.servo with
              i := 0, inCount := 0, outCount := 0, lastSample := none, holdTimer := none, expired := false } } :
        Station).handRate 0) := {}
  exact ((u.startUnlockedIfLocked_watched.trans (reset _)).trans (Station.setServoState_watched _ _)).trans
    (Station.clearInternal_watched _ (by decide))

theorem Station.resetTiming_watched (u : Station) : StaysWatched u u.resetTiming.1 := by
  have stamps : StaysWatched u u.voidStamps := foldl_watched _ (fun _ _ => {}) _ u
  have forgotten (v : Station) : StaysWatched v { v with sel := v.sel.forgetLock } := {}
  exact (((stamps.trans (Station.resetServo_watched _)).trans (forgotten _)).trans
    (Station.reviews_watched _ _)).trans (Station.answerOffer_watched _ _)

/-- R186: RESET VIEW takes ALARM_VIEW_FULL alone out of the own list. -/
theorem Station.resetView_rest (u : Station) : u.resetView.alarm.ownRest = u.alarm.ownRest := by
  unfold Station.resetView
  rw [Station.offer_rest]
  dsimp only
  split
  · rw [Station.clearViewFull_rest]
    rfl
  · rfl

theorem Station.resetView_watched (u : Station) : StaysWatched u u.resetViewRequest.1 := by
  have sets : StaysWatched u u.emptySets := foldl_watched _ (fun _ _ => {}) _ u
  have view (v : Station) : StaysWatched v v.resetView :=
    { cardOk := by rw [v.resetView_frame.port]
      quiet := fun h => by
        rw [AlarmUnit.has_eq_rest _ _ (by decide), v.resetView_rest, ← AlarmUnit.has_eq_rest _ _ (by decide)]
        exact h
      watchdog := by rw [v.resetView_frame.port] }
  exact (sets.trans (view _)).trans (Station.answerOffer_watched _ _)

theorem Station.release_alive (u : Station) : StaysAlive u u.release.1 := by
  unfold Station.release
  split
  · refine StaysAlive.trans ?_ (Station.answerOffer_watched _ _).toStaysAlive
    exact StaysAlive.trans {} (Station.enterSeat_alive _ _)
  · exact {}

/-- R28, R190: CONFIGURE moves the watchdog in CONFIG alone. -/
theorem Station.configure_alive (c : ConfigArgs) (u : Station) :
    StaysAlive u (u.configure c).1 ∧
      (u.seat.state = .active → (u.configure c).1.port.watchdog = u.port.watchdog) := by
  unfold Station.configure
  by_cases config : u.seat.state = .config
  · have taken (h : ConfigHeld) : StaysAlive u (u.takeConfig h) := {}
    have left (v : Station) : StaysAlive v v.leaveConfig := by
      unfold Station.leaveConfig
      split
      · exact v.enterSeat_alive _
      · exact v.enterSeat_alive _
    have unlocked (v : Station) : StaysAlive v v.startUnlockedUnlessLocked := by
      unfold Station.startUnlockedUnlessLocked
      split <;> exact {}
    rw [if_neg (by simp [config])]
    refine ⟨?_, fun active => by simp [config] at active⟩
    exact ((((taken _).trans (left _)).trans (unlocked _)).trans (Station.reviews_watched _ 1).toStaysAlive).trans
      (Station.answerOffer_watched _ _).toStaysAlive
  · rw [if_pos (by simp [config])]
    exact ⟨{}, fun _ => rfl⟩

/-- R188, R201: the command is served with an effect that keeps the card's watch. -/
def Heeded (c : Instr) (f : Station → Answer) : Prop :=
  (∀ s, exec c s = s.run (Station.serve c f)) ∧
    ∀ u, StaysAlive u (f u).1 ∧
      (u.seat.state = .active → c ≠ .release → (f u).1.port.watchdog = u.port.watchdog)

theorem heeded_of_watched {c : Instr} {f : Station → Answer} (run : ∀ s, exec c s = s.run (Station.serve c f))
    (h : ∀ u, StaysWatched u (f u).1) : ∃ f, Heeded c f :=
  ⟨f, run, fun u => ⟨(h u).toStaysAlive, fun _ _ => (h u).watchdog⟩⟩

/-- R188: every request is served, and its effect keeps the card's watch. -/
theorem request_heeded (c : Instr) (h : isRequest c = true) : ∃ f, Heeded c f := by
  cases c with
  | unknownRequest code args => exact heeded_of_watched (fun _ => rfl) fun u => u.refuse_watched _
  | configure c =>
    exact ⟨_, fun _ => rfl, fun u => ⟨(u.configure_alive c).1, fun active _ => (u.configure_alive c).2 active⟩⟩
  | send tag cls tier dest payload => exact heeded_of_watched (fun _ => rfl) (Station.send_watched _ _ _ _ _)
  | take sel => exact heeded_of_watched (fun _ => rfl) (Station.take_watched _)
  | reap => exact heeded_of_watched (fun _ => rfl) Station.reap_watched
  | viewStation | viewQueues | viewReference | viewAlarms | readHold | readNext | readPrev | readAdvance | seekFirst
  | seekLast | time | restart => exact heeded_of_watched (fun _ => rfl) fun u => {}
  | viewRoster b => exact heeded_of_watched (fun _ => rfl) (Station.viewRoster_watched _)
  | readPeek k => exact heeded_of_watched (fun _ => rfl) (Station.readPeek_watched _)
  | raise code sev sub => exact heeded_of_watched (fun _ => rfl) (Station.raiseCard_watched _ _ _)
  | clear code sub => exact heeded_of_watched (fun _ => rfl) (Station.clearCard_watched _ _)
  | externalTime second => exact heeded_of_watched (fun _ => rfl) (Station.announceTime_watched _)
  | release => exact ⟨_, fun _ => rfl, fun u => ⟨u.release_alive, fun _ other => absurd rfl other⟩⟩
  | setPeriodic index skip phase dest tier payload =>
    exact heeded_of_watched (fun _ => rfl) (Station.setPeriodic_watched _ _ _ _ _ _)
  | resetTraffic => exact heeded_of_watched (fun _ => rfl) Station.resetTraffic_watched
  | resetTiming => exact heeded_of_watched (fun _ => rfl) Station.resetTiming_watched
  | resetView => exact heeded_of_watched (fun _ => rfl) Station.resetView_watched
  | _ => cases h

theorem not_serving {s : State} (h : ¬ Serving s) : s.hold = true ∨ s.port.restartPending = true := by
  by_contra none
  simp only [not_or, Bool.not_eq_true] at none
  exact h none

end Sys2Proof.Machine

namespace Sys2Proof.Slice0

/-- Settles O43. -/
theorem requestsKeepTheCardAlive : Obligations.RequestsKeepTheCardAlive := by
  refine ⟨fun c s request => ?_, fun s => ⟨fun serving => ⟨fun code args => State.run_serve serving rfl,
    State.run_serve serving rfl, ?_⟩, fun ignored => ?_⟩⟩
  · obtain ⟨f, run, heeds⟩ := request_heeded c request
    obtain ⟨alive, watchdog⟩ := heeds s.cardAlive
    rw [run]
    refine ⟨fun serving => ?_, fun ignored => State.run_ignored_serve c f (not_serving ignored)⟩
    have port := s.toStation.cardAlive_port
    have seat : s.cardAlive.seat = s.seat := s.toStation.cardAlive_edited.seat
    refine ⟨_, _, State.run_answered serving rfl, ?_, alive.quiet s.toStation.cardAlive_quiet, rfl, rfl, rfl, rfl,
      fun active other timeout => ?_⟩
    · exact alive.cardOk.trans (by rw [port])
    · refine (watchdog ((congrArg Seat.state seat).trans active) other).trans ?_
      rw [port]
      exact (if_pos active).trans (if_pos (by simp [timeout]))
  · refine s.run_of_eq ?_
    unfold Station.discardTransaction
    rw [if_neg (by simp [serving.1, serving.2])]
  · refine s.run_of_eq ?_
    unfold Station.discardTransaction
    rw [if_pos (by rcases not_serving ignored with h | h <;> simp [h])]

end Sys2Proof.Slice0
end

section
/-! SUPPORT. One review, block by block (R136, R138 to R144, R146, R152, R162, R163). -/

-- One theorem after another: the check's data limit has no room for a thread for each.
set_option Elab.async false

open Sys2Proof Sys2Proof.Machine Sys2Proof.Safety Sys2Proof.Slice0

namespace Sys2Proof.Machine

/-! ### The servo takes a source (R152, R162, R163) -/

/-- R163: the unlocked timer starts on a move out of LOCKED. -/
theorem Station.startUnlockedIfLocked_eq (s : Station) :
    s.startUnlockedIfLocked = { s with servo := { s.servo with unlocked := unlockedFrom s } } := by
  unfold Station.startUnlockedIfLocked unlockedFrom
  split <;> rfl

theorem Station.setServoState_time (s : Station) (v : ServoState) : (s.setServoState v).time = s.time := by
  unfold Station.setServoState
  split <;> rfl

theorem Station.setServoState_sched (s : Station) (v : ServoState) : (s.setServoState v).sched = s.sched := by
  unfold Station.setServoState
  split <;> rfl

/-- R152: entry to ACQUIRE by a source change. -/
theorem Station.acquireSource_spec (s : Station) :
    s.acquireSource.time = s.time ∧ s.acquireSource.sched = s.sched ∧
      s.acquireSource.servo =
        { s.servo with
          state := .acquire, inCount := 0, outCount := 0, holdTimer := none, expired := false
          unlocked := unlockedFrom s } := by
  unfold Station.acquireSource
  rw [s.startUnlockedIfLocked_eq]
  exact ⟨Station.setServoState_time _ _, Station.setServoState_sched _ _, Station.setServoState_servo _ _⟩

/-- R162: the holdover timer runs out. -/
theorem Station.expireHoldover_spec (s : Station) :
    s.expireHoldover.time = s.time ∧ s.expireHoldover.sched.timing = s.sched.timing ∧
      s.expireHoldover.servo = { s.servo with holdTimer := none, expired := true } ∧
      s.expireHoldover.alarm.has holdoverExpired = true := by
  let u : Station := ({ s with servo := { s.servo with holdTimer := none, expired := true } } : Station).setTimingCause
  have f := u.raiseInternal_frame holdoverExpired
  exact ⟨f.time, f.timing, f.servo, AlarmUnit.has_of_raised (u.raiseInternal_raised _ (by decide)) (by decide)⟩

/-- R162: entry to HOLDOVER. -/
theorem Station.enterHoldover_spec (s : Station) :
    s.enterHoldover.time = { s.time with a := s.servo.i } ∧ s.enterHoldover.sched.timing = s.sched.timing ∧
      s.enterHoldover.servo =
        { s.servo with
          state := .holdover, a := s.servo.i, unlocked := unlockedFrom s
          holdTimer :=
            if s.servo.holdLimit = 0 then none else some (s.localTime + s.servo.holdLimit * 100000000)
          expired := decide (s.servo.holdLimit = 0) } ∧
      (s.servo.holdLimit = 0 → s.enterHoldover.alarm.has holdoverExpired = true) := by
  let u : Station :=
    { s with
      time := { s.time with a := s.servo.i }
      servo :=
        { s.servo with
          unlocked := unlockedFrom s, a := s.servo.i
          holdTimer := some (s.localTime + Config.seconds s.servo.holdLimit), expired := false } }
  have entered : s.enterHoldover =
      if s.servo.holdLimit = 0 then (u.setServoState .holdover).expireHoldover else u.setServoState .holdover := by
    have limit : (u.setServoState .holdover).servo.holdLimit = s.servo.holdLimit := by
      rw [Station.setServoState_servo]
    unfold Station.enterHoldover
    rw [s.startUnlockedIfLocked_eq, ← limit]
    rfl
  have servo := u.setServoState_servo .holdover
  have time := u.setServoState_time .holdover
  have sched := u.setServoState_sched .holdover
  rw [entered]
  generalize u.setServoState .holdover = v at servo time sched
  by_cases zero : s.servo.holdLimit = 0
  · obtain ⟨time', timing', servo', has⟩ := v.expireHoldover_spec
    rw [if_pos zero]
    refine ⟨time'.trans time, timing'.trans (congrArg Sched.timing sched), servo'.trans ?_, fun _ => has⟩
    rw [servo]
    simp [u, zero]
  · rw [if_neg zero]
    refine ⟨time, congrArg Sched.timing sched, servo.trans ?_, fun h => absurd h zero⟩
    simp [u, zero]
    rfl

/-- R152: the cases of the servo taking a source. -/
theorem Station.takeSource_cases (s : Station) (new : Source) :
    let u := ({ s with servo := { s.servo with source := new } } : Station).setTimingCause
    (new ≠ .none → s.takeSource new = u.acquireSource) ∧
      (new = .none →
        (s.servo.state = .free ∨ s.servo.state = .holdover → s.takeSource new = u) ∧
          (s.servo.state = .acquire ∨ s.servo.state = .locked → s.takeSource new = u.enterHoldover)) := by
  unfold Station.takeSource
  refine ⟨fun some_ => if_neg some_, fun none => ⟨fun rests => (if_pos none).trans ?_, fun away => (if_pos none).trans ?_⟩⟩
  · show (match s.servo.state with
      | .acquire | .locked => _
      | .free | .holdover => _) = _
    rcases rests with state | state <;> rw [state]
  · show (match s.servo.state with
      | .acquire | .locked => _
      | .free | .holdover => _) = _
    rcases away with state | state <;> rw [state]

/-- R152, R162, R163: the servo takes a source that is new to the selector of `u`. -/
theorem Station.takeSource_servoTakes {s u : Station} {new : Source} (servo : s.servo = u.servo) (time : s.time = u.time)
    (now : s.localTime = u.localTime) (moved : new ≠ u.sel.source) : ServoTakes u (s.takeSource new) new := by
  let v : Station := ({ s with servo := { s.servo with source := new } } : Station).setTimingCause
  have unlocked : unlockedFrom v = unlockedFrom u := by
    unfold unlockedFrom
    rw [← servo, ← now]
    rfl
  obtain ⟨acquires, settles⟩ := s.takeSource_cases new
  refine ⟨fun h => absurd h moved, fun _ => ⟨s.takeSource_timingTold new, fun some_ => ?_, fun none =>
    ⟨fun rests => ?_, fun away => ?_⟩⟩⟩
  · obtain ⟨time', -, servo'⟩ := v.acquireSource_spec
    rw [acquires some_, ← time, ← servo, ← unlocked]
    exact ⟨time', servo'⟩
  · rw [(settles none).1 (servo ▸ rests), ← time, ← servo, none]
    exact ⟨rfl, rfl⟩
  · obtain ⟨time', -, servo', has⟩ := v.enterHoldover_spec
    rw [(settles none).2 (servo ▸ away), ← time, ← servo, ← unlocked, ← now, ← none]
    exact ⟨time', servo', has⟩

theorem Station.takeSource_timing (s : Station) (new : Source) :
    (s.takeSource new).sched.timing = s.sched.timing := by
  obtain ⟨acquires, settles⟩ := s.takeSource_cases new
  by_cases none : new = .none
  · by_cases rests : s.servo.state = .free ∨ s.servo.state = .holdover
    · rw [(settles none).1 rests]
      rfl
    · have away : s.servo.state = .acquire ∨ s.servo.state = .locked := by
        cases state : s.servo.state <;> simp [state] at rests ⊢
      rw [(settles none).2 away]
      exact (Station.enterHoldover_spec _).2.1
  · rw [acquires none]
    exact congrArg Sched.timing (Station.acquireSource_spec _).2.1

end Sys2Proof.Machine
end

section
/-! SUPPORT. The candidate set, the classes and the beaconing decision of one review (R136, R138 to R144, R146). -/

-- One theorem after another: the check's data limit has no room for a thread for each.
set_option Elab.async false

open Sys2Proof Sys2Proof.Machine Sys2Proof.Safety Sys2Proof.Slice0

namespace Sys2Proof.Machine

/-! ### The candidate set in rank order (R134, R136) -/

/-- R134: `a` does not rank below `b`. -/
def NotBelow (a b : Candidate) : Prop := a.cls < b.cls ∨ a.cls = b.cls ∧ a.slot ≤ b.slot

theorem NotBelow.trans {a b c : Candidate} (h : NotBelow a b) (g : NotBelow b c) : NotBelow a c := by
  simp only [NotBelow, Fin.le_def] at *
  omega

theorem insertCandidate_sorted {c : Candidate} {l : List Candidate} (h : l.Pairwise NotBelow) :
    (insertCandidate c l).Pairwise NotBelow := by
  induction l with
  | nil => exact List.pairwise_singleton _ _
  | cons x l ih =>
    obtain ⟨first, rest⟩ := List.pairwise_cons.1 h
    have above := ranksAbove_iff c.cls x.cls c.slot x.slot
    unfold insertCandidate
    split
    next best =>
      have below : NotBelow c x := (above.1 best).imp_right fun h => ⟨h.1, Nat.le_of_lt h.2⟩
      refine List.pairwise_cons.2 ⟨fun y hy => ?_, h⟩
      rcases List.mem_cons.1 hy with rfl | hy
      · exact below
      · exact below.trans (first y hy)
    next not =>
      have below : NotBelow x c := by
        have none : ¬ (c.cls < x.cls ∨ c.cls = x.cls ∧ c.slot < x.slot) := fun h => not (above.2 h)
        simp only [Fin.lt_def] at none
        simp only [NotBelow, Fin.le_def]
        omega
      refine List.pairwise_cons.2 ⟨fun y hy => ?_, ih rest⟩
      rcases mem_insertCandidate.1 hy with rfl | hy
      · exact below
      · exact first y hy

theorem sortCandidates_sorted (l : List Candidate) : (sortCandidates l).Pairwise NotBelow := by
  have go (l acc : List Candidate) (h : acc.Pairwise NotBelow) :
      (l.foldl (fun a c => insertCandidate c a) acc).Pairwise NotBelow := by
    induction l generalizing acc with
    | nil => exact h
    | cons x l ih => exact ih _ (insertCandidate_sorted h)
  exact go l [] .nil

/-- R142: after a review the set is best first. -/
theorem Station.review_cands_sorted (s : Station) : s.review.sel.cands.Pairwise NotBelow := by
  rw [s.review_cands]
  exact sortCandidates_sorted _

/-- R136: the conditions of a candidate, freshness aside. -/
theorem Station.candidateClass_iff (s : Station) (p : Slot) (k : Nat) :
    s.candidateClass p = some k ↔ CandidateNow s p k := by
  refine ⟨fun h => ?_, fun ⟨present, unbarred, beacon, cls, low⟩ => ?_⟩
  · obtain ⟨present, unbarred, rest⟩ := s.candidateClass_some p k h
    exact ⟨present, by simpa [Peer.barred] using unbarred, rest⟩
  · unfold Station.candidateClass
    simp [present, Peer.barred, unbarred, beacon, cls, low]

/-- R136, R142: the candidates after a review. -/
theorem Station.mem_review_cands (s : Station) (c : Candidate) :
    c ∈ s.review.sel.cands ↔
      CandidateNow s c.slot c.cls ∧ ∃ x ∈ s.sel.cands, x.slot = c.slot ∧ x.deadline = c.deadline := by
  rw [s.review_cands, s.mem_refreshed]
  constructor
  · rintro ⟨d, hd, k, cls, rfl⟩
    exact ⟨(s.candidateClass_iff _ _).1 cls, d, hd, rfl, rfl⟩
  · rintro ⟨now, x, hx, slot, deadline⟩
    refine ⟨x, hx, c.cls, (s.candidateClass_iff _ _).2 (slot.symm ▸ now), ?_⟩
    rw [slot, deadline]

/-! ### The source (R141) -/

theorem Station.review_source_eq (s : Station) : s.review.sel.source = s.chooseSource s.review.sel.cands := by
  rw [s.review_cands]
  exact s.review_source.1

/-- R141: with no external time in use the best candidate is chosen where it ranks above. -/
theorem Station.chooseSource_bus (s : Station) (l : List Candidate)
    (h : s.time.external = false ∨ s.sel.extPresent = false) :
    (l = [] → s.chooseSource l = .none) ∧
      ∀ b rest, l = b :: rest →
        (Above b.cls b.slot s.sel.standing s.seat.slot → s.chooseSource l = .bus b.slot) ∧
          (¬ Above b.cls b.slot s.sel.standing s.seat.slot → s.chooseSource l = .none) := by
  have no : ¬ (s.time.external && s.sel.extPresent) = true := by rcases h with h | h <;> simp [h]
  refine ⟨?_, ?_⟩
  · rintro rfl
    exact if_neg no
  · rintro b rest rfl
    have above := ranksAbove_iff b.cls s.sel.standing b.slot s.seat.slot
    exact ⟨fun h => (if_neg no).trans (if_pos (above.2 h)), fun h => (if_neg no).trans (if_neg fun r => h (above.1 r))⟩

/-! ### The selector after a review -/

/-- R142: the announced and the standing class and the lock record after a review. -/
theorem Station.review_classes (s : Station) :
    s.review.sel.announced = s.classFor s.review.sel.source ∧
      s.review.sel.standing = standingFor s.sel.eligible s.review.sel.source s.review.sel.announced ∧
      s.review.sel.lockRecord =
        if takenAs s.servo.state s.sel.lockedSource s.review.sel.source = .locked then
          some ⟨s.review.sel.source = .external, s.review.sel.announced⟩
        else s.sel.lockRecord := by
  have decided (u : Station) : u.decideBeaconing.sel =
      { u.sel with
        beaconing := u.decideBeaconing.sel.beaconing, claim := u.decideBeaconing.sel.claim
        interval := u.decideBeaconing.sel.interval } := by
    unfold Station.decideBeaconing
    split <;> rfl
  have sel : s.review.sel = ({ s with sel := s.chosen } : Station).decideBeaconing.sel := by
    unfold Station.review
    dsimp only
    split
    · rfl
    · exact (Station.takeSource_same _ _).2
  rw [sel, decided]
  exact ⟨rfl, rfl, rfl⟩

theorem takenAs_locked_iff (u : Station) (src : Source) :
    takenAs u.servo.state u.sel.lockedSource src = .locked ↔ TakenLocked u src := by
  unfold takenAs TakenLocked
  cases u.servo.state with
  | locked =>
    by_cases none : src = .none
    · simp [none]
    · by_cases same : u.sel.lockedSource = some src <;> simp [none, same]
  | acquire => by_cases none : src = .none <;> simp [none]
  | free | holdover => simp

theorem takenAs_holdover_iff (u : Station) (src : Source) :
    takenAs u.servo.state u.sel.lockedSource src = .holdover ↔ TakenHoldover u src := by
  unfold takenAs TakenHoldover
  cases u.servo.state with
  | locked =>
    by_cases none : src = .none
    · simp [none]
    · by_cases same : u.sel.lockedSource = some src <;> simp [none, same]
  | acquire => by_cases none : src = .none <;> simp [none]
  | free | holdover => simp

/-- R139, R140: the announced class of a source. -/
theorem Station.classFor_spec (u : Station) (src : Source) :
    (u.sel.eligible = false → u.classFor src = 15) ∧
      (u.sel.eligible = true →
        (TakenLocked u src →
          (src = .external → u.classFor src = 1) ∧
            ∀ r k, src = .bus r → (u.peer r).cls = some k → u.classFor src = min 12 (k + 1)) ∧
        (TakenHoldover u src →
          (u.servo.expired = true ∨ u.sel.lockRecord = none → u.classFor src = 13) ∧
            ∀ r, u.servo.expired = false → u.sel.lockRecord = some r → u.classFor src = min 12 (r.cls + 1)) ∧
        (¬ TakenLocked u src → ¬ TakenHoldover u src → u.classFor src = 13)) := by
  have locked := takenAs_locked_iff u src
  have holdover := takenAs_holdover_iff u src
  unfold Station.classFor
  refine ⟨fun no => by rw [if_neg (by simp [no])], fun yes => ?_⟩
  rw [if_pos yes, ← locked, ← holdover]
  refine ⟨fun taken => ?_, fun taken => ?_, fun notLocked notHoldover => ?_⟩
  · rw [taken]
    refine ⟨?_, ?_⟩
    · rintro rfl
      rfl
    · rintro r k rfl cls
      show min 12 ((u.peer r).cls.getD 12 + 1) = _
      rw [cls]
      rfl
  · rw [taken]
    refine ⟨fun none => ?_, fun r running record => ?_⟩
    · show holdoverClass u.servo.expired u.sel.lockRecord = 13
      unfold holdoverClass
      rcases none with expired | none
      · rw [expired]
        cases u.sel.lockRecord <;> rfl
      · rw [none]
    · show holdoverClass u.servo.expired u.sel.lockRecord = _
      rw [running, record]
      rfl
  · cases taken : takenAs u.servo.state u.sel.lockedSource src with
    | locked => exact absurd taken notLocked
    | holdover => exact absurd taken notHoldover
    | free | acquire => rfl

/-! ### Beaconing (R143, R144, R146) -/

/-- R143, R144, R146: the beaconing decision of a station whose condition is `may`. -/
theorem Station.decideBeaconing_spec (v : Station) :
    let t := v.decideBeaconing
    (v.sel.beaconing = .off → v.beaconCondition = true →
      t.sel.beaconing = .claiming ∧ t.sel.claim = some (v.localTime + (v.seat.slot.val + 1) * 800000)) ∧
    (v.sel.beaconing = .claiming → v.beaconCondition = false →
      t.sel.beaconing = .off ∧ t.sel.claim = none) ∧
    (v.sel.beaconing = .on → v.beaconCondition = false →
      t.sel.beaconing = .off ∧ t.sel.interval = none ∧
        ∀ e ∈ t.sched.timing, e.kind = .beacon → e.onLane = true ∧ e.withdrawn = true) ∧
    ((v.sel.beaconing = .off ↔ v.beaconCondition = false) → t = v) := by
  unfold Station.decideBeaconing
  refine ⟨fun off may => ?_, fun claiming may => ?_, fun on may => ?_, fun rests => ?_⟩
  · rw [off, may]
    exact ⟨rfl, rfl⟩
  · rw [claiming, may]
    exact ⟨rfl, rfl⟩
  · rw [on, may]
    refine ⟨rfl, rfl, fun e he kind => ?_⟩
    obtain ⟨x, hx, rfl⟩ := List.mem_map.1 he
    by_cases beacon : x.kind = .beacon
    · have stays := (List.mem_filter.1 hx).2
      rw [if_pos beacon]
      exact ⟨by simpa [beacon] using stays, rfl⟩
    · rw [if_neg beacon] at kind
      exact absurd kind beacon
  · cases may : v.beaconCondition <;> cases state : v.sel.beaconing <;> simp_all

/-- R142: the review as its three steps: the choice, the beaconing decision, the source handed on. -/
theorem Station.review_steps (s : Station) :
    let v := ({ s with sel := s.chosen } : Station).decideBeaconing
    s.review = (if s.chosen.source = s.sel.source then v else v.takeSource s.chosen.source) := rfl

/-- R143: the condition as the review judges it. -/
theorem Station.mayBeacon_iff (s : Station) :
    ({ s with sel := s.chosen } : Station).beaconCondition = true ↔ MayBeacon s s.review.sel := by
  have cands : s.review.sel.cands = s.chosen.cands := s.review_cands
  have source : s.review.sel.source = s.chosen.source := s.review_source.1
  have announced : s.review.sel.announced = s.chosen.announced := by
    rw [s.review_classes.1, source]
    rfl
  have eligible : s.review.sel.eligible = s.sel.eligible := s.review_frame.eligible
  unfold MayBeacon Above
  rw [cands, source, announced, eligible]
  exact Station.beaconCondition_iff _

/-- R144, R146: beaconing after a review. -/
theorem Station.review_beaconing (s : Station) :
    let v := ({ s with sel := s.chosen } : Station).decideBeaconing
    s.review.sel.beaconing = v.sel.beaconing ∧ s.review.sel.claim = v.sel.claim ∧
      s.review.sel.interval = v.sel.interval ∧ s.review.sched.timing = v.sched.timing ∧
      ServoTakes s s.review s.review.sel.source := by
  intro v
  have source : s.review.sel.source = s.chosen.source := s.review_source.1
  have kept : v.sel.source = s.chosen.source := (Station.decideBeaconing_same _).2.2.2.2.1
  obtain ⟨servo, -, -, -, -, -⟩ := ({ s with sel := s.chosen } : Station).decideBeaconing_same
  obtain ⟨time, port⟩ := ({ s with sel := s.chosen } : Station).decideBeaconing_time
  have now : v.localTime = s.localTime := by
    have f := Station.decideBeaconing_frame { s with sel := s.chosen }
    exact f.localTime
  rw [source]
  by_cases same : s.chosen.source = s.sel.source
  · have steps : s.review = v := if_pos same
    rw [steps]
    exact ⟨rfl, rfl, rfl, rfl, fun _ => ⟨servo, time, port⟩, fun h => absurd same h⟩
  · have steps : s.review = v.takeSource s.chosen.source := if_neg same
    have sel : (v.takeSource s.chosen.source).sel = v.sel := (Station.takeSource_same _ _).2
    rw [steps, sel]
    exact ⟨rfl, rfl, rfl, v.takeSource_timing _, Station.takeSource_servoTakes servo time now same⟩

end Sys2Proof.Machine
end

section
/-! SUPPORT. The reviews that a candidate's deadline brings (R136, R142, R152, R162). -/

-- One theorem after another: the check's data limit has no room for a thread for each.
set_option Elab.async false

open Sys2Proof Sys2Proof.Machine Sys2Proof.Safety Sys2Proof.Slice0

namespace Sys2Proof.Machine

/-! ### What the reviews after the first one keep (R142) -/

theorem reviewLoop_keep (P : Station → Prop) (h : ∀ s : Station, P s → P s.review) (fuel events : Nat) (s : Station)
    (hs : P s) : P (reviewLoop fuel events s) := by
  induction fuel generalizing events s with
  | zero => exact hs
  | succ fuel ih =>
    cases events with
    | zero => exact hs
    | succ events => exact ih _ _ (h s hs)

/-- R142: what a review makes of a station that stands as `Q` says holds at the end of one or more. -/
theorem reviewLoop_settles {Q P : Station → Prop} (h : ∀ s : Station, Q s → P s.review) (hq : ∀ s, P s → Q s)
    (fuel events : Nat) (s : Station) (hs : Q s) : P (reviewLoop (fuel + 1) (events + 1) s) :=
  reviewLoop_keep P (fun u hu => h u (hq u hu)) fuel _ _ (h s hs)

/-- R142: a command's reviews are the first and those that the servo's reports bring. -/
theorem Station.reviews_one (s : Station) :
    s.reviews 1 = reviewLoop 7 (servoEvents s.servo s.review.servo) s.review := by
  show reviewLoop 7 (0 + servoEvents s.servo s.review.servo) s.review = _
  rw [Nat.zero_add]

/-- R152: the servo stays as it took a new source while the reviews that follow leave it. -/
theorem servoTakes_kept {u t t' : Station} {src : Source} (h : ServoTakes u t src) (moved : src ≠ u.sel.source)
    (servo : t'.servo = t.servo) (time : t'.time = t.time) (told : TimingTold t')
    (has : t.alarm.has holdoverExpired = true → t'.alarm.has holdoverExpired = true) : ServoTakes u t' src := by
  obtain ⟨-, takes⟩ := h
  obtain ⟨-, acquires, settles⟩ := takes moved
  refine ⟨fun same => absurd same moved, fun _ => ⟨told, ?_⟩⟩
  rw [servo, time]
  refine ⟨acquires, fun none => ⟨(settles none).1, fun away => ?_⟩⟩
  obtain ⟨time', servo', expired⟩ := (settles none).2 away
  exact ⟨time', servo', fun zero => has (expired zero)⟩

/-! ### The last candidate leaves (R136, R152, R162) -/

/-- In HOLDOVER, with nothing to follow, the station is as its first review left it. -/
structure HeldOver (t w : Station) : Prop where
  nothing : NothingToFollow w
  servo : w.servo = t.servo
  time : w.time = t.time
  eligible : w.sel.eligible = t.sel.eligible
  lockRecord : w.sel.lockRecord = t.sel.lockRecord
  told : TimingTold w
  has : t.alarm.has holdoverExpired = true → w.alarm.has holdoverExpired = true

/-- R139, R140: the classes of a station in HOLDOVER. -/
structure HeldClasses (t w : Station) : Prop where
  barred : w.sel.eligible = false → w.sel.announced = 15
  lost : w.sel.eligible = true → t.servo.expired = true ∨ t.sel.lockRecord = none → w.sel.announced = 13
  held : ∀ r, w.sel.eligible = true → t.servo.expired = false → t.sel.lockRecord = some r →
    w.sel.announced = min 12 (r.cls + 1)
  standing : w.sel.standing = w.sel.announced

theorem HeldOver.review {t w : Station} (h : HeldOver t w) (state : t.servo.state = .holdover) :
    HeldOver t w.review ∧ HeldClasses t w.review := by
  have f := w.review_frame
  obtain ⟨nothing, servo⟩ := h.nothing.review
  have same : w.review.sel.source = w.sel.source := nothing.source.trans h.nothing.source.symm
  obtain ⟨announced, standing, record⟩ := w.review_classes
  have away : w.servo.state = .holdover := (congrArg Servo.state h.servo).trans state
  have unlocked : ¬ TakenLocked w w.review.sel.source := fun taken => by simp [TakenLocked, away] at taken
  have lockRecord := record.trans (if_neg fun taken => unlocked ((takenAs_locked_iff w _).1 taken))
  have takes := w.review_beaconing.2.2.2.2.1 same
  obtain ⟨barred, eligible⟩ := w.classFor_spec w.review.sel.source
  rw [← announced] at barred eligible
  refine ⟨⟨nothing, servo.trans h.servo, takes.2.1.trans h.time, f.eligible.trans h.eligible,
    lockRecord.trans h.lockRecord, Station.review_timingTold h.told,
    fun has => w.review_holdoverRaised.has (by decide) (h.has has)⟩, fun no => barred (f.eligible ▸ no),
    fun yes lost => ?_, fun r yes running held => ?_, ?_⟩
  · rw [← h.servo, ← h.lockRecord] at lost
    exact ((eligible (f.eligible ▸ yes)).2.1 (.inl away)).1 lost
  · rw [← h.servo] at running
    rw [← h.lockRecord] at held
    exact ((eligible (f.eligible ▸ yes)).2.1 (.inl away)).2 r running held
  · rw [standing, nothing.source]
    rfl

/-! ### Another candidate takes the place (R136, R141, R152) -/

/-- The station follows slot `q` with class `k` in ACQUIRE, as its first review left it. -/
structure Following (t : Station) (q : Slot) (k : Nat) (w : Station) : Prop where
  roster : w.roster = t.roster
  seat : w.seat = t.seat
  noExternal : w.time.external = false ∨ w.sel.extPresent = false
  cands : (∀ c ∈ w.sel.cands, c.slot = q ∧ c.cls = k) ∧ w.sel.cands ≠ []
  source : w.sel.source = .bus q
  servo : w.servo = t.servo
  time : w.time = t.time
  eligible : w.sel.eligible = t.sel.eligible
  standing : w.sel.standing = if t.sel.eligible = true then 13 else 15
  told : TimingTold w

/-- R140: a follower that is not locked announces its standing class, and keeps the lock record of `s`. -/
structure FollowerClasses (s w : Station) : Prop where
  announced : w.sel.announced = w.sel.standing
  lockRecord : w.sel.lockRecord = s.sel.lockRecord

/-- R136: the candidates that a review leaves of a set of slot `q` alone. -/
theorem Station.review_cands_of_one {w : Station} {q : Slot} {k : Nat} (all : ∀ c ∈ w.sel.cands, c.slot = q)
    (some_ : w.sel.cands ≠ []) (now : CandidateNow w q k) :
    (∀ c ∈ w.review.sel.cands, c.slot = q ∧ c.cls = k) ∧ w.review.sel.cands ≠ [] := by
  refine ⟨fun c hc => ?_, ?_⟩
  · obtain ⟨now', x, hx, slot, -⟩ := (w.mem_review_cands c).1 hc
    have slot' : c.slot = q := slot.symm.trans (all x hx)
    obtain ⟨-, -, -, cls, -⟩ := now
    obtain ⟨-, -, -, cls', -⟩ := now'
    rw [slot', cls] at cls'
    exact ⟨slot', (Option.some.inj cls').symm⟩
  · obtain ⟨x, hx⟩ := List.exists_mem_of_ne_nil _ some_
    have mem : (⟨q, k, x.deadline⟩ : Candidate) ∈ w.review.sel.cands :=
      (w.mem_review_cands _).2 ⟨now, x, hx, all x hx, rfl⟩
    exact List.ne_nil_of_mem mem

/-- R141: the source of a set of slot `q` alone, which ranks above. -/
theorem Station.review_source_of_one {w : Station} {q : Slot} {k : Nat}
    (cands : (∀ c ∈ w.review.sel.cands, c.slot = q ∧ c.cls = k) ∧ w.review.sel.cands ≠ [])
    (noExternal : w.time.external = false ∨ w.sel.extPresent = false)
    (above : Above k q w.sel.standing w.seat.slot) : w.review.sel.source = .bus q := by
  obtain ⟨all, some_⟩ := cands
  obtain ⟨b, rest, split⟩ := List.exists_cons_of_ne_nil some_
  obtain ⟨slot, cls⟩ := all b (split ▸ List.mem_cons_self)
  have chosen := ((w.chooseSource_bus w.review.sel.cands noExternal).2 b rest split).1
  rw [slot, cls] at chosen
  exact w.review_source_eq.trans (chosen above)

/-- R140: the classes of a follower that is not taken as locked. -/
theorem Station.review_followerClasses {w : Station} {q : Slot} (source : w.review.sel.source = .bus q)
    (unlocked : ¬ TakenLocked w (.bus q)) (away : w.servo.state ≠ .holdover) : FollowerClasses w w.review := by
  obtain ⟨announced, standing, record⟩ := w.review_classes
  rw [source] at announced standing record
  have notHoldover : ¬ TakenHoldover w (.bus q) := fun taken =>
    taken.elim away fun h => by cases h.1
  obtain ⟨barred, eligible⟩ := w.classFor_spec (.bus q)
  refine ⟨?_, record.trans (if_neg fun taken => unlocked ((takenAs_locked_iff w _).1 taken))⟩
  rw [announced, standing]
  cases h : w.sel.eligible with
  | false => exact barred h
  | true => exact (eligible h).2.2 unlocked notHoldover

theorem Station.review_standing_bus {w : Station} {q : Slot} (source : w.review.sel.source = .bus q) :
    w.review.sel.standing = if w.sel.eligible = true then 13 else 15 := by
  rw [w.review_classes.2.1, source]
  rfl

theorem candidateNow_congr {u w : Station} (h : w.roster = u.roster) {q : Slot} {k : Nat} :
    CandidateNow w q k ↔ CandidateNow u q k := by
  unfold CandidateNow
  rw [Station.peer_of_roster _ _ h]

theorem Following.review {t w : Station} {q : Slot} {k : Nat} (h : Following t q k w) (now : CandidateNow t q k)
    (low : k < 13) (acquire : t.servo.state = .acquire) :
    Following t q k w.review ∧ FollowerClasses w w.review := by
  have f := w.review_frame
  have now' : CandidateNow w q k := (candidateNow_congr h.roster).2 now
  have state : w.servo.state = .acquire := (congrArg Servo.state h.servo).trans acquire
  have cands := Station.review_cands_of_one (fun c hc => (h.cands.1 c hc).1) h.cands.2 now'
  have source : w.review.sel.source = .bus q := by
    refine Station.review_source_of_one cands h.noExternal (.inl ?_)
    rw [h.standing]
    split <;> omega
  have takes := w.review_beaconing.2.2.2.2.1 (source.trans h.source.symm)
  obtain ⟨servo, time, -⟩ := takes
  have standing := Station.review_standing_bus source
  refine ⟨⟨f.roster.trans h.roster, f.seat.trans h.seat, ?_, cands, source, servo.trans h.servo, time.trans h.time,
    f.eligible.trans h.eligible, ?_, Station.review_timingTold h.told⟩,
    Station.review_followerClasses source (fun taken => ?_) ?_⟩
  · exact h.noExternal.imp (congrArg TimeBase.external time).trans f.selExt.trans
  · rw [standing, h.eligible]
  · simp [TakenLocked, state] at taken
  · simp [state]

end Sys2Proof.Machine
end

section
/-! SUPPORT. The choice of source at a review and at a candidate's deadline (R136 to R146, R152, R162). -/

-- One theorem after another: the check's data limit has no room for a thread for each.
set_option Elab.async false

open Sys2Proof Sys2Proof.Machine Sys2Proof.Safety Sys2Proof.Slice0

namespace Sys2Proof.Machine

/-! ### A candidate's deadline with its reviews -/

/-- R136, R142, R162: with the only candidate gone, the servo holds over. -/
theorem Station.dropAndReview_last {s : Station} {p : Slot} (only : ∀ c ∈ s.sel.cands, c.slot = p)
    (noExternal : s.time.external = false ∨ s.sel.extPresent = false) (source : s.sel.source = .bus p)
    (away : s.servo.state = .acquire ∨ s.servo.state = .locked) :
    ∃ t, ServoTakes s t .none ∧ t.servo.state = .holdover ∧ t.sel.lockRecord = s.sel.lockRecord ∧
      t.sel.eligible = s.sel.eligible ∧ t.servo.expired = decide (s.servo.holdLimit = 0) ∧
      HeldOver t (s.dropAndReview p) ∧ HeldClasses t (s.dropAndReview p) := by
  let v := s.removeCandidate p
  have empty : v.sel.cands = [] :=
    List.filter_eq_nil_iff.2 fun c hc => by simp [only c hc]
  have f := v.review_frame
  have cands : v.review.sel.cands = [] := by rw [v.review_cands, empty, v.refreshed_nil]
  have chosen : v.review.sel.source = .none := v.review_source_eq.trans ((v.chooseSource_bus _ noExternal).1 cands)
  have moved : Source.none ≠ s.sel.source := by rw [source]; exact fun h => by cases h
  have takes : ServoTakes s v.review .none := chosen ▸ v.review_beaconing.2.2.2.2
  obtain ⟨told, -, settles⟩ := takes.2 moved
  obtain ⟨time, servo, -⟩ := (settles rfl).2 away
  have state : v.review.servo.state = .holdover := by rw [servo]
  have external : v.review.time.external = s.time.external := by rw [time]
  have record : v.review.sel.lockRecord = s.sel.lockRecord := by
    refine v.review_classes.2.2.trans (if_neg fun taken => ?_)
    exact ((takenAs_locked_iff v _).1 taken).2.1 chosen
  have held : HeldOver v.review v.review :=
    ⟨⟨cands, noExternal.imp external.trans f.selExt.trans, chosen⟩, rfl, rfl, rfl, rfl, told, id⟩
  have events : ∃ n, servoEvents v.servo v.review.servo = n + 1 := by
    have changed : v.servo.state ≠ v.review.servo.state := by
      rw [state]
      rcases away with h | h <;> exact fun same => by cases (h.symm.trans same : _ = ServoState.holdover)
    unfold servoEvents
    rw [if_neg changed, Nat.add_comm]
    exact ⟨_, rfl⟩
  obtain ⟨n, more⟩ := events
  have settled := reviewLoop_settles (Q := HeldOver v.review) (P := fun w => HeldOver v.review w ∧ HeldClasses v.review w)
    (fun w hw => hw.review state) (fun _ h => h.1) 6 n v.review held
  have steps : s.dropAndReview p = reviewLoop 7 (n + 1) v.review := more ▸ v.reviews_one
  rw [steps]
  exact ⟨v.review, takes, state, record, f.eligible, by rw [servo], settled⟩

/-- R136, R141, R152: with another candidate left that ranks above, the servo acquires it. -/
theorem Station.dropAndReview_next {s : Station} {p q : Slot} {k : Nat} (other : q ≠ p)
    (two : ∀ c ∈ s.sel.cands, c.slot = p ∨ c.slot = q) (left : ∃ c ∈ s.sel.cands, c.slot = q)
    (now : CandidateNow s q k) (low : k < 13) (above : Above k q s.sel.standing s.seat.slot)
    (noExternal : s.time.external = false ∨ s.sel.extPresent = false) (source : s.sel.source = .bus p)
    (away : s.servo.state = .acquire ∨ s.servo.state = .locked) :
    ∃ t, ServoTakes s t (.bus q) ∧ t.servo.state = .acquire ∧ t.sel.eligible = s.sel.eligible ∧
      Following t q k (s.dropAndReview p) ∧
      (s.servo.state = .acquire ∨ s.sel.lockedSource = some s.sel.source → FollowerClasses s (s.dropAndReview p)) := by
  let v := s.removeCandidate p
  have f := v.review_frame
  have rest {c : Candidate} : c ∈ v.sel.cands ↔ c ∈ s.sel.cands ∧ c.slot ≠ p := by
    refine List.mem_filter.trans (and_congr_right fun _ => ?_)
    simp
  have all : ∀ c ∈ v.sel.cands, c.slot = q := fun c hc =>
    (two c (rest.1 hc).1).resolve_left (rest.1 hc).2
  have some_ : v.sel.cands ≠ [] := by
    obtain ⟨c, hc, slot⟩ := left
    exact List.ne_nil_of_mem (rest.2 ⟨hc, slot.symm ▸ other⟩)
  have cands := Station.review_cands_of_one (w := v) all some_ now
  have chosen : v.review.sel.source = .bus q := Station.review_source_of_one cands noExternal above
  have moved : Source.bus q ≠ s.sel.source := by
    rw [source]
    exact fun same => other (Source.bus.inj same)
  have takes : ServoTakes s v.review (.bus q) := chosen ▸ v.review_beaconing.2.2.2.2
  obtain ⟨told, acquires, -⟩ := takes.2 moved
  obtain ⟨time, servo⟩ := acquires fun h => by cases h
  have state : v.review.servo.state = .acquire := by rw [servo]
  have now' : CandidateNow v.review q k := (candidateNow_congr f.roster).2 now
  have first : Following v.review q k v.review :=
    ⟨rfl, rfl, noExternal.imp (congrArg TimeBase.external time).trans f.selExt.trans, cands, chosen, rfl, rfl, rfl,
      (Station.review_standing_bus chosen).trans (by rw [f.eligible]), told⟩
  let classed (w : Station) : Prop :=
    s.servo.state = .acquire ∨ s.sel.lockedSource = some s.sel.source → FollowerClasses s w
  have firstClasses : classed v.review := fun fresh => by
    have unlocked : ¬ TakenLocked v (.bus q) := by
      rintro ⟨locked, -, recorded⟩
      rcases fresh with h | h
      · cases (h.symm.trans locked : ServoState.acquire = .locked)
      · exact moved (Option.some.inj (recorded.symm.trans h))
    have notHoldover : v.servo.state ≠ .holdover := by
      rcases away with h | h <;> exact fun held => by cases (h.symm.trans held : _ = ServoState.holdover)
    obtain ⟨announced, record⟩ := Station.review_followerClasses (w := v) chosen unlocked notHoldover
    exact ⟨announced, record⟩
  have settled := reviewLoop_keep (fun w => Following v.review q k w ∧ classed w)
    (fun w hw => by
      obtain ⟨following, classes⟩ := hw.1.review now' low state
      exact ⟨following, fun fresh => ⟨classes.announced, classes.lockRecord.trans (hw.2 fresh).lockRecord⟩⟩)
    7 (servoEvents v.servo v.review.servo) v.review ⟨first, firstClasses⟩
  have steps : s.dropAndReview p = reviewLoop 7 (servoEvents v.servo v.review.servo) v.review := v.reviews_one
  rw [steps]
  exact ⟨v.review, takes, state, f.eligible, settled⟩

end Sys2Proof.Machine

namespace Sys2Proof.Slice0

/-- R136 to R146: one review, as the statement describes it. -/
theorem review_chooses (u : Station) :
    let t := u.review
    (u.sel.beaconing = .off → MayBeacon u t.sel →
      t.sel.beaconing = .claiming ∧
        t.sel.claim = some (u.localTime + (u.seat.slot.val + 1) * 800000)) ∧
    (u.sel.beaconing = .claiming → ¬ MayBeacon u t.sel →
      t.sel.beaconing = .off ∧ t.sel.claim = none) ∧
    (u.sel.beaconing = .on → ¬ MayBeacon u t.sel →
      t.sel.beaconing = .off ∧ t.sel.interval = none ∧
        ∀ e ∈ t.sched.timing, e.kind = .beacon → e.onLane = true ∧ e.withdrawn = true) ∧
    ((u.sel.beaconing = .off ↔ ¬ MayBeacon u t.sel) →
      t.sel.beaconing = u.sel.beaconing ∧ t.sel.claim = u.sel.claim ∧
        t.sel.interval = u.sel.interval ∧ t.sched.timing = u.sched.timing) := by
  have may := u.mayBeacon_iff
  obtain ⟨claims, stops, ends, rests⟩ := ({ u with sel := u.chosen } : Station).decideBeaconing_spec
  obtain ⟨beaconing, claim, interval, timing, -⟩ := u.review_beaconing
  have no (h : ¬ MayBeacon u u.review.sel) : ({ u with sel := u.chosen } : Station).beaconCondition = false :=
    Bool.eq_false_iff.2 fun yes => h (may.1 yes)
  intro t
  show _ ∧ _ ∧ _ ∧ _
  rw [beaconing, claim, interval, timing]
  refine ⟨fun off yes => claims off (may.2 yes), fun claiming h => stops claiming (no h),
    fun on h => ends on (no h), fun same => ?_⟩
  have kept := rests (same.trans ⟨no, fun condition yes => by rw [may.2 yes] at condition; cases condition⟩)
  rw [kept]
  exact ⟨rfl, rfl, rfl, rfl⟩

/-- Settles O36. -/
theorem reviewChoosesTheSource : Obligations.ReviewChoosesTheSource := by
  refine ⟨fun u => ?_, fun s p hold stale noExternal source away => ⟨fun only => ?_, fun q k other two left now low above => ?_⟩⟩
  · obtain ⟨announced, standing, record⟩ := u.review_classes
    obtain ⟨barred, eligible⟩ := u.classFor_spec u.review.sel.source
    obtain ⟨claims, stops, ends, rests⟩ := review_chooses u
    have f := u.review_frame
    have sel := u.review_sel
    have locked := takenAs_locked_iff u u.review.sel.source
    rw [← announced] at barred eligible
    have external : u.review.sel.source = .external ↔ _ := u.review_source_eq ▸ u.chooseSource_external _
    have bus := u.chooseSource_bus u.review.sel.cands
    rw [← u.review_source_eq] at bus
    refine ⟨u.mem_review_cands, u.review_cands_sorted, external.2, bus, barred, eligible,
      fun r src => ?_, fun src => ?_, fun taken => record.trans (if_pos (locked.2 taken)),
      fun free => record.trans (if_neg fun taken => free (locked.1 taken)), claims, stops, ends, rests, f.eligible,
      f.selExt, ?_, ?_, ?_, f.handover, u.review_beaconing.2.2.2.2, f.roster, f.seat, f.lane, f.share, f.rx,
      f.localTime⟩
    · exact Station.review_standing_bus src
    · rw [standing]
      rcases src with src | src <;> rw [src] <;> rfl
    · rw [sel]
    · rw [sel]
    · rw [sel]
  · have isDue : s.candidateStale p = true := by
      obtain ⟨c, hc, slot, late⟩ := stale
      exact List.any_eq_true.2 ⟨c, hc, by simp [slot, late]⟩
    have run : exec (.candidateDeadline p) s = _ := State.run_offerEvent_due _ hold isDue
    obtain ⟨t, takes, state, record, eligible, expired, held, classes⟩ :=
      Station.dropAndReview_last only noExternal source away
    generalize s.toStation.dropAndReview p = w at run held classes
    obtain ⟨-, -, -, -, alarm, -, sel, -⟩ := w.closing_frame
    have closed := w.closing_eq
    have moved : Source.none ≠ s.sel.source := by rw [source]; exact fun h => by cases h
    have servo : (closing w).servo = t.servo := (by rw [closed] : (closing w).servo = w.servo).trans held.servo
    refine ⟨_, run, ?_, ?_, ?_, ?_, fun no => ?_, fun yes lost => ?_, fun r yes limited recorded => ?_, ?_, ?_⟩
    · exact (congrArg Selector.cands sel).trans held.nothing.cands
    · exact (congrArg Selector.source sel).trans held.nothing.source
    · refine servoTakes_kept takes moved servo ?_ ?_ fun has => ?_
      · exact (by rw [closed] : (closing w).time = w.time).trans held.time
      · exact (by rw [closed] : (closing w).port.timingCause = w.port.timingCause).trans held.told
      · exact (congrArg (AlarmUnit.has · holdoverExpired) alarm).trans (held.has has)
    · exact (congrArg Servo.state servo).trans state
    · exact (congrArg Selector.announced sel).trans (classes.barred (held.eligible.trans (eligible.trans no)))
    · refine (congrArg Selector.announced sel).trans (classes.lost (held.eligible.trans (eligible.trans yes)) ?_)
      rw [expired, record]
      simpa using lost
    · refine (congrArg Selector.announced sel).trans
        (classes.held r (held.eligible.trans (eligible.trans yes)) ?_ (record.trans recorded))
      rw [expired]
      exact decide_eq_false (by omega)
    · refine (congrArg Selector.standing sel).trans (classes.standing.trans ?_)
      exact (congrArg Selector.announced sel).symm
    · exact (congrArg Selector.lockRecord sel).trans (held.lockRecord.trans record)
  · have isDue : s.candidateStale p = true := by
      obtain ⟨c, hc, slot, late⟩ := stale
      exact List.any_eq_true.2 ⟨c, hc, by simp [slot, late]⟩
    have run : exec (.candidateDeadline p) s = _ := State.run_offerEvent_due _ hold isDue
    obtain ⟨t, takes, state, eligible, following, classes⟩ :=
      Station.dropAndReview_next other two left now low above noExternal source away
    generalize s.toStation.dropAndReview p = w at run following classes
    obtain ⟨-, -, -, -, -, -, sel, -⟩ := w.closing_frame
    have closed := w.closing_eq
    have moved : Source.bus q ≠ s.sel.source := by
      rw [source]
      exact fun same => other (Source.bus.inj same)
    have servo : (closing w).servo = t.servo := (by rw [closed] : (closing w).servo = w.servo).trans following.servo
    have time : (closing w).time = t.time := (by rw [closed] : (closing w).time = w.time).trans following.time
    obtain ⟨told, acquires, -⟩ := takes.2 moved
    refine ⟨_, run, ?_, ?_, ?_, ?_, ?_, ?_, fun fresh => ?_⟩
    · exact (congrArg Selector.source sel).trans following.source
    · refine ⟨fun same => absurd same moved, fun _ => ⟨?_, ?_, fun h => by cases h⟩⟩
      · exact (by rw [closed] : (closing w).port.timingCause = w.port.timingCause).trans following.told
      · show _ → (closing w).time = _ ∧ (closing w).servo = _
        rw [servo, time]
        exact acquires
    · exact (congrArg Servo.state servo).trans state
    · exact fun c hc => following.cands.1 c (sel ▸ hc)
    · exact fun h => following.cands.2 ((congrArg Selector.cands sel).symm.trans h)
    · refine (congrArg Selector.standing sel).trans (following.standing.trans ?_)
      rw [eligible]
    · obtain ⟨announced, record⟩ := classes fresh
      refine ⟨?_, (congrArg Selector.lockRecord sel).trans record⟩
      exact (congrArg Selector.announced sel).trans (announced.trans (congrArg Selector.standing sel).symm)

end Sys2Proof.Slice0
end

section
/-! SUPPORT. CONFIGURE: the fields that every owner takes, and what the change of seat state leaves of them (R28, R90,
R124, R163, R190). -/

-- One theorem after another: the check's data limit has no room for a thread for each.
set_option Elab.async false

open Sys2Proof Sys2Proof.Machine Sys2Proof.Safety Sys2Proof.Slice0

namespace Sys2Proof.Machine

/-! ### The fields of CONFIGURE over a change of seat state and reviews -/

/-- R190: the fields that CONFIGURE gives their owners stay, and the rate alone moves of the time base. -/
structure ConfigKept (s t : Station) : Prop where
  cardType : t.roster.cardType = s.roster.cardType := by rfl
  eligible : t.sel.eligible = s.sel.eligible := by rfl
  relayCapable : t.alarm.relayCapable = s.alarm.relayCapable := by rfl
  time : t.time = { s.time with a := t.time.a } := by rfl
  pitch : t.servo.pitch = s.servo.pitch := by rfl
  holdLimit : t.servo.holdLimit = s.servo.holdLimit := by rfl
  share : t.share = s.share := by rfl
  timeout : t.port.timeout = s.port.timeout := by rfl
  txRoom : t.port.txRoom = s.port.txRoom := by rfl
  reapLevel : t.port.reapLevel = s.port.reapLevel := by rfl
  rx : t.rx = s.rx := by rfl
  pins : t.pins = s.pins := by rfl
  localTime : t.localTime = s.localTime := by rfl

theorem ConfigKept.trans {s t u : Station} (h : ConfigKept s t) (g : ConfigKept t u) : ConfigKept s u where
  cardType := g.cardType.trans h.cardType
  eligible := g.eligible.trans h.eligible
  relayCapable := g.relayCapable.trans h.relayCapable
  time := g.time.trans (by rw [h.time])
  pitch := g.pitch.trans h.pitch
  holdLimit := g.holdLimit.trans h.holdLimit
  share := g.share.trans h.share
  timeout := g.timeout.trans h.timeout
  txRoom := g.txRoom.trans h.txRoom
  reapLevel := g.reapLevel.trans h.reapLevel
  rx := g.rx.trans h.rx
  pins := g.pins.trans h.pins
  localTime := g.localTime.trans h.localTime

theorem ReviewFrame.configKept {s t : Station} (f : ReviewFrame s t) : ConfigKept s t where
  cardType := congrArg Roster.cardType f.roster
  eligible := f.eligible
  relayCapable := f.relayCapable
  time := f.time
  pitch := f.pitch
  holdLimit := f.holdLimit
  share := f.share
  timeout := by rw [f.port]
  txRoom := by rw [f.port]
  reapLevel := by rw [f.port]
  rx := f.rx
  pins := f.pins
  localTime := f.localTime

theorem QueueFrame.configKept {s t : Station} (f : QueueFrame s t) : ConfigKept s t where
  cardType := congrArg Roster.cardType f.roster
  eligible := congrArg Selector.eligible f.sel
  relayCapable := congrArg AlarmUnit.relayCapable f.alarm
  time := by rw [f.time]
  pitch := congrArg Servo.pitch f.servo
  holdLimit := congrArg Servo.holdLimit f.servo
  share := f.share
  timeout := by rw [f.port]
  txRoom := by rw [f.port]
  reapLevel := by rw [f.port]
  rx := f.rx
  pins := f.pins
  localTime := f.localTime

/-- The servo is not LOCKED, and its unlocked timer stands so. -/
structure AwaySince (timer : Timer) (s : Station) : Prop where
  state : s.servo.state ≠ .locked
  unlocked : s.servo.unlocked = timer

/-- R163: a review moves the servo out of LOCKED at most. -/
theorem AwaySince.review {timer : Timer} {s : Station} (h : AwaySince timer s) : AwaySince timer s.review := by
  have from_ : unlockedFrom s = timer := (if_neg h.state).trans h.unlocked
  obtain ⟨same, moves⟩ := s.review_beaconing.2.2.2.2
  by_cases kept : s.review.sel.source = s.sel.source
  · obtain ⟨servo, -⟩ := same kept
    exact ⟨fun locked => h.state ((congrArg Servo.state servo).symm.trans locked),
      (congrArg Servo.unlocked servo).trans h.unlocked⟩
  · obtain ⟨-, acquires, settles⟩ := moves kept
    by_cases none : s.review.sel.source = .none
    · obtain ⟨rests, holds⟩ := settles none
      by_cases away : s.servo.state = .acquire ∨ s.servo.state = .locked
      · obtain ⟨-, servo, -⟩ := holds away
        rw [from_] at servo
        exact ⟨fun locked => (by rw [servo] at locked; cases locked), by rw [servo]⟩
      · have still : s.servo.state = .free ∨ s.servo.state = .holdover := by
          cases state : s.servo.state <;> simp [state] at away ⊢
        obtain ⟨servo, -⟩ := rests still
        exact ⟨fun locked => h.state (by rw [servo] at locked; exact locked), by rw [servo]; exact h.unlocked⟩
    · obtain ⟨-, servo⟩ := acquires none
      rw [from_] at servo
      exact ⟨fun locked => (by rw [servo] at locked; cases locked), by rw [servo]⟩

theorem AwaySince.reviews {timer : Timer} {s : Station} (h : AwaySince timer s) (events : Nat) :
    AwaySince timer (s.reviews events) := reviews_keep (AwaySince timer) (fun _ => AwaySince.review) s events h

/-- R28: the way out of CONFIG leaves the fields just taken. -/
theorem Station.enterSeat_configKept (s : Station) (new : SeatState) (h : new = .listen ∨ new = .waitSeat) :
    ConfigKept s (s.enterSeat new) ∧ (s.servo.state ≠ .locked → (s.enterSeat new).servo.state ≠ .locked) := by
  have opened : closesGate (s.announceSeat new).seat.state = false := by
    rcases h with rfl | rfl <;> rfl
  obtain ⟨-, -, port, alarm, sel, servo, -⟩ := (s.announceSeat new).closeGates_open opened
  have f := (s.announceSeat new).closeGates_frame
  have state : (s.announceSeat new).closeGates.seat.state = new := by rw [Station.closeGates_seat]; rfl
  have gates : ConfigKept s (s.announceSeat new).closeGates :=
    { cardType := f.cardType
      eligible := congrArg Selector.eligible sel
      relayCapable := congrArg AlarmUnit.relayCapable alarm
      time := f.time
      pitch := congrArg Servo.pitch servo
      holdLimit := congrArg Servo.holdLimit servo
      share := f.share
      timeout := (congrArg Port.timeout port).trans rfl
      txRoom := (congrArg Port.txRoom port).trans rfl
      reapLevel := (congrArg Port.reapLevel port).trans rfl
      rx := f.rx
      pins := f.pins
      localTime := f.localTime }
  have entered : s.enterSeat new = ((s.announceSeat new).closeGates).seatTimers.reviews 1 := rfl
  rw [entered]
  have servo' : (s.announceSeat new).closeGates.servo = s.servo := servo
  generalize (s.announceSeat new).closeGates = u at *
  have timers : ConfigKept u u.seatTimers ∧ u.seatTimers.servo = u.servo := by
    unfold Station.seatTimers
    dsimp only
    rw [state]
    rcases h with rfl | rfl <;> exact ⟨{}, rfl⟩
  obtain ⟨kept, same⟩ := timers
  refine ⟨(gates.trans kept).trans (Station.reviews_frame _ 1).configKept, fun away => ?_⟩
  have since : AwaySince u.seatTimers.servo.unlocked u.seatTimers :=
    ⟨by rw [same, servo']; exact away, rfl⟩
  exact (since.reviews 1).state

theorem Station.leaveConfig_eq (s : Station) :
    s.leaveConfig =
      s.enterSeat (if s.pins.seatPresent ∧ s.pins.latchClosed then .listen else .waitSeat) := by
  unfold Station.leaveConfig Station.enterListen
  by_cases there : s.pins.seatPresent = true ∧ s.pins.latchClosed = true
  · rw [if_pos there, if_pos (by simpa using there)]
  · rw [if_neg there, if_neg (by simpa using there)]

/-- R124: the air offset taken. -/
theorem TimeBase.realign_spec (t : TimeBase) (offset : Nat) :
    (t.realign offset).offset = offset ∧ (offset = t.offset → t.realign offset = t) ∧
      (offset ≠ t.offset →
        t.realign offset =
          { t with
            offset := offset, resyncSub := true, resyncFrame := true
            passOver :=
              if t.resyncFrame = true then none
              else (t.owedFrame.getLast?.map fun o => o.count).or t.lastCount }) := by
  have latest : t.latestCount = (t.owedFrame.getLast?.map fun o => o.count).or t.lastCount := by
    unfold TimeBase.latestCount
    cases t.owedFrame.getLast? <;> rfl
  unfold TimeBase.realign
  by_cases same : offset = t.offset
  · exact ⟨by rw [if_pos same]; exact same.symm, fun _ => if_pos same, fun h => absurd same h⟩
  · rw [if_neg same, latest]
    exact ⟨rfl, fun h => absurd h same, fun _ => rfl⟩

/-- R28, R163, R190: CONFIGURE in CONFIG. -/
theorem Station.configure_spec {u : Station} (c : ConfigArgs) (config : u.seat.state = .config) :
    ∃ t, u.configure c = (t, .ok, .configured (heldConfig c)) ∧ ConfigKept (u.takeConfig (heldConfig c)) t ∧
      t.seat =
        { u.seat with
          state := if u.pins.seatPresent ∧ u.pins.latchClosed then .listen else .waitSeat
          listenCount := 0, drain := none } ∧
      (u.servo.state ≠ .locked → t.servo.unlocked = .running (u.localTime + 1000000000)) := by
  let v := u.takeConfig (heldConfig c)
  let new : SeatState := if u.pins.seatPresent ∧ u.pins.latchClosed then .listen else .waitSeat
  have left : v.leaveConfig = v.enterSeat new := v.leaveConfig_eq
  have way : new = .listen ∨ new = .waitSeat := by
    unfold new
    split
    · exact .inl rfl
    · exact .inr rfl
  obtain ⟨kept, away⟩ := v.enterSeat_configKept new way
  have seat := v.enterSeat_seat_inactive new (by rcases way with h | h <;> rw [h] <;> decide)
  have drain : (if new = .leaving then v.seat.drain else none) = none :=
    if_neg (by rcases way with h | h <;> rw [h] <;> decide)
  rw [drain] at seat
  have now : (v.enterSeat new).localTime = u.localTime := kept.localTime
  rw [← left] at kept seat away now
  generalize left' : v.leaveConfig = w at kept seat away now
  have started : ConfigKept w w.startUnlockedUnlessLocked ∧ w.startUnlockedUnlessLocked.seat = w.seat := by
    unfold Station.startUnlockedUnlessLocked
    split <;> exact ⟨{}, rfl⟩
  obtain ⟨timer, same⟩ := started
  have f := w.startUnlockedUnlessLocked.reviews_frame 1
  have q := (w.startUnlockedUnlessLocked.reviews 1).renewOffer_spec.1
  refine ⟨(w.startUnlockedUnlessLocked.reviews 1).renewOffer, ?_, ?_, ?_, fun unlocked => ?_⟩
  · unfold Station.configure
    rw [if_neg (by simp [config]), ← left']
    rfl
  · exact ((kept.trans timer).trans f.configKept).trans q.configKept
  · exact q.seat.trans (f.seat.trans (same.trans seat))
  · have running : w.startUnlockedUnlessLocked = w.startUnlocked := if_neg (away unlocked)
    have since : AwaySince (.running (u.localTime + 1000000000)) w.startUnlocked :=
      ⟨away unlocked, by rw [← now]; rfl⟩
    rw [← running] at since
    exact (congrArg Servo.unlocked q.servo).trans (since.reviews 1).unlocked

end Sys2Proof.Machine

namespace Sys2Proof.Slice0

/-- Settles O45. -/
theorem configureEndsConfig : Obligations.ConfigureEndsConfig := by
  intro s c serving
  have edited := s.toStation.cardAlive_edited
  have pins : s.cardAlive.pins = s.pins := s.toStation.cardAlive_frame.1.pins
  have now : s.cardAlive.localTime = s.localTime := s.toStation.cardAlive_frame.1.localTime
  refine ⟨fun config => ?_, fun other => State.run_serve serving (if_pos ?_)⟩
  · obtain ⟨t, answer, kept, seat, unlocked⟩ :=
      Station.configure_spec (u := s.cardAlive) c ((congrArg Seat.state edited.seat).trans config)
    have run := State.run_serve (req := .configure c) serving answer
    obtain ⟨offset, same, moved⟩ := s.time.realign_spec (heldConfig c).airOffset
    have time : t.time =
        { s.time.realign (heldConfig c).airOffset with external := (heldConfig c).external, a := t.time.a } := by
      rw [← edited.time]
      exact kept.time
    rw [pins, edited.seat] at seat
    rw [edited.servo, now] at unlocked
    refine ⟨_, heldConfig c, _, run, seat, rfl, kept.cardType, rfl, kept.eligible, rfl, ?_, rfl, kept.relayCapable,
      rfl, ?_, fun h => ?_, fun h => ?_, rfl, kept.pitch, rfl, kept.holdLimit, rfl, rfl, rfl, rfl, rfl, ?_, rfl,
      kept.timeout, rfl, kept.txRoom, rfl, kept.reapLevel, unlocked, rfl, rfl, rfl, ?_, ?_⟩
    · exact congrArg TimeBase.external time
    · exact (congrArg TimeBase.offset time).trans offset
    · refine time.trans ?_
      rw [same h]
      rfl
    · refine time.trans ?_
      rw [moved h]
      rfl
    · refine kept.share.trans ?_
      rw [← edited.share]
      rfl
    · exact kept.rx.trans edited.rx
    · exact kept.pins.trans pins
  · rw [show s.cardAlive.seat = s.seat from edited.seat]
    simpa using other

end Sys2Proof.Slice0
end

section
/-! SUPPORT. RESET TRAFFIC and RESET TIMING (R58, R64, R82, R115, R150, R167). -/

-- One theorem after another: the check's data limit has no room for a thread for each.
set_option Elab.async false

open Sys2Proof Sys2Proof.Machine Sys2Proof.Safety Sys2Proof.Slice0

namespace Sys2Proof.Machine

/-! ### RESET TRAFFIC (R82, R115) -/

/-- R81, R82: the flush of every card frame, EXPRESS before BULK. -/
theorem Station.flushCards_spec (s : Station) :
    QueueFrame s s.flushCards ∧ s.flushCards.sched.timing = s.sched.timing ∧
      (∀ e ∈ s.flushCards.sched.express ++ s.flushCards.sched.bulk, e.onLane = true ∧ e.pending.isSome = true) ∧
      s.flushCards.sched.completions = s.sched.completions ++
        ((s.sched.express ++ s.sched.bulk).filter fun e => !e.onLane).filterMap (recordOf .flushed) := by
  have flushed (l : List Entry) :
      ∀ e ∈ (l.filter fun e => !(true && !e.onLane)).map fun e => if true then e.markPending .flushed else e,
        e.onLane = true ∧ e.pending.isSome = true := by
    intro e he
    obtain ⟨x, hx, rfl⟩ := List.mem_map.1 he
    have onLane : x.onLane = true := by simpa using (List.mem_filter.1 hx).2
    exact ⟨onLane, by simp [Entry.markPending]⟩
  obtain ⟨frame, express, others, -, records⟩ := s.flush_spec .express (fun _ => true) .flushed
  obtain ⟨frame', bulk, others', -, records'⟩ :=
    (s.flush .express (fun _ => true) .flushed).flush_spec .bulk (fun _ => true) .flushed
  have old : (s.flush .express (fun _ => true) .flushed).sched.queue .bulk = s.sched.queue .bulk :=
    others .bulk (by decide)
  refine ⟨frame.trans frame', (others' .timing (by decide)).trans (others .timing (by decide)), fun e he => ?_, ?_⟩
  · rcases List.mem_append.1 he with left | left
    · have same : s.flushCards.sched.express = _ := (others' .express (by decide)).trans express
      rw [same] at left
      exact flushed _ e left
    · have same : s.flushCards.sched.bulk = _ := bulk
      rw [same, old] at left
      exact flushed _ e left
  · refine records'.trans ?_
    rw [records, old, List.append_assoc, ← List.filterMap_append, ← List.filter_append]
    simp only [Bool.true_and]
    rfl

/-- R82, R86: entries that are not written are not marked missed. -/
theorem Missed.unwritten {d : Fin 4 → Prop} {s t : Station} (h : Missed d s t)
    (clear : ∀ i, (s.sched.periodic.get i).written = false) (i : Fin 4) :
    t.sched.periodic.get i = s.sched.periodic.get i :=
  h.kept i fun both => by simp [clear i] at both

theorem Station.flushCards_periodic {s : Station} (clear : ∀ i, (s.sched.periodic.get i).written = false)
    (i : Fin 4) : s.flushCards.sched.periodic.get i = s.sched.periodic.get i := by
  have first := (s.flush_missed .express (fun _ => true) .flushed).unwritten clear
  have clear' : ∀ i, ((s.flush .express (fun _ => true) .flushed).sched.periodic.get i).written = false :=
    fun i => (congrArg PeriodicEntry.written (first i)).trans (clear i)
  exact ((Station.flush_missed _ .bulk (fun _ => true) .flushed).unwritten clear' i).trans (first i)

/-- R97: with every BULK frame on the lane, renewing the offer moves the offer alone. -/
theorem Station.renewOffer_onLane {s : Station} (h : ∀ e ∈ s.sched.bulk, e.onLane = true) :
    s.renewOffer = s.setOffer s.renewOffer.sched.offer := by
  have none : s.sched.bulk.takeWhile s.sheds = [] ∧ s.sched.bulk.dropWhile s.sheds = s.sched.bulk := by
    cases split : s.sched.bulk with
    | nil => exact ⟨rfl, rfl⟩
    | cons e l =>
      have stays : ¬ s.sheds e = true := by
        simp [Station.sheds, h e (split ▸ List.mem_cons_self)]
      exact ⟨List.takeWhile_cons_of_neg stays, List.dropWhile_cons_of_neg stays⟩
  have selected : s.bulkSelection = s := by
    unfold Station.bulkSelection
    rw [none.1, none.2]
    exact ite_self _
  unfold Station.renewOffer
  rw [selected]
  split
  · rfl
  · split
    · rfl
    · split
      · rfl
      · split <;> rfl

/-- R82, R115: RESET TRAFFIC outside CONFIG. -/
theorem Station.resetTraffic_spec {u : Station} (out : u.seat.state ≠ .config) :
    ∃ t, u.resetTraffic = (t, .ok, .empty) ∧ t.rx = { express := [], bulk := [], overrun := false } ∧
      (u.rx.overrun = true → Cleared u t queueOverrun) ∧ (u.rx.overrun = false → t.alarm = u.alarm) ∧
      (∀ i, t.sched.periodic.get i = PeriodicEntry.cleared) ∧
      (∀ e ∈ t.sched.express ++ t.sched.bulk, e.onLane = true ∧ e.pending.isSome = true) ∧
      t.sched.completions = u.sched.completions ++
        ((u.sched.express ++ u.sched.bulk).filter fun e => !e.onLane).filterMap (recordOf .flushed) ∧
      t.sched.timing = u.sched.timing ∧ t.seat = u.seat ∧ t.lane = u.lane ∧ t.share = u.share ∧
      t.roster = u.roster ∧ t.time = u.time ∧ t.servo = u.servo := by
  let v := u.clearPeriodic
  let w : Station := { v.flushCards with rx := { v.flushCards.rx with express := [], bulk := [] } }
  obtain ⟨q, timing, onLane, records⟩ := v.flushCards_spec
  have blank (i : Fin 4) : v.sched.periodic.get i = PeriodicEntry.cleared := by
    show (Vector.replicate 4 PeriodicEntry.cleared).get i = _
    simp [Vector.get_eq_getElem]
  have periodic (i : Fin 4) : w.sched.periodic.get i = PeriodicEntry.cleared :=
    (Station.flushCards_periodic (fun i => by rw [blank i]; rfl) i).trans (blank i)
  have overrun_ : w.rx.overrun = u.rx.overrun := (congrArg Rx.overrun q.rx :)
  have rest : w.alarm = u.alarm := q.alarm
  obtain ⟨f, rx, cleared, kept⟩ := w.clearOverrun_spec
  have rx' : w.clearOverrun.rx = { express := [], bulk := [], overrun := false } := by
    rw [rx]
    simp [w]
  have bulk : ∀ e ∈ w.clearOverrun.sched.bulk, e.onLane = true := fun e he =>
    (onLane e (List.mem_append_right _ (f.bulk ▸ he))).1
  have offer := Station.renewOffer_onLane bulk
  have taken : u.resetTraffic = (w.clearOverrun.renewOffer, .ok, .empty) := if_neg out
  generalize w.clearOverrun = x at *
  refine ⟨x.renewOffer, taken, ?_, fun set => ?_, fun clear => ?_, fun i => ?_, ?_, ?_, ?_, ?_, ?_, ?_, ?_, ?_, ?_⟩
  all_goals rw [offer]
  · exact rx'
  · have clear : x.rx.overrun = false := by rw [rx']
    exact cleared_of_alarm (cleared (overrun_.trans set) clear) rest rfl
  · exact (kept (by rw [rx', overrun_, clear])).trans rest
  · show x.sched.periodic.get i = _
    rw [f.periodic]
    exact periodic i
  · show ∀ e ∈ x.sched.express ++ x.sched.bulk, _
    rw [f.express, f.bulk]
    exact onLane
  · exact f.completions.trans records
  · exact f.timing.trans timing
  · exact f.seat.trans q.seat
  · exact f.lane.trans q.lane
  · exact f.share.trans q.share
  · exact f.roster.trans q.roster
  · exact f.time.trans q.time
  · exact f.servo.trans q.servo

/-! ### Every peer's record renewed -/

/-- Each peer's record renewed by `g`, and nothing else. -/
theorem foldl_setPeer (g : Peer → Peer) {l : List Slot} (nodup : l.Nodup) (s : Station) :
    let t := l.foldl (fun t p => t.setPeer p (g (t.peer p))) s
    t = { s with roster := { s.roster with peers := t.roster.peers } } ∧
      ∀ p, t.peer p = if p ∈ l then g (s.peer p) else s.peer p := by
  induction l generalizing s with
  | nil => exact ⟨rfl, fun p => by simp⟩
  | cons q l ih =>
    obtain ⟨fresh, nodup⟩ := List.nodup_cons.1 nodup
    obtain ⟨eq, peers⟩ := ih nodup (s.setPeer q (g (s.peer q)))
    refine ⟨eq, fun p => (peers p).trans ?_⟩
    by_cases same : p = q
    · subst same
      rw [if_neg fresh, if_pos List.mem_cons_self]
      exact s.peer_setPeer_same p _
    · rw [s.peer_setPeer_other _ q p same]
      simp [same]

/-- R58, R64: the beacon stamps of every record void. -/
theorem Station.voidStamps_spec (s : Station) :
    s.voidStamps = { s with roster := { s.roster with peers := s.voidStamps.roster.peers } } ∧
      ∀ p, s.voidStamps.peer p = (s.peer p).voidStamp := by
  obtain ⟨eq, peers⟩ := foldl_setPeer Peer.voidStamp (by decide : allSlots.Nodup) s
  exact ⟨eq, fun p => (peers p).trans (if_pos (mem_allSlots p))⟩

theorem Station.emptySets_spec (s : Station) :
    s.emptySets = { s with roster := { s.roster with peers := s.emptySets.roster.peers } } ∧
      ∀ p, s.emptySets.peer p = { s.peer p with alarms := ⟨none, [], false⟩ } := by
  obtain ⟨eq, peers⟩ := foldl_setPeer (fun r => { r with alarms := AlarmSet.empty })
    (by decide : allSlots.Nodup) s
  exact ⟨eq, fun p => (peers p).trans (if_pos (mem_allSlots p))⟩

end Sys2Proof.Machine
end

section
/-! SUPPORT. RESET TIMING with its reviews (R64, R150, R167). -/

-- One theorem after another: the check's data limit has no room for a thread for each.
set_option Elab.async false

open Sys2Proof Sys2Proof.Machine Sys2Proof.Safety Sys2Proof.Slice0

namespace Sys2Proof.Machine

/-! ### A review of a settled set -/

theorem insertCandidate_last {c : Candidate} {l : List Candidate} (h : ∀ x ∈ l, NotBelow x c) :
    insertCandidate c l = l ++ [c] := by
  induction l with
  | nil => rfl
  | cons x l ih =>
    have below : NotBelow x c := h x List.mem_cons_self
    have not : ¬ ranksAbove c.cls c.slot.val x.cls x.slot.val = true := fun above => by
      have above' := (ranksAbove_iff c.cls x.cls c.slot x.slot).1 above
      simp only [Fin.lt_def] at above'
      simp only [NotBelow, Fin.le_def] at below
      omega
    unfold insertCandidate
    rw [if_neg not, ih fun y hy => h y (List.mem_cons_of_mem _ hy)]
    rfl

/-- R134: a set in rank order stays as it is. -/
theorem sortCandidates_of_sorted {l : List Candidate} (h : l.Pairwise NotBelow) : sortCandidates l = l := by
  have go (l acc : List Candidate) (h : (acc ++ l).Pairwise NotBelow) :
      l.foldl (fun a c => insertCandidate c a) acc = acc ++ l := by
    induction l generalizing acc with
    | nil => exact (List.append_nil _).symm
    | cons c l ih =>
      have last : insertCandidate c acc = acc ++ [c] :=
        insertCandidate_last fun x hx => (List.pairwise_append.1 h).2.2 x hx c List.mem_cons_self
      rw [List.foldl_cons, last, ih _ (by rwa [List.append_assoc]), List.append_assoc]
      rfl
  exact go l [] h

/-- R136: a set that a review has left is as the next one finds it. -/
theorem Station.refreshed_review {s t : Station} (roster : t.roster = s.roster) :
    t.refreshed s.review.sel.cands = s.review.sel.cands := by
  have current : ∀ c ∈ s.review.sel.cands, t.candidateClass c.slot = some c.cls := fun c hc => by
    rw [Station.candidateClass_congr roster]
    exact (s.candidateClass_iff _ _).2 ((s.mem_review_cands c).1 hc).1
  have same : (s.review.sel.cands.filterMap fun c => (t.candidateClass c.slot).map fun k => { c with cls := k }) =
      s.review.sel.cands := by
    refine (List.filterMap_congr fun c hc => ?_).trans (List.filterMap_some)
    rw [current c hc]
    rfl
  unfold Station.refreshed
  rw [same]
  exact sortCandidates_of_sorted s.review_cands_sorted

theorem Station.chooseSource_congr {s t : Station} (external : t.time.external = s.time.external)
    (extPresent : t.sel.extPresent = s.sel.extPresent) (standing : t.sel.standing = s.sel.standing)
    (seat : t.seat = s.seat) (l : List Candidate) : t.chooseSource l = s.chooseSource l := by
  unfold Station.chooseSource
  rw [external, extPresent, standing, seat]

/-! ### What a review after RESET TIMING leaves (R150) -/

/-- R140: the class of a station that is not locked and does not hold over. -/
def Selector.unlockedClass (c : Selector) : Nat := if c.eligible = true then 13 else 15

/-- R150, R152: the servo is FREE or acquires a source; class, source and set are those that a review finds. -/
structure Resettled (t : Station) : Prop where
  announced : t.sel.announced = t.sel.unlockedClass
  standing : t.sel.standing = t.sel.unlockedClass
  state : t.servo.state = .free ∨ t.servo.state = .acquire ∧ t.sel.source ≠ .none
  source : t.sel.source = t.chooseSource t.sel.cands
  cands : t.refreshed t.sel.cands = t.sel.cands

/-- R140: a review of a servo that is FREE, or in ACQUIRE with a source, takes the unlocked class and keeps the lock
record. -/
theorem Station.review_unlocked {s : Station}
    (state : s.servo.state = .free ∨ s.servo.state = .acquire ∧ s.review.sel.source ≠ .none) :
    s.review.sel.announced = s.sel.unlockedClass ∧ s.review.sel.standing = s.sel.unlockedClass ∧
      s.review.sel.lockRecord = s.sel.lockRecord := by
  obtain ⟨announced, standing, record⟩ := s.review_classes
  have unlocked : ¬ TakenLocked s s.review.sel.source := by
    rintro ⟨locked, -⟩
    rcases state with h | ⟨h, -⟩ <;> cases (h.symm.trans locked : _ = ServoState.locked)
  have noHoldover : ¬ TakenHoldover s s.review.sel.source := by
    rintro (held | ⟨none, away⟩)
    · rcases state with h | ⟨h, -⟩ <;> cases (h.symm.trans held : _ = ServoState.holdover)
    · rcases state with h | ⟨-, some_⟩
      · rcases away with g | g <;> cases (h.symm.trans g : ServoState.free = _)
      · exact some_ none
  obtain ⟨barred, eligible⟩ := s.classFor_spec s.review.sel.source
  have cls : s.review.sel.announced = s.sel.unlockedClass := by
    unfold Selector.unlockedClass
    rw [announced]
    cases h : s.sel.eligible with
    | false => exact barred h
    | true => exact (eligible h).2.2 unlocked noHoldover
  refine ⟨cls, ?_, record.trans (if_neg fun taken => unlocked ((takenAs_locked_iff s _).1 taken))⟩
  rw [standing, cls]
  cases s.review.sel.source <;> rfl

/-- R142: a review of what RESET TIMING has settled moves beaconing alone. -/
theorem Resettled.review {t : Station} (h : Resettled t) :
    t.review.sel =
        { t.sel with
          beaconing := t.review.sel.beaconing, claim := t.review.sel.claim, interval := t.review.sel.interval } ∧
      t.review.servo = t.servo ∧ t.review.time = t.time ∧ Resettled t.review := by
  have f := t.review_frame
  have cands : t.review.sel.cands = t.sel.cands := t.review_cands.trans h.cands
  have source : t.review.sel.source = t.sel.source := by
    rw [t.review_source_eq, cands]
    exact h.source.symm
  obtain ⟨announced, standing, record⟩ := Station.review_unlocked (s := t) (source.symm ▸ h.state)
  obtain ⟨servo, time, -⟩ := t.review_beaconing.2.2.2.2.1 source
  have sel := t.review_sel
  rw [cands, source, announced.trans h.announced.symm, standing.trans h.standing.symm, record] at sel
  have cls : t.review.sel.unlockedClass = t.sel.unlockedClass := by
    unfold Selector.unlockedClass
    rw [f.eligible]
  refine ⟨sel, servo, time, announced.trans cls.symm, standing.trans cls.symm, ?_, ?_, ?_⟩
  · rw [servo, source]
    exact h.state
  · rw [cands, source, Station.chooseSource_congr (by rw [time]) f.selExt
      (standing.trans h.standing.symm) f.seat]
    exact h.source
  · exact Station.refreshed_review f.roster

/-- R143: beaconing is ON where the condition holds, and there alone. -/
def OnWhereAllowed (t : Station) : Prop := t.sel.beaconing = .on ↔ MayBeacon t t.sel

/-- R144, R146: a review of a station that beacons where it may, with the condition as before. -/
theorem OnWhereAllowed.review {t : Station} (h : t.sel.beaconing = .on ∨ ¬ MayBeacon t t.review.sel) :
    OnWhereAllowed t.review := by
  have seat := t.review_frame.seat
  have same : MayBeacon t.review t.review.sel ↔ MayBeacon t t.review.sel := by
    unfold MayBeacon
    rw [seat]
  obtain ⟨-, stops, ends, rests⟩ := review_chooses t
  unfold OnWhereAllowed
  rw [same]
  by_cases may : MayBeacon t t.review.sel
  · have on : t.sel.beaconing = .on := h.resolve_right fun no => no may
    have kept := (rests ⟨fun off => (by cases (on.symm.trans off : Beaconing.on = .off)), fun no => absurd may no⟩).1
    exact iff_of_true (kept.trans on) may
  · refine iff_of_false (fun on => ?_) may
    have off : t.review.sel.beaconing = .off := by
      cases state : t.sel.beaconing with
      | off => exact (rests ⟨fun _ => may, fun _ => state⟩).1.trans state
      | claiming => exact (stops state may).1
      | on => exact (ends state may).1
    cases (off.symm.trans on : Beaconing.off = .on)

/-! ### RESET TIMING -/

/-- R167: RESET TIMING at the servo. -/
theorem Station.resetServo_spec (s : Station) :
    let t := s.resetServo
    t.servo = servoReset s ∧ t.time = { s.time with a := 0 } ∧ t.sel = s.sel ∧ t.seat = s.seat ∧ t.lane = s.lane ∧
      t.share = s.share ∧ t.rx = s.rx ∧ t.roster = s.roster ∧ t.alarm.has timeOffsetHigh = false ∧
      (s.servo.state ≠ .free → TimingTold t) := by
  let u : Station :=
    { s with
      time := { s.time with a := 0 }
      servo :=
        { s.servo with
          unlocked := unlockedFrom s, i := 0, a := 0, inCount := 0, outCount := 0, lastSample := none
          holdTimer := none, expired := false } }
  have reset : s.resetServo = (u.setServoState .free).clearInternal timeOffsetHigh := by
    unfold Station.resetServo
    rw [s.startUnlockedIfLocked_eq]
    rfl
  have f := (u.setServoState .free).clearInternal_frame timeOffsetHigh
  have cleared := (u.setServoState .free).clearInternal_cleared timeOffsetHigh
  have servo := u.setServoState_servo .free
  have g := u.setServoState_frame .free
  have time := u.setServoState_time .free
  have sel : (u.setServoState .free).sel = s.sel := by
    unfold Station.setServoState
    split <;> rfl
  have told : s.servo.state ≠ .free → TimingTold (u.setServoState .free) := fun moved => by
    unfold Station.setServoState
    rw [if_neg (show ¬ u.servo.state = .free from moved)]
    rfl
  dsimp only
  rw [reset]
  generalize u.setServoState .free = v at *
  refine ⟨f.servo.trans servo, f.time.trans time, f.sel.trans sel, f.seat.trans g.seat, f.lane.trans g.lane,
    f.share.trans g.share, f.rx.trans g.rx, f.roster.trans g.roster,
    AlarmUnit.not_has_of_cleared cleared (by decide), fun moved => ?_⟩
  exact (congrArg Port.timingCause f.port).trans (told moved)

/-- What RESET TIMING holds over its reviews, from the station `t` that the first one left. -/
structure ResetReviewed (t w : Station) : Prop where
  settled : Resettled w
  servo : w.servo = t.servo
  time : w.time = t.time
  sel : w.sel =
    { t.sel with beaconing := w.sel.beaconing, claim := w.sel.claim, interval := w.sel.interval }
  told : TimingTold t → TimingTold w
  on : OnWhereAllowed t → OnWhereAllowed w

theorem ResetReviewed.review {t w : Station} (h : ResetReviewed t w) : ResetReviewed t w.review := by
  obtain ⟨sel, servo, time, settled⟩ := h.settled.review
  refine ⟨settled, servo.trans h.servo, time.trans h.time, ?_, fun told => Station.review_timingTold (h.told told),
    fun on => OnWhereAllowed.review ?_⟩
  · rw [sel, h.sel]
  · have same : MayBeacon w w.review.sel ↔ MayBeacon w w.sel := by
      unfold MayBeacon
      rw [sel]
    rw [same]
    exact (Decidable.em (w.sel.beaconing = .on)).imp_right fun off may => off ((h.on on).2 may)

theorem Station.reviews_succ (s : Station) (n : Nat) :
    s.reviews (n + 1) = reviewLoop 7 (n + servoEvents s.servo s.review.servo) s.review := rfl

/-- R150, R152: the first review after the servo is FREE and the classes are those of such a servo. -/
theorem Station.review_resettled {v : Station} (state : v.servo.state = .free)
    (classes : v.sel.standing = v.sel.unlockedClass) : Resettled v.review := by
  have f := v.review_frame
  obtain ⟨announced, standing, -⟩ := Station.review_unlocked (s := v) (.inl state)
  have cls : v.review.sel.unlockedClass = v.sel.unlockedClass := by
    unfold Selector.unlockedClass
    rw [f.eligible]
  have takes := v.review_beaconing.2.2.2.2
  have moves : v.review.servo.state = .free ∨ v.review.servo.state = .acquire ∧ v.review.sel.source ≠ .none := by
    by_cases kept : v.review.sel.source = v.sel.source
    · exact .inl ((congrArg Servo.state (takes.1 kept).1).trans state)
    · obtain ⟨-, acquires, settles⟩ := takes.2 kept
      by_cases none : v.review.sel.source = .none
      · refine .inl ?_
        rw [((settles none).1 (.inl state)).1]
        exact state
      · refine .inr ⟨?_, none⟩
        rw [(acquires none).2]
  refine ⟨announced.trans cls.symm, standing.trans cls.symm, moves, ?_, Station.refreshed_review f.roster⟩
  rw [Station.chooseSource_congr (by rw [f.time]) f.selExt (standing.trans classes.symm) f.seat]
  exact v.review_source_eq

theorem Station.reviews_resetReviewed {v : Station} (settled : Resettled v.review) (n : Nat) :
    ResetReviewed v.review (v.reviews (n + 1)) := by
  have first : ResetReviewed v.review v.review := ⟨settled, rfl, rfl, rfl, id, id⟩
  rw [v.reviews_succ]
  exact reviewLoop_keep (ResetReviewed v.review) (fun _ h => h.review) 7 _ _ first

/-- R64, R150, R167: what RESET TIMING reviews. -/
structure TimingForgotten (u v : Station) : Prop where
  servo : v.servo = servoReset u
  time : v.time = { u.time with a := 0 }
  sel : v.sel = u.sel.forgetLock
  seat : v.seat = u.seat
  lane : v.lane = u.lane
  share : v.share = u.share
  rx : v.rx = u.rx
  peers : ∀ p, v.peer p = (u.peer p).voidStamp
  offset : v.alarm.has timeOffsetHigh = false
  told : u.servo.state ≠ .free → TimingTold v

theorem Station.resetTimingBlocks_eq (u : Station) :
    ∃ v n, u.resetTimingBlocks = v.reviews (n + 1) ∧ TimingForgotten u v := by
  obtain ⟨stamps, peers⟩ := u.voidStamps_spec
  obtain ⟨servo, time, sel, seat, lane, share, rx, roster, offset, told⟩ := u.voidStamps.resetServo_spec
  have blocks : u.resetTimingBlocks =
      ({ u.voidStamps.resetServo with sel := u.voidStamps.resetServo.sel.forgetLock } : Station).reviews
        (1 + servoEvents u.servo u.voidStamps.resetServo.servo) := rfl
  rw [Nat.add_comm] at blocks
  have same {α : Type} (f : Station → α) (h : ∀ r, f { u with roster := r } = f u) : f u.voidStamps = f u := by
    rw [stamps]
    exact h _
  generalize u.voidStamps.resetServo = w at *
  refine ⟨_, _, blocks, ⟨servo.trans (same servoReset fun _ => rfl),
    time.trans (same (fun x => { x.time with a := 0 }) fun _ => rfl),
    congrArg Selector.forgetLock (sel.trans (same Station.sel fun _ => rfl)),
    seat.trans (same Station.seat fun _ => rfl), lane.trans (same Station.lane fun _ => rfl),
    share.trans (same Station.share fun _ => rfl), rx.trans (same Station.rx fun _ => rfl), fun p => ?_, offset,
    fun moved => ?_⟩⟩
  · exact (congrArg (fun r => r.peers.get p) roster).trans (peers p)
  · exact told ((same (fun x => x.servo.state) fun _ => rfl).symm ▸ moved)

/-- R64, R150, R167: RESET TIMING, as the roster, the servo and the selector hold it afterwards. -/
theorem Station.resetTiming_spec (u : Station) :
    ∃ v w, u.resetTiming = (w.renewOffer, .ok, .empty) ∧ TimingForgotten u v ∧ Resettled v.review ∧
      ResetReviewed v.review w ∧ ReviewFrame v w ∧ HoldoverRaised v w ∧ (TimingTold v → TimingTold w) := by
  obtain ⟨v, n, blocks, forgotten⟩ := u.resetTimingBlocks_eq
  have state : v.servo.state = .free := by rw [forgotten.servo]; rfl
  have classes : v.sel.standing = v.sel.unlockedClass := by rw [forgotten.sel]; rfl
  have settled := Station.review_resettled state classes
  refine ⟨v, v.reviews (n + 1), ?_, forgotten, settled, Station.reviews_resetReviewed settled n, v.reviews_frame _,
    v.reviews_holdoverRaised _, fun h => Station.reviews_timingTold h _⟩
  unfold Station.resetTiming
  rw [blocks]
  rfl

end Sys2Proof.Machine
end

section
/-! SUPPORT. A state in which an ALARM frame displaces the entry under the cursor, and the own list, offered after
it, brings an entry of that identity back (R180, R183). -/

-- One theorem after another: the check's data limit has no room for a thread for each.
set_option Elab.async false

open Sys2Proof Sys2Proof.Machine Sys2Proof.Safety Sys2Proof.Slice0

namespace Sys2Proof.Machine

/-- The last entry of the view, under the cursor: the station's own, as an older list had it. -/
def shownBefore : ViewEntry := ⟨0, 0x3000, .warning, none, 5, false⟩

/-- 127 warnings of slot 6, and the station's own entry behind them. -/
def viewBefore : List ViewEntry :=
  ((List.range 127).map fun k => ⟨6, BitVec.ofNat 16 (0x2000 + k), .warning, none, 0, false⟩) ++ [shownBefore]

/-- In ACTIVE, in the body of a frame of slot 5; the own list holds the entry with the severity CRITICAL. -/
def cursorOnLast : State :=
  { State.reset with
    seat := { State.reset.seat with state := .active }
    lane :=
      { State.reset.lane with
        line := .body, rxKey := some (keyByte .control 3 5), rxStamp := some ⟨⟨1, 500⟩, false⟩ }
    roster := { State.reset.roster with peers := State.reset.roster.peers.set 5 { Peer.reset with state := .present } }
    alarm :=
      { State.reset.alarm with
        view := viewBefore, own := [⟨0x3000, .critical, none, 1⟩], cursor := some shownBefore.ident } }

/-- The entry that the frame offers. -/
def offeredMajor : AlarmEntry := ⟨0x1000, .major, none, 77⟩

/-- An ALARM frame of slot 5 with that entry. -/
def majorFrame : RxFrame :=
  { kind := 0x50, dest := 16, seq := 1, payload := alarmPayload 5 [offeredMajor]
    check := crc (coveredBytes (keyByte .control 3 5) 0x50 16 1 (alarmPayload 5 [offeredMajor])), aborted := false }

/-- The cursor is at END, and an entry of the identity that it was on stands in the view. -/
def endsBesideItsEntry (u : Station) : Bool :=
  u.alarm.cursor.isNone && u.alarm.view.any fun y => decide (y.ident = shownBefore.ident)

/-- The outcome is a state of which `f` holds. -/
def leads (o : Host.Outcome State Fault Refusal) (f : Station → Bool) : Bool :=
  match o with
  | .next t => f t.toStation
  | .fault _ | .refused _ => false

theorem majorFrame_ends : leads (exec (.frameHandover majorFrame false) cursorOnLast) endsBesideItsEntry = true := by
  decide +kernel

theorem cursorOnLast_hears :
    Hears cursorOnLast (keyByte .control 3 5) 5 majorFrame (.alarm 5 [offeredMajor]) :=
  ⟨⟨rfl, rfl, rfl, rfl, by decide, (by decide : (5 : Slot) ≠ 0)⟩, by decide +kernel, rfl⟩

theorem cursorOnLast_lists :
    OwnListBounded cursorOnLast.toStation ∧ ViewBounded cursorOnLast.toStation ∧
      ViewOrdered cursorOnLast.toStation ∧ CursorInView cursorOnLast.toStation := by
  refine ⟨⟨by decide +kernel, by decide +kernel, by decide +kernel, by decide +kernel⟩,
    ⟨by decide +kernel, by decide +kernel⟩, by decide +kernel, fun i hi => ?_⟩
  cases hi
  exact ⟨shownBefore, List.mem_append_right _ (List.mem_singleton.2 rfl), rfl⟩

/-- R183: the cursor at END cannot follow an entry whose identity stands in the view. -/
theorem not_cursorFollows {t : Station} (ends : endsBesideItsEntry t = true) :
    ¬ CursorFollows cursorOnLast.toStation t := by
  rintro ⟨-, follows⟩
  simp only [endsBesideItsEntry, Bool.and_eq_true, Option.isNone_iff_eq_none] at ends
  obtain ⟨atEnd, stands⟩ := ends
  have here := follows _ shownBefore [] rfl rfl
  have none := Option.map_eq_none_iff.1 (here.symm.trans atEnd)
  exact List.find?_eq_none.1 none shownBefore List.mem_cons_self stands

end Sys2Proof.Machine

namespace Sys2Proof.Slice0

theorem firstOf_alone (n x : ViewEntry) : FirstOf [n] x ↔ x = n := by
  refine ⟨?_, ?_⟩
  · rintro ⟨before, after, split, -⟩
    cases before with
    | nil => exact (List.cons.inj split).1.symm
    | cons y before => cases before <;> cases split
  · rintro rfl
    exact ⟨[], [], rfl, fun y hy => by cases hy⟩

/-- Refutes O41: in a full view whose last entry, under the cursor, is the station's own with an older severity, the
frame's entry displaces it, the cursor goes to END, and the own list, offered with ALARM_VIEW_FULL, brings its identity
back; the cursor stays at END (log 44). -/
theorem not_alarmFramesMergeIntoTheView : ¬ Obligations.AlarmFramesMergeIntoTheView := by
  intro holds
  obtain ⟨bounded, viewBounded, ordered, cursor⟩ := cursorOnLast_lists
  obtain ⟨-, displaced, -⟩ :=
    holds cursorOnLast _ 5 majorFrame false 5 [offeredMajor] cursorOnLast_hears rfl bounded viewBounded ordered cursor
  have offered (x : ViewEntry) : FirstOf (offeredBy 5 [offeredMajor]) x ↔ x = ⟨5, 0x1000, .major, none, 77, false⟩ :=
    firstOf_alone _ x
  have others : ∀ x ∈ cursorOnLast.alarm.view, x.source ≠ 5 := by decide +kernel
  obtain ⟨t, run, -, told⟩ := displaced _ shownBefore ⟨5, 0x1000, .major, none, 77, false⟩ rfl (by decide +kernel)
    ((offered _).2 rfl) (by decide +kernel) (fun x hx source => absurd source (others x hx))
    (fun x hx => .inl ((offered x).1 hx))
  obtain ⟨-, -, follows, -⟩ := told (by decide +kernel)
  have ends := majorFrame_ends
  rw [run] at ends
  exact not_cursorFollows ends follows

end Sys2Proof.Slice0
end

section
/-! SUPPORT. The view with room (R178, R180, R183, R186): what a merge and an offer that meet no full view bring in and
take out, and where the cursor then stands. -/

-- One theorem after another: the check's data limit has no room for a thread for each.
set_option Elab.async false

open Sys2Proof Sys2Proof.Machine Sys2Proof.Safety Sys2Proof.Slice0

namespace Sys2Proof.Machine

/-! ### Order, update and what is missing (R177, R178) -/

/-- R177: no entry comes before itself. -/
theorem ViewEntry.before_irrefl (a : ViewEntry) : a.before a = false := by simp [ViewEntry.before]

/-- R177: a list in order is its own sorted form. -/
theorem sortView_of_inOrder {l : List ViewEntry} (distinct : Distinct l) (h : InOrder l) : sortView l = l :=
  (sortView_perm l).eq_of_pairwise (fun a b _ _ hab hba => by
    have loop := ViewEntry.before_trans hab hba
    rw [a.before_irrefl] at loop
    cases loop) distinct.sortView h

theorem mem_updateFrom {mine : ViewEntry → Bool} {entries view : List ViewEntry} {x : ViewEntry} :
    x ∈ updateFrom mine entries view ↔
      ∃ e ∈ view, (if mine e then (findIdent entries e.ident).getD e else e) = x := by
  unfold updateFrom
  rw [(sortView_perm _).mem_iff, List.mem_map]

/-- R178 step 2: an update takes no identity out and brings none in. -/
theorem exists_ident_updateFrom {mine : ViewEntry → Bool} {entries view : List ViewEntry} {i : Ident} :
    (∃ x ∈ updateFrom mine entries view, x.ident = i) ↔ ∃ x ∈ view, x.ident = i := by
  constructor
  · rintro ⟨x, hx, rfl⟩
    obtain ⟨e, he, rfl⟩ := mem_updateFrom.1 hx
    exact ⟨e, he, (updated_ident mine entries e).symm⟩
  · rintro ⟨e, he, rfl⟩
    exact ⟨_, mem_updateFrom.2 ⟨e, he, rfl⟩, updated_ident mine entries e⟩

theorem missingFrom_congr {view view' : List ViewEntry}
    (h : ∀ i : Ident, (∃ x ∈ view', x.ident = i) ↔ ∃ x ∈ view, x.ident = i) (entries : List ViewEntry) :
    missingFrom view' entries = missingFrom view entries := by
  have same (i : Ident) : findIdent view' i = none ↔ findIdent view i = none := by
    rw [← Option.isNone_iff_eq_none, ← Option.isNone_iff_eq_none, findIdent_isNone, findIdent_isNone]
    have := h i
    grind
  unfold missingFrom
  congr 1
  refine List.filter_congr fun e _ => ?_
  rw [Bool.eq_iff_iff, Option.isNone_iff_eq_none, Option.isNone_iff_eq_none]
  exact same e.ident

/-! ### The cursor (R183) -/

@[simp] theorem followCursor_none (old new : List ViewEntry) : followCursor old new none = none := rfl

/-- R183: the cursor keeps an entry that stays. -/
theorem followCursor_kept {old new : List ViewEntry} {i : Ident} (h : ∃ e ∈ old, e.ident = i)
    (g : ∃ e ∈ new, e.ident = i) : followCursor old new (some i) = some i := by
  obtain ⟨e, he, rfl⟩ := h
  have split : old.dropWhile (fun x => !decide (x.ident = e.ident)) ≠ [] := fun none => by
    have := List.dropWhile_eq_nil_iff.1 none e he
    simp at this
  obtain ⟨x, rest, hx⟩ := List.exists_cons_of_ne_nil split
  have first : x.ident = e.ident := by
    have stops := List.head_dropWhile_not (fun x : ViewEntry => !decide (x.ident = e.ident)) split
    simpa [hx] using stops
  have stays : (findIdent new x.ident).isSome = true := findIdent_isSome.2 (first ▸ g)
  show ((old.dropWhile fun x => !decide (x.ident = e.ident)).find? fun x => (findIdent new x.ident).isSome).map
    ViewEntry.ident = _
  rw [hx, List.find?_cons_of_pos (p := fun x : ViewEntry => (findIdent new x.ident).isSome) stays, Option.map_some, first]

/-- R183: a cursor that stands on an entry of the view, or at END. -/
abbrev Stands (view : List ViewEntry) (c : Option Ident) : Prop := ∀ i, c = some i → ∃ e ∈ view, e.ident = i

theorem followCursor_stands (old new : List ViewEntry) (c : Option Ident) : Stands new (followCursor old new c) :=
  fun _ h => followCursor_mem h

theorem followCursor_of_stands {old new : List ViewEntry} {c : Option Ident} (h : Stands old c) (g : Stands new c) :
    followCursor old new c = c := by
  cases c with
  | none => rfl
  | some i => exact followCursor_kept (h i rfl) (g i rfl)

/-! ### The view-changed cause (R185) -/

/-- R185: where the cause does not stand afterwards the view has not moved. -/
def CauseKept (s t : Station) : Prop :=
  t.alarm.viewChanged = false → s.alarm.viewChanged = false ∧ t.alarm.view = s.alarm.view

theorem CauseKept.refl (s : Station) : CauseKept s s := fun h => ⟨h, rfl⟩

theorem CauseKept.trans {s t u : Station} (h : CauseKept s t) (g : CauseKept t u) : CauseKept s u := fun quiet => by
  obtain ⟨ht, view⟩ := g quiet
  exact ⟨(h ht).1, view.trans (h ht).2⟩

theorem CauseKept.changed {s t : Station} (h : CauseKept s t) (moved : t.alarm.view ≠ s.alarm.view) :
    t.alarm.viewChanged = true := by
  cases quiet : t.alarm.viewChanged with
  | true => rfl
  | false => exact absurd (h quiet).2 moved

theorem CauseKept.stands {s t : Station} (h : CauseKept s t) (stands : s.alarm.viewChanged = true) :
    t.alarm.viewChanged = true := by
  cases quiet : t.alarm.viewChanged with
  | true => rfl
  | false => rw [(h quiet).1] at stands; cases stands

theorem Station.setView_cause (s : Station) (l : List ViewEntry) : CauseKept s (s.setView l) := fun quiet => by
  have both : s.alarm.viewChanged = false ∧ (l != s.alarm.view) = false := by
    simpa [Station.setView, AlarmUnit.setView] using quiet
  exact ⟨both.1, by simpa using both.2⟩

theorem Station.offerEach_cause (l : List ViewEntry) (s : Station) : CauseKept s (s.offerEach l) := by
  induction l generalizing s with
  | nil => exact .refl s
  | cons e l ih => exact (s.setView_cause _).trans (ih _)

/-! ### Offers with room (R180) -/

/-- The view, its cursor and its cause as they were. -/
structure ViewKept (s t : Station) : Prop where
  view : t.alarm.view = s.alarm.view
  cursor : t.alarm.cursor = s.alarm.cursor
  cause : t.alarm.viewChanged = s.alarm.viewChanged

theorem Station.setOwn_viewKept (s : Station) (l : List AlarmEntry) : ViewKept s (s.setOwn l) := by
  unfold Station.setOwn Station.announceList Station.placeAlarmIfPermitted Station.placeAlarm
  split
  · exact ⟨rfl, rfl, rfl⟩
  · split
    · split <;> exact ⟨rfl, rfl, rfl⟩
    · exact ⟨rfl, rfl, rfl⟩

/-- R180: `l` has come into the view, which had room for it, and nothing else of the lists has moved. -/
structure BroughtIn (s t : Station) (l : List ViewEntry) : Prop where
  view : ∀ x, x ∈ t.alarm.view ↔ x ∈ s.alarm.view ∨ x ∈ l
  size : t.alarm.view.length = s.alarm.view.length + l.length
  own : t.alarm.own = s.alarm.own
  cursor : Stands s.alarm.view s.alarm.cursor → t.alarm.cursor = s.alarm.cursor
  cause : CauseKept s t

theorem Station.offerEach_room (l : List ViewEntry) (s : Station) (room : s.alarm.view.length + l.length ≤ 128) :
    BroughtIn s (s.offerEach l) l := by
  induction l generalizing s with
  | nil => exact ⟨by simp [Station.offerEach], rfl, rfl, fun _ => rfl, .refl s⟩
  | cons e l ih =>
    rw [List.length_cons] at room
    have placed : offerEntry s.alarm.view e = insertView e s.alarm.view :=
      if_pos (show s.alarm.view.length < 128 by omega)
    let u := s.setView (offerEntry s.alarm.view e)
    have uview : u.alarm.view = insertView e s.alarm.view := placed
    have usize : u.alarm.view.length = s.alarm.view.length + 1 := by rw [uview, (insertView_perm e _).length_eq]; rfl
    have ustands : Stands s.alarm.view s.alarm.cursor → Stands u.alarm.view s.alarm.cursor := fun h i hi => by
      obtain ⟨x, hx, same⟩ := h i hi
      exact ⟨x, by rw [uview]; exact mem_insertView.2 (.inr hx), same⟩
    have ucursor (h : Stands s.alarm.view s.alarm.cursor) : u.alarm.cursor = s.alarm.cursor :=
      followCursor_of_stands h (ustands h)
    obtain ⟨view, size, own, cursor, cause⟩ := ih u (by omega)
    have one : s.offerEach (e :: l) = u.offerEach l := rfl
    rw [one]
    refine ⟨fun x => ?_, ?_, own, fun h => ?_, (s.setView_cause _).trans cause⟩
    · rw [view, uview, mem_insertView, List.mem_cons]
      tauto
    · rw [size, usize, List.length_cons]
      omega
    · have c := ucursor h
      exact (cursor (c ▸ ustands h)).trans c

/-- R178 step 3: an offer that meets no full view. -/
theorem Station.offer_room (s : Station) (entries : List ViewEntry)
    (room : s.alarm.view.length + (missingFrom s.alarm.view entries).length ≤ 128) :
    BroughtIn s (s.offer entries) (missingFrom s.alarm.view entries) := by
  have fits : meetsFull s.alarm.view (missingFrom s.alarm.view entries) = false := decide_eq_false (Nat.not_lt.2 room)
  have same : s.offer entries = s.offerEach (missingFrom s.alarm.view entries) := by
    unfold Station.offer
    dsimp only
    rw [fits, if_neg Bool.false_ne_true]
  rw [same]
  exact s.offerEach_room _ room

theorem missingFrom_length_le (view entries : List ViewEntry) : (missingFrom view entries).length ≤ entries.length := by
  unfold missingFrom
  rw [(sortView_perm _).length_eq]
  exact List.length_filter_le _ _

/-- R176: what an offer with room brings in is then in the view. -/
theorem BroughtIn.shown {s t : Station} {entries : List ViewEntry}
    (h : BroughtIn s t (missingFrom s.alarm.view entries)) {e : ViewEntry} (he : e ∈ entries) :
    ∃ x ∈ t.alarm.view, x.ident = e.ident := by
  by_cases there : ∃ x ∈ s.alarm.view, x.ident = e.ident
  · obtain ⟨x, hx, same⟩ := there
    exact ⟨x, (h.view x).2 (.inl hx), same⟩
  · exact ⟨e, (h.view e).2 (.inr (mem_missingFrom.2 ⟨he, fun x hx same => there ⟨x, hx, same⟩⟩)), rfl⟩

/-! ### Merges with room (R178) -/

/-- R178: a source of the view, read at `s`: the view entries that are its own, and its entries, none of which has an
identity twice. Neither depends on the view, and no other view entry has an identity of one of its entries. -/
structure SourceAt (s : Station) (mine : Station → ViewEntry → Bool) (entries : Station → List ViewEntry) : Prop where
  mine_setView : ∀ u l, mine (u.setView l) = mine u
  entries_setView : ∀ u l, entries (u.setView l) = entries u
  first : ∀ x ∈ entries s, findIdent (entries s) x.ident = some x
  known : ∀ e ∈ s.alarm.view, ∀ x ∈ entries s, x.ident = e.ident → mine s e = true

/-- R178: a source has been merged into a view that had room for its entries. -/
structure Merged (s t : Station) (mine : ViewEntry → Bool) (entries : List ViewEntry) : Prop where
  view : ∀ x, x ∈ t.alarm.view ↔ x ∈ s.alarm.view ∧ mine x = false ∨ x ∈ entries
  size : t.alarm.view.length =
    (removeFrom mine entries s.alarm.view).length + (missingFrom (removeFrom mine entries s.alarm.view) entries).length
  cursor : t.alarm.cursor = followCursor s.alarm.view (removeFrom mine entries s.alarm.view) s.alarm.cursor
  cause : CauseKept s t

theorem mem_removeFrom {mine : ViewEntry → Bool} {entries view : List ViewEntry} {x : ViewEntry} :
    x ∈ removeFrom mine entries view ↔ x ∈ view ∧ (mine x = false ∨ ∃ e ∈ entries, e.ident = x.ident) := by
  unfold removeFrom
  rw [List.mem_filter, Bool.or_eq_true, findIdent_isSome, Bool.not_eq_true']

/-- R178 steps 2 and 3: the entries of an updated view and those then missing. -/
theorem mem_updated_or_missing {mine : ViewEntry → Bool} {entries view : List ViewEntry}
    (first : ∀ x ∈ entries, findIdent entries x.ident = some x)
    (known : ∀ e ∈ view, ∀ x ∈ entries, x.ident = e.ident → mine e = true) (x : ViewEntry) :
    (x ∈ updateFrom mine entries (removeFrom mine entries view) ∨
        x ∈ missingFrom (removeFrom mine entries view) entries) ↔
      x ∈ view ∧ mine x = false ∨ x ∈ entries := by
  constructor
  · rintro (h | h)
    · obtain ⟨e, he, rfl⟩ := mem_updateFrom.1 h
      obtain ⟨hv, no | ⟨y, hy, same⟩⟩ := mem_removeFrom.1 he
      · rw [if_neg (by simp [no])]
        exact .inl ⟨hv, no⟩
      · rw [if_pos (known e hv y hy same), ← same, first y hy]
        exact .inr hy
    · exact .inr (mem_missingFrom.1 h).1
  · rintro (⟨hv, no⟩ | hx)
    · exact .inl (mem_updateFrom.2 ⟨x, mem_removeFrom.2 ⟨hv, .inl no⟩, if_neg (by simp [no])⟩)
    · by_cases there : ∃ e ∈ view, e.ident = x.ident
      · obtain ⟨e, he, same⟩ := there
        refine .inl (mem_updateFrom.2 ⟨e, mem_removeFrom.2 ⟨he, .inr ⟨x, hx, same.symm⟩⟩, ?_⟩)
        rw [if_pos (known e he x hx same.symm), same, first x hx]
        rfl
      · exact .inr (mem_missingFrom.2 ⟨hx, fun e he same => there ⟨e, (mem_removeFrom.1 he).1, same⟩⟩)

theorem Station.merge_room {s : Station} {mine : Station → ViewEntry → Bool} {entries : Station → List ViewEntry}
    (source : SourceAt s mine entries) (quiet : s.alarm.has alarmViewFull = false)
    (room : (removeFrom (mine s) (entries s) s.alarm.view).length +
      (missingFrom (removeFrom (mine s) (entries s) s.alarm.view) (entries s)).length ≤ 128) :
    Merged s (s.merge mine entries) (mine s) (entries s) ∧ (s.merge mine entries).alarm.own = s.alarm.own := by
  obtain ⟨hmine, hentries, first, known⟩ := source
  let v := s.setView (removeFrom (mine s) (entries s) s.alarm.view)
  have low : v.clearViewFullIfLow s.alarm.view = v := by
    have still : v.alarm.has alarmViewFull = false := quiet
    unfold Station.clearViewFullIfLow
    rw [still, Bool.and_false]
    rfl
  let w := v.setView (updateFrom (mine s) (entries s) v.alarm.view)
  have merged : s.merge mine entries = w.offer (entries s) := by
    show (let t := v.clearViewFullIfLow s.alarm.view
      let u := t.setView (updateFrom (mine t) (entries t) t.alarm.view)
      u.offer (entries u)) = _
    rw [low]
    show (v.setView (updateFrom (mine v) (entries v) v.alarm.view)).offer
      (entries (v.setView (updateFrom (mine v) (entries v) v.alarm.view))) = _
    rw [hentries, hmine, hentries, show entries v = entries s from hentries _ _]
  have idents (i : Ident) : (∃ x ∈ w.alarm.view, x.ident = i) ↔ ∃ x ∈ v.alarm.view, x.ident = i :=
    exists_ident_updateFrom
  have missing : missingFrom w.alarm.view (entries s) = missingFrom v.alarm.view (entries s) :=
    missingFrom_congr idents _
  have size : w.alarm.view.length = v.alarm.view.length := updateFrom_length _ _ _
  have offered := w.offer_room (entries s) (by rw [missing, size]; exact room)
  have vstands : Stands v.alarm.view v.alarm.cursor := followCursor_stands _ _ _
  have wstands : Stands w.alarm.view v.alarm.cursor := fun i hi => (idents i).2 (vstands i hi)
  have wcursor : w.alarm.cursor = v.alarm.cursor := followCursor_of_stands vstands wstands
  rw [merged]
  refine ⟨⟨fun x => ?_, ?_, ?_, ((s.setView_cause _).trans (v.setView_cause _)).trans offered.cause⟩, offered.own⟩
  · rw [offered.view, missing]
    exact mem_updated_or_missing first known x
  · rw [offered.size, missing, size]
    rfl
  · exact (offered.cursor (wcursor ▸ wstands)).trans wcursor

/-- R178: a source without entries takes its view entries out. -/
theorem Station.merge_empty {s : Station} {mine : Station → ViewEntry → Bool} {entries : Station → List ViewEntry}
    (hmine : ∀ u l, mine (u.setView l) = mine u) (hentries : ∀ u l, entries (u.setView l) = entries u)
    (none : entries s = []) (quiet : s.alarm.has alarmViewFull = false) (size : s.alarm.view.length ≤ 128) :
    Merged s (s.merge mine entries) (mine s) [] ∧ (s.merge mine entries).alarm.own = s.alarm.own := by
  have source : SourceAt s mine entries := ⟨hmine, hentries, by simp [none], by simp [none]⟩
  have fewer : (removeFrom (mine s) (entries s) s.alarm.view).length ≤ s.alarm.view.length :=
    (removeFrom_sublist _ _ _).length_le
  have merged := Station.merge_room source quiet (by
    have added := missingFrom_length_le (removeFrom (mine s) (entries s) s.alarm.view) (entries s)
    have zero : (entries s).length = 0 := by rw [none]; rfl
    omega)
  rwa [none] at merged

theorem Merged.size_le {s t : Station} {mine : ViewEntry → Bool} {entries : List ViewEntry}
    (h : Merged s t mine entries) : t.alarm.view.length ≤ s.alarm.view.length + entries.length := by
  have := (removeFrom_sublist mine entries s.alarm.view).length_le
  have := missingFrom_length_le (removeFrom mine entries s.alarm.view) entries
  rw [h.size]
  omega

theorem AlarmUnit.has_of_own {a b : AlarmUnit} (h : a.own = b.own) (code : Word16) : a.has code = b.has code := by
  unfold AlarmUnit.has
  rw [h]

end Sys2Proof.Machine
end

section
/-! SUPPORT. The markers that a heard frame moves, and the view that a LEAVE leaves (R53, R170 to R172, R178, R179). -/

-- One theorem after another: the check's data limit has no room for a thread for each.
set_option Elab.async false

open Sys2Proof Sys2Proof.Machine Sys2Proof.Safety Sys2Proof.Slice0

namespace Sys2Proof.Machine

/-! ### Samples move no marker (R158 to R164) -/

theorem Station.clearInternal_markers (s : Station) (code : Word16) :
    (s.clearInternal code).alarm.markers = s.alarm.markers := by
  unfold Station.clearInternal
  split
  · exact s.changeOwn_markers _
  · rfl

theorem Station.enterLocked_markers (s : Station) : s.enterLocked.alarm.markers = s.alarm.markers := by
  unfold Station.enterLocked
  dsimp only
  rw [Station.clearInternal_markers, Station.clearInternal_markers, Station.setServoState_alarm]

theorem Station.countSample_markers (s : Station) (e : Int) : (s.countSample e).alarm.markers = s.alarm.markers := by
  have acquired : (if s.servo.state = .free then s.setServoState .acquire else s).alarm = s.alarm := by
    split
    · exact s.setServoState_alarm _
    · rfl
  unfold Station.countSample
  dsimp only
  rw [← acquired]
  generalize (if s.servo.state = .free then s.setServoState .acquire else s) = u
  split
  · split
    · split
      · exact Station.enterLocked_markers _
      · rfl
    · rfl
  · split
    · rfl
    · split
      · rw [Station.setServoState_alarm]
        rfl
      · rfl
  all_goals rfl

theorem Station.slewSample_markers (s : Station) (f d : Int) (deferred : Bool) :
    (s.slewSample f d deferred).alarm.markers = s.alarm.markers := by
  have cleared (u : Station) (e : Int) : (u.clearOffsetHigh e).alarm.markers = u.alarm.markers := by
    unfold Station.clearOffsetHigh
    split
    · exact u.clearInternal_markers _
    · rfl
  exact (cleared _ _).trans (Station.countSample_markers _ _)

theorem Station.takeStep_alarm (s : Station) (d : Int) : (s.takeStep d).alarm = s.alarm := by
  have voided : s.voidStamps.alarm = s.alarm := by rw [s.voidStamps_spec.1]
  unfold Station.takeStep Station.stepTime
  dsimp only
  rw [Station.setServoState_alarm, ← voided]
  generalize s.voidStamps = u
  rfl

theorem Station.judgeSample_markers (s : Station) (f d : Int) (air : Bool) :
    (s.judgeSample f d air).alarm.markers = s.alarm.markers := by
  have deferred (u : Station) : (u.deferStep f d).alarm.markers = u.alarm.markers := by
    unfold Station.deferStep
    dsimp only
    split
    · exact (Station.raiseInternal_markers _ _).trans (u.slewSample_markers _ _ _)
    · exact u.slewSample_markers _ _ _
  unfold Station.judgeSample
  dsimp only
  split
  · split
    · exact deferred _
    · rw [Station.takeStep_alarm]
  · exact s.slewSample_markers _ _ _

theorem Station.busSample_markers (s : Station) (p : Slot) (previous : Option Stamp) (stepped : Bool) (seq : Byte)
    (record : Option BeaconRec) (air : Bool) :
    (s.busSample p previous stepped seq record air).alarm.markers = s.alarm.markers := by
  unfold Station.busSample
  split
  · exact s.judgeSample_markers _ _ _
  · rfl

/-! ### The kinds of frame that move no marker (R55 to R57) -/

theorem Station.takeBeacon_markers (s : Station) (p : Slot) (seq : Byte) (cls : Nat) (previous : Option Stamp)
    (stepped : Bool) (stamp : RxStamp) (air : Bool) :
    (s.takeBeacon p seq cls previous stepped stamp air).alarm.markers = s.alarm.markers := by
  have selector (u : Station) : ((u.renewCandidate p).reviews 1).alarm.markers = u.alarm.markers :=
    Station.reviews_markers _ 1
  have servo (old : Option BeaconRec) (u : Station) :
      (u.thenReviews fun v => v.busSample p previous stepped seq old air).alarm.markers = u.alarm.markers :=
    (Station.reviews_markers _ _).trans (u.busSample_markers _ _ _ _ _ _)
  unfold Station.takeBeacon
  dsimp only
  split
  · rcases eitherOrder_cases (fun t : Station => (t.renewCandidate p).reviews 1)
      (fun t : Station => t.thenReviews fun u => u.busSample p previous stepped seq (s.peer p).beacon air) _ with h | h
    · rw [h, servo, selector]
      rfl
    · rw [h, selector, servo]
      rfl
  · rw [servo, selector]
    rfl

theorem Station.candidateFollows_markers (s : Station) (p : Slot) :
    (s.candidateFollows p).alarm.markers = s.alarm.markers := by
  rcases s.candidateFollows_cases p with ⟨-, h⟩ | ⟨-, h⟩ <;> rw [h]
  exact Station.reviews_markers _ 1

/-- R179: neither a BEACON, a ROLLCALL, an ALARM nor a DATA frame moves a marker. -/
theorem Station.takeKind_markers (s : Station) (p : Slot) (seq : Byte) {c : Content} (stamp : RxStamp) (air : Bool)
    (noJoin : c.isJoin = false) (noLeave : ∀ generation handover reason, c ≠ .leave generation handover reason) :
    (s.takeKind p seq c stamp air).alarm.markers = s.alarm.markers := by
  cases c with
  | beacon cls previous stepped => exact s.takeBeacon_markers _ _ _ _ _ _ _
  | rollcall cardType cls cardOk generation listSeq =>
    refine (Station.candidateFollows_markers _ _).trans ?_
    split
    · rfl
    · exact Station.merge_markers _ _ _
  | join => cases noJoin
  | leave generation handover reason => exact absurd rfl (noLeave generation handover reason)
  | alarm listSeq entries => exact Station.merge_markers _ _ _
  | data => rfl

/-! ### "Slot present" (R47, R179) -/

/-- R47: an ABSENT or SILENT source becomes PRESENT, and the notice is given. -/
theorem Station.settle_away {s : Station} {p : Slot} (away : (s.peer p).state = .absent ∨ (s.peer p).state = .silent) :
    ∃ r, s.settle p = (s.setPeer p r).notifyPresent p := by
  unfold Station.settle
  dsimp only
  rcases away with state | state <;> rw [state] <;> exact ⟨_, rfl⟩

/-- R47: any other source stays as it is. -/
theorem Station.settle_there {s : Station} {p : Slot} (absent : (s.peer p).state ≠ .absent)
    (silent : (s.peer p).state ≠ .silent) : ∃ r, s.settle p = s.setPeer p r := by
  unfold Station.settle
  dsimp only
  cases state : (s.peer p).state with
  | absent => exact absurd state absent
  | silent => exact absurd state silent
  | present | left | self => exact ⟨_, rfl⟩

/-- R179: a marker MISSING goes, every other marker stays. -/
structure Unmissed (p : Slot) (s t : Station) : Prop where
  others : ∀ q ≠ p, t.alarm.markers.get q = s.alarm.markers.get q
  gone : ∀ since, s.alarm.markers.get p = .missing since → t.alarm.markers.get p = .none
  stays : (∀ since, s.alarm.markers.get p ≠ .missing since) → t.alarm.markers.get p = s.alarm.markers.get p

theorem Unmissed.congr {p : Slot} {s s' t t' : Station} (h : Unmissed p s t)
    (hs : s'.alarm.markers = s.alarm.markers) (ht : t'.alarm.markers = t.alarm.markers) : Unmissed p s' t' := by
  obtain ⟨others, gone, stays⟩ := h
  constructor <;> rw [hs, ht] <;> assumption

theorem Station.unmarkMissing_unmissed (s : Station) (p : Slot) : Unmissed p s (s.unmarkMissing p) := by
  unfold Station.unmarkMissing
  cases h : s.alarm.markers.get p with
  | missing since =>
    refine ⟨fun q hq => (s.setMarker_get p _ q).trans (if_neg hq), fun _ _ => (s.setMarker_get p _ p).trans (if_pos rfl),
      fun n => absurd h (n since)⟩
  | none | removed =>
    exact ⟨fun _ _ => rfl, fun _ m => (by rw [h] at m; cases m), fun _ => rfl⟩

theorem Station.settle_unmissed {s : Station} {p : Slot}
    (away : (s.peer p).state = .absent ∨ (s.peer p).state = .silent) : Unmissed p s (s.settle p) := by
  obtain ⟨r, eq⟩ := s.settle_away away
  rw [eq]
  exact ((s.setPeer p r).unmarkMissing_unmissed p).congr rfl (Station.reviews_markers _ 1)

/-- R179: only the marker of the source moves when it is heard. -/
theorem Station.settle_otherMarkers (s : Station) (p : Slot) :
    ∀ q ≠ p, (s.settle p).alarm.markers.get q = s.alarm.markers.get q := by
  by_cases away : (s.peer p).state = .absent ∨ (s.peer p).state = .silent
  · exact (s.settle_unmissed away).others
  · obtain ⟨r, eq⟩ := s.settle_there (fun h => away (.inl h)) fun h => away (.inr h)
    rw [eq]
    exact fun _ _ => rfl

theorem Station.settle_removed {s : Station} {p : Slot} (h : ∀ since, s.alarm.markers.get p ≠ .removed since) :
    ∀ since, (s.settle p).alarm.markers.get p ≠ .removed since := by
  by_cases away : (s.peer p).state = .absent ∨ (s.peer p).state = .silent
  · obtain ⟨-, gone, stays⟩ := s.settle_unmissed away
    intro since
    cases m : s.alarm.markers.get p with
    | missing t => simp [gone t m]
    | none | removed => exact (stays (by simp [m])) ▸ h since
  · obtain ⟨r, eq⟩ := s.settle_there (fun g => away (.inl g)) fun g => away (.inr g)
    rw [eq]
    exact h

/-- R104, R179: the filter moves no marker, and leaves the state of the source. -/
theorem Station.filterTakes_markers (s : Station) (key : Byte) (f : RxFrame) (c : Option Content) (stamp : RxStamp) :
    let t := s.filterTakes key f c stamp
    t.alarm.markers = s.alarm.markers ∧ ∀ p, (t.peer p).state = (s.peer p).state ∧
      (t.peer p).barredUntil = (s.peer p).barredUntil := by
  have accepted : (s.accept key f stamp).alarm.markers = s.alarm.markers ∧
      ∀ p, ((s.accept key f stamp).peer p).state = (s.peer p).state ∧
        ((s.accept key f stamp).peer p).barredUntil = (s.peer p).barredUntil := by
    refine ⟨rfl, fun p => ?_⟩
    unfold Station.accept
    dsimp only
    rw [Station.peer_setPeer]
    split
    next same => subst same; exact ⟨rfl, rfl⟩
    · exact ⟨rfl, rfl⟩
  have overran : s.overrun.alarm.markers = s.alarm.markers ∧ s.overrun.roster = s.roster := by
    unfold Station.overrun
    split
    · exact ⟨rfl, rfl⟩
    · exact ⟨Station.raiseInternal_markers _ _, (Station.raiseInternal_frame _ _).roster⟩
  unfold Station.filterTakes
  dsimp only
  split
  · exact accepted
  · split
    · exact ⟨overran.1, fun p => by rw [Station.peer_of_roster _ _ overran.2]; exact ⟨rfl, rfl⟩⟩
    · exact ⟨rfl, fun _ => ⟨rfl, rfl⟩⟩
  all_goals exact ⟨rfl, fun _ => ⟨rfl, rfl⟩⟩

/-- R53, R179: a frame heard from an ABSENT or SILENT source, neither a JOIN nor a LEAVE, takes a marker MISSING
away. -/
theorem exec_frameHandover_unmissed {s : State} {key : Byte} {p : Slot} {f : RxFrame} {c : Content} (air : Bool)
    (h : Hears s key p f c) (noJoin : c.isJoin = false)
    (noLeave : ∀ generation handover reason, c ≠ .leave generation handover reason)
    (away : (s.peer p).state = .absent ∨ (s.peer p).state = .silent) :
    ∃ t, exec (.frameHandover f air) s = .next t ∧ Unmissed p s.toStation t.toStation := by
  obtain ⟨receiving, good, unbarred⟩ := h
  have slot := receiving.source
  subst slot
  refine ⟨_, exec_frameHandover f air receiving, ?_⟩
  rw [Station.handOver_eq _ _ rfl, good]
  generalize (if markGate s.seat.state then s.toStation.marksFor key f (some c) else Marks.none) = m
  let u : Station := { s.toStation with lane := s.lane.heardEnd m }
  obtain ⟨markers, states⟩ := u.filterTakes_markers key f (some c) s.startStamp
  show Unmissed (keySlot key) s.toStation
    (closing ((u.filterTakes key f (some c) s.startStamp).rosterTakes (keySlot key) f.seq (some c) s.startStamp air))
  generalize u.filterTakes key f (some c) s.startStamp = v at *
  obtain ⟨state, bar⟩ := states (keySlot key)
  have heard : (v.peer (keySlot key)).hears c = true := by
    have awake : (v.peer (keySlot key)).state ≠ .left := by
      rw [state]
      rcases away with a | a <;> exact fun left => by cases a.symm.trans left
    have free : (v.peer (keySlot key)).barredUntil = none := bar.trans unbarred
    simp [Peer.hears, Peer.barred, awake, free]
  have taken : v.rosterTakes (keySlot key) f.seq (some c) s.startStamp air =
      (v.settle (keySlot key)).takeKind (keySlot key) f.seq c s.startStamp air := if_pos heard
  rw [taken]
  have settled := v.settle_unmissed (p := keySlot key) (away.imp state.trans state.trans)
  have kind := (v.settle (keySlot key)).takeKind_markers (keySlot key) f.seq s.startStamp air noJoin noLeave
  generalize (v.settle (keySlot key)).takeKind (keySlot key) f.seq c s.startStamp air = w at *
  obtain ⟨-, -, -, -, alarm, -, -, -⟩ := w.closing_frame
  exact settled.congr markers.symm ((congrArg AlarmUnit.markers alarm).trans kind)

/-! ### Reviews where there is nothing to follow (R142) -/

theorem NothingToFollow.review_alarm {s : Station} (h : NothingToFollow s) : s.review.alarm = s.alarm := by
  rw [Station.review_of_same (h.chosen_source.trans h.source.symm), Station.decideBeaconing_alarm]

theorem NothingToFollow.reviews_alarm {s : Station} (h : NothingToFollow s) (events : Nat) :
    (s.reviews events).alarm = s.alarm ∧ NothingToFollow (s.reviews events) :=
  reviews_keep (fun u => u.alarm = s.alarm ∧ NothingToFollow u)
    (fun _ g => ⟨g.2.review_alarm.trans g.1, g.2.review.1⟩) s events ⟨rfl, h⟩

theorem NothingToFollow.congr {s t : Station} (h : NothingToFollow s) (sel : t.sel = s.sel) (time : t.time = s.time) :
    NothingToFollow t := by
  obtain ⟨cands, external, source⟩ := h
  constructor
  · rw [sel, cands]
  · rw [sel, time]; exact external
  · rw [sel, source]

theorem NothingToFollow.removeCandidate {s : Station} (h : NothingToFollow s) (p : Slot) :
    NothingToFollow (s.removeCandidate p) := by
  refine ⟨?_, h.external, h.source⟩
  show dropCandidate s.sel.cands p = []
  rw [h.cands]
  rfl

/-! ### The view at a LEAVE (R178, R179) -/

/-- R176: the synthetic entry of slot `p`. -/
theorem Station.isSynthetic_iff (p : Slot) (s : Station) (x : ViewEntry) :
    Station.isSynthetic p s x = true ↔
      x.source = s.seat.slot ∧ x.subject = some p ∧ (x.code = cardMissing ∨ x.code = cardRemoved) := by
  simp only [Station.isSynthetic, syntheticCode, Bool.and_eq_true, Bool.or_eq_true, decide_eq_true_eq]
  tauto

/-- What the alarm unit has of the station, with room in its view, when a LEAVE is taken. -/
structure Calm (s : Station) : Prop where
  follow : NothingToFollow s
  quiet : s.alarm.has alarmViewFull = false

/-- R179: the view between two acts that take out no entry but the synthetic one of slot `p`. -/
structure ShedsMarker (p : Slot) (s t : Station) : Prop where
  sub : ∀ x ∈ t.alarm.view, x ∈ s.alarm.view
  stays : ∀ x ∈ s.alarm.view, Station.isSynthetic p s x = false → x ∈ t.alarm.view
  size : t.alarm.view.length ≤ s.alarm.view.length
  calm : Calm t
  seat : t.seat = s.seat
  sec : t.time.sec = s.time.sec

theorem Calm.of_alarm {s t : Station} (h : Calm s) (alarm : t.alarm = s.alarm) (follow : NothingToFollow t) : Calm t :=
  ⟨follow, by rw [alarm]; exact h.quiet⟩

/-- R179: a marker taken away, with its entry. -/
theorem Calm.setMarker_none {s : Station} (h : Calm s) (size : s.alarm.view.length ≤ 128) (p : Slot) :
    ShedsMarker p s (s.setMarker p .none) := by
  let u : Station := { s with alarm := { s.alarm with markers := s.alarm.markers.set p .none } }
  have gone : u.alarm.markers.get p = .none := (vector_get_set _ _ _ _).trans (if_pos rfl)
  obtain ⟨merged, own⟩ := Station.merge_empty (s := u) (mine := Station.isSynthetic p)
    (entries := fun t => (markerEntry t.seat.slot p (t.alarm.markers.get p)).toList) (fun _ _ => rfl) (fun _ _ => rfl)
    (by show (markerEntry u.seat.slot p (u.alarm.markers.get p)).toList = []; rw [gone]; rfl) h.quiet size
  have frame := s.setMarker_frame p .none
  exact
    { sub := fun x hx => by
        rcases (merged.view x).1 hx with ⟨hv, -⟩ | none
        · exact hv
        · cases none
      stays := fun x hx no => (merged.view x).2 (.inl ⟨hx, no⟩)
      size := merged.size_le
      calm := ⟨h.follow.congr frame.sel frame.time, (AlarmUnit.has_of_own own _).trans h.quiet⟩
      seat := frame.seat
      sec := congrArg TimeBase.sec frame.time }

theorem Calm.sheds_refl {s : Station} (h : Calm s) (p : Slot) : ShedsMarker p s s :=
  ⟨fun _ hx => hx, fun _ hx _ => hx, le_rfl, h, rfl, rfl⟩

theorem Calm.unmarkMissing {s : Station} (h : Calm s) (size : s.alarm.view.length ≤ 128) (p : Slot) :
    ShedsMarker p s (s.unmarkMissing p) := by
  unfold Station.unmarkMissing
  split
  · exact h.setMarker_none size p
  all_goals exact h.sheds_refl p

/-- R47: the hearing of a source sheds its entry CARD_MISSING at most. -/
theorem Calm.settle {s : Station} (h : Calm s) (size : s.alarm.view.length ≤ 128) (p : Slot) :
    ShedsMarker p s (s.settle p) := by
  by_cases away : (s.peer p).state = .absent ∨ (s.peer p).state = .silent
  · obtain ⟨r, eq⟩ := s.settle_away away
    have start : Calm (s.setPeer p r) := ⟨h.follow.congr rfl rfl, h.quiet⟩
    obtain ⟨sub, stays, fewer, calm, seat, sec⟩ := start.unmarkMissing size p
    rw [eq]
    show ShedsMarker p s (((s.setPeer p r).unmarkMissing p).reviews 1)
    generalize (s.setPeer p r).unmarkMissing p = v at *
    obtain ⟨alarm, follow⟩ := calm.follow.reviews_alarm 1
    have f := v.reviews_frame 1
    refine ⟨?_, ?_, ?_, calm.of_alarm alarm follow, f.seat.trans seat, ?_⟩
    · rw [alarm]; exact sub
    · rw [alarm]; exact stays
    · rw [alarm]; exact fewer
    · rw [f.time]; exact sec
  · obtain ⟨r, eq⟩ := s.settle_there (fun g => away (.inl g)) fun g => away (.inr g)
    rw [eq]
    exact ⟨fun _ hx => hx, fun _ hx _ => hx, le_rfl, ⟨h.follow.congr rfl rfl, h.quiet⟩, rfl, rfl⟩

/-- R179: the entry CARD_REMOVED of slot `p`. -/
def removedEntry (s : Station) (p : Slot) : ViewEntry := ⟨s.seat.slot, cardRemoved, .warning, some p, s.time.sec, false⟩

/-- R178, R179: with room, the marker REMOVED brings its entry in the place of any other synthetic one of its slot. -/
theorem Station.markRemoved_view {s : Station} {p : Slot} (quiet : s.alarm.has alarmViewFull = false)
    (room : s.alarm.view.length < 128) (new : ∀ since, s.alarm.markers.get p ≠ .removed since) :
    let t := s.markRemoved p
    (∀ x, x ∈ t.alarm.view ↔ x ∈ s.alarm.view ∧ Station.isSynthetic p s x = false ∨ x = removedEntry s p) ∧
      t.alarm.view.length ≤ 128 ∧ t.alarm.has alarmViewFull = false := by
  have marked : s.markRemoved p = s.setMarker p (.removed s.time.sec) := by
    unfold Station.markRemoved
    split
    next since h => exact absurd h (new since)
    all_goals rfl
  let u : Station := { s with alarm := { s.alarm with markers := s.alarm.markers.set p (.removed s.time.sec) } }
  let entries : Station → List ViewEntry := fun t => (markerEntry t.seat.slot p (t.alarm.markers.get p)).toList
  have here : entries u = [removedEntry s p] := by
    have marker : u.alarm.markers.get p = .removed s.time.sec := (vector_get_set _ _ _ _).trans (if_pos rfl)
    show (markerEntry u.seat.slot p (u.alarm.markers.get p)).toList = _
    rw [marker]
    rfl
  have source : SourceAt u (Station.isSynthetic p) entries := by
    refine ⟨fun _ _ => rfl, fun _ _ => rfl, fun x hx => ?_, fun e _ x hx same => ?_⟩
    · rw [here] at hx ⊢
      rw [List.mem_singleton.1 hx]
      simp [findIdent]
    · rw [here] at hx
      rw [List.mem_singleton.1 hx] at same
      have same : (⟨s.seat.slot, cardRemoved, some p⟩ : Ident) = e.ident := same
      simp only [ViewEntry.ident, Ident.mk.injEq] at same
      exact (Station.isSynthetic_iff p u e).2 ⟨same.1.symm, same.2.2.symm, .inr same.2.1.symm⟩
  have fits : (removeFrom (Station.isSynthetic p u) (entries u) u.alarm.view).length +
      (missingFrom (removeFrom (Station.isSynthetic p u) (entries u) u.alarm.view) (entries u)).length ≤ 128 := by
    have fewer := (removeFrom_sublist (Station.isSynthetic p u) (entries u) u.alarm.view).length_le
    have one := missingFrom_length_le (removeFrom (Station.isSynthetic p u) (entries u) u.alarm.view) (entries u)
    have single : (entries u).length = 1 := by rw [here]; rfl
    have room : u.alarm.view.length < 128 := room
    omega
  obtain ⟨merged, own⟩ := Station.merge_room source quiet fits
  have size := merged.size
  have view := merged.view
  have still := AlarmUnit.has_of_own own alarmViewFull
  rw [here] at view
  intro t
  have same : t = u.merge (Station.isSynthetic p) entries := marked
  rw [same]
  refine ⟨fun x => ?_, size.trans_le fits, still.trans quiet⟩
  rw [view, List.mem_singleton]
  exact Iff.rfl

/-- R178: the set of a slot that has left takes its entries out. -/
theorem Station.mergePeer_left {s : Station} {p : Slot} (left : (s.peer p).state = .left)
    (quiet : s.alarm.has alarmViewFull = false) (size : s.alarm.view.length ≤ 128) :
    let t := s.mergePeer p
    (∀ x, x ∈ t.alarm.view ↔ x ∈ s.alarm.view ∧ x.source ≠ p) ∧ t.alarm.view.length ≤ s.alarm.view.length ∧
      t.alarm.has alarmViewFull = false := by
  have none : s.peerEntries p = [] := by
    unfold Station.peerEntries
    simp [left]
  obtain ⟨merged, own⟩ := Station.merge_empty (s := s) (mine := isPeers p) (entries := Station.peerEntries p) (fun _ _ => rfl)
    (fun _ _ => rfl) none quiet size
  refine ⟨fun x => ?_, merged.size_le, (AlarmUnit.has_of_own own _).trans quiet⟩
  have mem := merged.view x
  simp only [isPeers, decide_eq_false_iff_not, List.not_mem_nil, or_false] at mem
  exact mem

end Sys2Proof.Machine
end

section
/-! SUPPORT. What enters and leaves the view (R170 to R172, R176, R178, R179, R183, R185): a LEAVE, and a RAISE or CLEAR
of the card, where the view has room. -/

-- One theorem after another: the check's data limit has no room for a thread for each.
set_option Elab.async false

open Sys2Proof Sys2Proof.Machine Sys2Proof.Safety Sys2Proof.Slice0

namespace Sys2Proof.Machine

/-! ### A LEAVE (R178, R179) -/

/-- R176: the synthetic entries of a slot are told by the latched slot alone. -/
theorem Station.isSynthetic_congr {s t : Station} (seat : t.seat = s.seat) (p : Slot) :
    Station.isSynthetic p t = Station.isSynthetic p s := by
  unfold Station.isSynthetic
  rw [seat]

theorem removedEntry_congr {s t : Station} (seat : t.seat = s.seat) (sec : t.time.sec = s.time.sec) (p : Slot) :
    removedEntry t p = removedEntry s p := by
  unfold removedEntry
  rw [seat, sec]

/-- R178, R179: with room, the two acts of a "slot left" take the slot's entries out of the view and CARD_REMOVED in,
whichever comes first. -/
theorem Station.leftNotices_view {w : Station} {p : Slot} (left : (w.peer p).state = .left)
    (quiet : w.alarm.has alarmViewFull = false) (room : w.alarm.view.length < 128) (other : p ≠ w.seat.slot)
    (new : ∀ since, w.alarm.markers.get p ≠ .removed since) (x : ViewEntry) :
    (x ∈ ((w.mergePeer p).markRemoved p).alarm.view ↔
      x ∈ w.alarm.view ∧ x.source ≠ p ∧ Station.isSynthetic p w x = false ∨ x = removedEntry w p) ∧
    (x ∈ ((w.markRemoved p).mergePeer p).alarm.view ↔
      x ∈ w.alarm.view ∧ x.source ≠ p ∧ Station.isSynthetic p w x = false ∨ x = removedEntry w p) := by
  have foreign : (removedEntry w p).source ≠ p := Ne.symm other
  constructor
  · have g := w.mergePeer_frame p
    have markers : (w.mergePeer p).alarm.markers = w.alarm.markers := w.merge_markers _ _
    obtain ⟨gone, fewer, still⟩ := Station.mergePeer_left left quiet room.le
    have seat := Station.isSynthetic_congr g.seat p
    have entry := removedEntry_congr g.seat (congrArg TimeBase.sec g.time) p
    generalize w.mergePeer p = u at *
    obtain ⟨view, -, -⟩ := Station.markRemoved_view still (fewer.trans_lt room) (p := p) (markers ▸ new)
    rw [view, gone, seat, entry, and_assoc]
  · have g := w.markRemoved_frame p
    have mleft : ((w.markRemoved p).peer p).state = .left := by
      rw [Station.peer_of_roster _ _ g.roster]
      exact left
    obtain ⟨view, size, still⟩ := Station.markRemoved_view quiet room new
    generalize w.markRemoved p = u at *
    obtain ⟨gone, -, -⟩ := Station.mergePeer_left mleft still size
    rw [gone, view]
    constructor
    · rintro ⟨⟨hv, no⟩ | rfl, source⟩
      · exact .inl ⟨hv, source, no⟩
      · exact .inr rfl
    · rintro (⟨hv, source, no⟩ | rfl)
      · exact ⟨.inl ⟨hv, no⟩, source⟩
      · exact ⟨.inr rfl, foreign⟩

/-- R178, R179: "slot left" with nothing to follow. -/
theorem Station.notifyLeft_view {s : Station} {p : Slot} (handover : Bool) (calm : Calm s)
    (left : (s.peer p).state = .left) (room : s.alarm.view.length < 128) (other : p ≠ s.seat.slot)
    (new : ∀ since, s.alarm.markers.get p ≠ .removed since) (x : ViewEntry) :
    x ∈ (s.notifyLeft p handover).alarm.view ↔
      x ∈ s.alarm.view ∧ x.source ≠ p ∧ Station.isSynthetic p s x = false ∨ x = removedEntry s p := by
  have q := s.flushSlot_queueFrame p
  obtain ⟨alarm, roster, time, seat, follow⟩ : let v := (s.flushSlot p).recordHandover p handover
      v.alarm = s.alarm ∧ v.roster = s.roster ∧ v.time = s.time ∧ v.seat = s.seat ∧ NothingToFollow v := by
    have follow := calm.follow.congr q.sel q.time
    unfold Station.recordHandover
    dsimp only
    split
    · exact ⟨q.alarm, q.roster, q.time, q.seat, follow.cands, follow.external, follow.source⟩
    · exact ⟨q.alarm, q.roster, q.time, q.seat, follow⟩
  show x ∈ (eitherOrder (fun t => t.mergePeer p) (fun t => t.markRemoved p)
    (((s.flushSlot p).recordHandover p handover).dropAndReview p)).alarm.view ↔ _
  generalize (s.flushSlot p).recordHandover p handover = v at *
  have f := v.dropAndReview_frame p
  obtain ⟨same, -⟩ := (follow.removeCandidate p).reviews_alarm 1
  have same : (v.dropAndReview p).alarm = s.alarm := same.trans alarm
  have now : (v.dropAndReview p).time.sec = s.time.sec := by
    rw [f.time, ← time]
  have record : (v.dropAndReview p).peer p = s.peer p :=
    Station.peer_of_roster _ _ (f.roster.trans roster) p
  have there : (v.dropAndReview p).seat = s.seat := f.seat.trans seat
  have notices (d : Station) (ha : d.alarm = s.alarm) (hs : d.seat = s.seat) (ht : d.time.sec = s.time.sec)
      (hp : d.peer p = s.peer p) :
      (x ∈ ((d.mergePeer p).markRemoved p).alarm.view ↔
        x ∈ s.alarm.view ∧ x.source ≠ p ∧ Station.isSynthetic p s x = false ∨ x = removedEntry s p) ∧
      (x ∈ ((d.markRemoved p).mergePeer p).alarm.view ↔
        x ∈ s.alarm.view ∧ x.source ≠ p ∧ Station.isSynthetic p s x = false ∨ x = removedEntry s p) := by
    rw [← Station.isSynthetic_congr hs, ← removedEntry_congr hs ht, ← ha]
    refine Station.leftNotices_view ((congrArg Peer.state hp).trans left) ?_ ?_ (hs ▸ other) ?_ x
    · rw [ha]; exact calm.quiet
    · rw [ha]; exact room
    · rw [ha]; exact new
  generalize v.dropAndReview p = y at *
  rcases eitherOrder_cases (fun t => t.mergePeer p) (fun t => t.markRemoved p) y with h | h
  · rw [h]
    exact (notices { y with freeIdx := y.freeIdx + 1 } same there now record).1
  · rw [h]
    exact (notices { y with freeIdx := y.freeIdx + 1 } same there now record).2

/-- R51, R178, R179: the view after a LEAVE. -/
theorem Station.settle_takeLeave_view {s : Station} {p : Slot} (handover : Bool) (calm : Calm s)
    (room : s.alarm.view.length < 128) (other : p ≠ s.seat.slot)
    (new : ∀ since, s.alarm.markers.get p ≠ .removed since) (x : ViewEntry) :
    x ∈ ((s.settle p).takeLeave p handover).alarm.view ↔
      x ∈ s.alarm.view ∧ x.source ≠ p ∧ Station.isSynthetic p s x = false ∨ x = removedEntry s p := by
  have stays := s.settle_removed new
  obtain ⟨sub, kept, fewer, vcalm, seat, sec⟩ := calm.settle room.le p
  generalize s.settle p = v at *
  let w := v.setPeer p ((v.peer p).leaves v.localTime)
  have left : (w.peer p).state = .left := congrArg Peer.state (v.peer_setPeer_same p _)
  have wcalm : Calm w := ⟨vcalm.follow.congr rfl rfl, vcalm.quiet⟩
  have view := w.notifyLeft_view handover wcalm left (fewer.trans_lt room) (fun h => other (h.trans (congrArg _ seat)))
    stays x
  rw [Station.isSynthetic_congr (s := s) (t := w) seat, removedEntry_congr (s := s) (t := w) seat sec] at view
  refine view.trans (or_congr_left ?_)
  exact ⟨fun ⟨hv, source, no⟩ => ⟨sub x hv, source, no⟩, fun ⟨hv, source, no⟩ => ⟨kept x hv no, source, no⟩⟩

/-! ### The own list in the view (R172, R176) -/

theorem Distinct.findIdent {l : List ViewEntry} (h : Distinct l) {x : ViewEntry} (hx : x ∈ l) :
    findIdent l x.ident = some x := by
  obtain ⟨before, after, rfl⟩ := List.append_of_mem hx
  exact findIdent_split fun y hy => (List.pairwise_append.1 h).2.2 y hy x List.mem_cons_self

/-- R176: the view's entries with source the latched slot, but the synthetic ones, are those of the own list. -/
structure OwnShown (s : Station) : Prop where
  shown : ∀ e ∈ s.alarm.own, ownShown s e ∈ s.alarm.view
  only : ∀ x ∈ s.alarm.view, x.source = s.seat.slot → x.code ≠ cardMissing → x.code ≠ cardRemoved →
    ∃ e ∈ s.alarm.own, x = ownShown s e

theorem Station.isOwn_iff (s : Station) (x : ViewEntry) :
    s.isOwn x = true ↔ x.source = s.seat.slot ∧ x.code ≠ cardMissing ∧ x.code ≠ cardRemoved := by
  simp [Station.isOwn, syntheticCode]

theorem OwnShown.of_isOwn {s : Station} (h : OwnShown s) {x : ViewEntry} (hx : x ∈ s.alarm.view)
    (own : s.isOwn x = true) : ∃ e ∈ s.alarm.own, x = ownShown s e := by
  obtain ⟨source, missing, removed⟩ := (s.isOwn_iff x).1 own
  exact h.only x hx source missing removed

theorem Station.mem_ownEntries {s : Station} {x : ViewEntry} :
    x ∈ s.ownEntries ↔ ∃ e ∈ s.alarm.own, x = ownShown s e := by
  unfold Station.ownEntries
  rw [List.mem_map]
  exact exists_congr fun e => and_congr_right fun _ => eq_comm

/-- R172, R178: the own list changed to `l` in a view with room for it. -/
theorem Station.changeOwn_room {s : Station} {l : List AlarmEntry} (ok : OwnOk l)
    (quiet : (l.any fun e => e.code = alarmViewFull) = false)
    (room : (removeFrom s.isOwn (l.map (ownShown s)) s.alarm.view).length +
      (missingFrom (removeFrom s.isOwn (l.map (ownShown s)) s.alarm.view) (l.map (ownShown s))).length ≤ 128) :
    Merged s (s.changeOwn l) s.isOwn (l.map (ownShown s)) := by
  let w := s.setOwn l
  have kept : ViewKept s w := s.setOwn_viewKept l
  have own : w.alarm.own = l := s.setOwn_own l
  have seat : w.seat = s.seat := (s.setOwn_frame l).seat
  have bounded : OwnListBounded w := (ownListBounded_iff w).2 (own ▸ ok)
  have mine : w.isOwn = s.isOwn := by
    unfold Station.isOwn
    rw [seat]
  have entries : w.ownEntries = l.map (ownShown s) := by
    unfold Station.ownEntries
    rw [own, seat]
    rfl
  have source : SourceAt w Station.isOwn Station.ownEntries := by
    refine ⟨fun _ _ => rfl, fun _ _ => rfl, fun x hx => (Station.ownEntries_distinct bounded).findIdent hx,
      fun e _ x hx same => ?_⟩
    obtain ⟨a, ha, rfl⟩ := Station.mem_ownEntries.1 hx
    have natural := Station.own_not_synthetic bounded ha
    simp only [ownShown, ViewEntry.ident, Ident.mk.injEq] at same
    obtain ⟨hs, hc, -⟩ := same
    unfold Station.isOwn
    rw [← hs, ← hc, natural]
    simp
  have still : w.alarm.has alarmViewFull = false := by
    unfold AlarmUnit.has
    rw [own]
    exact quiet
  obtain ⟨merged, -⟩ := Station.merge_room source still (by
    rw [mine, entries, kept.view]
    exact room)
  rw [mine, entries] at merged
  obtain ⟨view, size, cursor, cause⟩ := merged
  rw [kept.view] at view size cursor
  rw [kept.cursor] at cursor
  refine ⟨view, size, cursor, fun no => ?_⟩
  obtain ⟨c, v⟩ := cause no
  exact ⟨kept.cause.symm.trans c, v.trans kept.view⟩

/-- R178: a merge that misses nothing leaves the identities of the entries that stayed. -/
theorem Merged.idents {s t : Station} {mine : ViewEntry → Bool} {entries : List ViewEntry}
    (h : Merged s t mine entries) (all : missingFrom (removeFrom mine entries s.alarm.view) entries = []) (i : Ident) :
    (∃ x ∈ t.alarm.view, x.ident = i) ↔ ∃ x ∈ removeFrom mine entries s.alarm.view, x.ident = i := by
  constructor
  · rintro ⟨x, hx, rfl⟩
    rcases (h.view x).1 hx with ⟨hv, no⟩ | he
    · exact ⟨x, mem_removeFrom.2 ⟨hv, .inl no⟩, rfl⟩
    · by_contra none
      have := mem_missingFrom.2 ⟨he, fun y hy same => none ⟨y, hy, same⟩⟩
      rw [all] at this
      cases this
  · rintro ⟨x, hx, rfl⟩
    obtain ⟨hv, no | ⟨y, hy, same⟩⟩ := mem_removeFrom.1 hx
    · exact ⟨x, (h.view x).2 (.inl ⟨hv, no⟩), rfl⟩
    · exact ⟨y, (h.view y).2 (.inr hy), same⟩

/-- R183: the cursor after a merge that misses nothing. -/
theorem Merged.cursorFollows {s t : Station} {mine : ViewEntry → Bool} {entries : List ViewEntry}
    (h : Merged s t mine entries) (all : missingFrom (removeFrom mine entries s.alarm.view) entries = [])
    (distinct : Distinct s.alarm.view) : CursorFollows s t := by
  refine ⟨fun atEnd => by rw [h.cursor, atEnd]; rfl, fun before e after split here => ?_⟩
  have first : ∀ x ∈ before, x.ident ≠ e.ident := fun x hx =>
    (List.pairwise_append.1 (split ▸ distinct)).2.2 x hx e List.mem_cons_self
  have same (x : ViewEntry) : (findIdent (removeFrom mine entries s.alarm.view) x.ident).isSome =
      t.alarm.view.any fun y => decide (y.ident = x.ident) := by
    rw [Bool.eq_iff_iff, findIdent_isSome, ← h.idents all, List.any_eq_true]
    simp only [decide_eq_true_eq]
  rw [h.cursor, here]
  show ((s.alarm.view.dropWhile fun x => !decide (x.ident = e.ident)).find? fun x =>
    (findIdent (removeFrom mine entries s.alarm.view) x.ident).isSome).map ViewEntry.ident = _
  simp only [same]
  rw [split, dropWhile_split first]

/-- R172, R176, R183: an entry added to the own list enters a view with room; the cursor stays. -/
theorem OwnShown.adds {s : Station} (shown : OwnShown s)
    (stands : Stands s.alarm.view s.alarm.cursor) (quiet : s.alarm.has alarmViewFull = false)
    {e : AlarmEntry} (ok : OwnOk (s.alarm.own ++ [e])) (absent : ∀ x ∈ s.alarm.own, x.code = e.code → x.subject ≠ e.subject)
    (natural : e.code ≠ alarmViewFull) (room : s.alarm.view.length < 128) :
    let t := s.changeOwn (s.alarm.own ++ [e])
    (∀ x, x ∈ t.alarm.view ↔ x ∈ s.alarm.view ∨ x = ownShown s e) ∧ t.alarm.viewChanged = true ∧
      t.alarm.cursor = s.alarm.cursor := by
  let entries := (s.alarm.own ++ [e]).map (ownShown s)
  have mem (x : ViewEntry) : x ∈ entries ↔ (∃ a ∈ s.alarm.own, x = ownShown s a) ∨ x = ownShown s e := by
    simp only [entries, List.map_append, List.map_cons, List.map_nil, List.mem_append, List.mem_map, List.mem_singleton]
    exact or_congr_left (exists_congr fun a => and_congr_right fun _ => eq_comm)
  have all : removeFrom s.isOwn entries s.alarm.view = s.alarm.view := by
    unfold removeFrom
    refine List.filter_eq_self.2 fun x hx => ?_
    rw [Bool.or_eq_true, Bool.not_eq_true', findIdent_isSome]
    cases own : s.isOwn x with
    | false => exact .inl rfl
    | true => exact .inr ⟨x, (mem x).2 (.inl (shown.of_isOwn hx own)), rfl⟩
  have one : (missingFrom s.alarm.view entries).length ≤ 1 := by
    have present : ((s.alarm.own.map (ownShown s)).filter fun x => (findIdent s.alarm.view x.ident).isNone) = [] := by
      refine List.filter_eq_nil_iff.2 fun x hx => ?_
      obtain ⟨a, ha, rfl⟩ := List.mem_map.1 hx
      rw [findIdent_isNone]
      exact fun none => none _ (shown.shown a ha) rfl
    unfold missingFrom
    rw [(sortView_perm _).length_eq]
    simp only [entries, List.map_append, List.filter_append, present, List.nil_append]
    exact List.length_filter_le _ _
  have fits : (removeFrom s.isOwn entries s.alarm.view).length +
      (missingFrom (removeFrom s.isOwn entries s.alarm.view) entries).length ≤ 128 := by
    rw [all]
    omega
  have merged := Station.changeOwn_room ok (by
    have none : (s.alarm.own.any fun x => x.code = alarmViewFull) = false := quiet
    rw [List.any_append, none]
    simp [natural]) fits
  have cursor := merged.cursor
  rw [all, followCursor_of_stands stands stands] at cursor
  have view (x : ViewEntry) : x ∈ (s.changeOwn (s.alarm.own ++ [e])).alarm.view ↔ x ∈ s.alarm.view ∨ x = ownShown s e := by
    rw [merged.view x, mem]
    constructor
    · rintro (⟨hv, -⟩ | ⟨a, ha, rfl⟩ | rfl)
      · exact .inl hv
      · exact .inl (shown.shown a ha)
      · exact .inr rfl
    · rintro (hv | rfl)
      · cases own : s.isOwn x with
        | false => exact .inl ⟨hv, rfl⟩
        | true => exact .inr (.inl (shown.of_isOwn hv own))
      · exact .inr (.inr rfl)
  refine ⟨view, merged.cause.changed fun same => ?_, cursor⟩
  have came : ownShown s e ∈ s.alarm.view := same ▸ (view _).2 (.inr rfl)
  have unnatural : syntheticCode e.code = false :=
    Station.own_not_synthetic (s := { s with alarm := { s.alarm with own := s.alarm.own ++ [e] } })
      ((ownListBounded_iff _).2 ok) (List.mem_append_right _ (List.mem_singleton.2 rfl))
  have own : s.isOwn (ownShown s e) = true := by
    unfold Station.isOwn
    rw [show (ownShown s e).code = e.code from rfl, unnatural]
    simp [ownShown]
  obtain ⟨a, ha, twin⟩ := shown.of_isOwn came own
  have code : e.code = a.code := congrArg ViewEntry.code twin
  have subject : e.subject = a.subject := congrArg ViewEntry.subject twin
  exact absent a ha code.symm subject.symm

/-- R172, R176, R183: an entry taken out of the own list leaves the view, and the cursor follows. -/
theorem OwnShown.drops {s : Station} (shown : OwnShown s) (distinct : Distinct s.alarm.view)
    (size : s.alarm.view.length ≤ 128) (quiet : s.alarm.has alarmViewFull = false) (ok : OwnOk s.alarm.own)
    {before after : List AlarmEntry} {e : AlarmEntry} {code : Word16} {subject : Option Slot}
    (one : OneEntry s.alarm.own before e after code subject) :
    let t := s.changeOwn (before ++ after)
    (∀ x, x ∈ t.alarm.view ↔ x ∈ s.alarm.view ∧ x.ident ≠ ⟨s.seat.slot, code, subject⟩) ∧
      t.alarm.viewChanged = true ∧ CursorFollows s t := by
  let entries := (before ++ after).map (ownShown s)
  have mem (x : ViewEntry) : x ∈ entries ↔ ∃ a ∈ before ++ after, x = ownShown s a := by
    simp only [entries, List.mem_map]
    exact exists_congr fun a => and_congr_right fun _ => eq_comm
  have listed {a : AlarmEntry} : a ∈ s.alarm.own ↔ a ∈ before ++ after ∨ a = e := by
    rw [one.split, List.mem_append, List.mem_append, List.mem_cons]
    tauto
  obtain ⟨hcode, hsubject⟩ := (e.is_iff _ _).1 one.is_
  have gone : (ownShown s e).ident = ⟨s.seat.slot, code, subject⟩ := by
    rw [← hcode, ← hsubject]
    rfl
  have others {a : AlarmEntry} (ha : a ∈ before ++ after) : (ownShown s a).ident ≠ ⟨s.seat.slot, code, subject⟩ := by
    intro same
    have no := one.others a ha
    simp only [ownShown, ViewEntry.ident, Ident.mk.injEq] at same
    rw [(a.is_iff _ _).2 ⟨same.2.1, same.2.2⟩] at no
    cases no
  have stay {a : AlarmEntry} (ha : a ∈ before ++ after) : ownShown s a ∈ s.alarm.view :=
    shown.shown a (listed.2 (.inl ha))
  have all : missingFrom (removeFrom s.isOwn entries s.alarm.view) entries = [] := by
    refine List.eq_nil_iff_forall_not_mem.2 fun x hx => ?_
    obtain ⟨he, none⟩ := mem_missingFrom.1 hx
    obtain ⟨a, ha, rfl⟩ := (mem x).1 he
    exact none _ (mem_removeFrom.2 ⟨stay ha, .inr ⟨_, he, rfl⟩⟩) rfl
  have fewer : (before ++ after).Sublist s.alarm.own := by
    rw [one.split]
    exact List.Sublist.append_left (List.sublist_cons_self e after) before
  have fits : (removeFrom s.isOwn entries s.alarm.view).length +
      (missingFrom (removeFrom s.isOwn entries s.alarm.view) entries).length ≤ 128 := by
    rw [all]
    exact (removeFrom_sublist _ _ _).length_le.trans size
  have merged := Station.changeOwn_room (ok.sublist fewer) (by
    have none : ∀ x ∈ s.alarm.own, x.code ≠ alarmViewFull := (AlarmUnit.has_false_iff _ _).1 quiet
    rw [List.any_eq_false]
    exact fun x hx => by simpa using none x (fewer.subset hx)) fits
  have view (x : ViewEntry) : x ∈ (s.changeOwn (before ++ after)).alarm.view ↔
      x ∈ s.alarm.view ∧ x.ident ≠ ⟨s.seat.slot, code, subject⟩ := by
    rw [merged.view x, mem]
    constructor
    · rintro (⟨hv, no⟩ | ⟨a, ha, rfl⟩)
      · refine ⟨hv, fun same => ?_⟩
        have natural := Station.own_not_synthetic ((ownListBounded_iff s).2 ok) (listed.2 (.inr rfl))
        simp only [ViewEntry.ident, Ident.mk.injEq] at same
        obtain ⟨hs, hc, -⟩ := same
        unfold Station.isOwn at no
        rw [hs, hc, ← hcode, natural] at no
        simp at no
      · exact ⟨stay ha, others ha⟩
    · rintro ⟨hv, other⟩
      cases own : s.isOwn x with
      | false => exact .inl ⟨hv, rfl⟩
      | true =>
        obtain ⟨a, ha, rfl⟩ := shown.of_isOwn hv own
        rcases listed.1 ha with ha | rfl
        · exact .inr ⟨a, ha, rfl⟩
        · exact absurd gone other
  have follows := merged.cursorFollows all distinct
  refine ⟨view, merged.cause.changed fun same => ?_, follows⟩
  have went : ownShown s e ∈ s.alarm.view := shown.shown e (listed.2 (.inr rfl))
  exact ((view _).1 (same.symm ▸ went)).2 gone

end Sys2Proof.Machine
end

section
/-! SUPPORT. The markers and the own entries in the view (R170 to R172, R176, R178, R179, R185). -/

-- One theorem after another: the check's data limit has no room for a thread for each.
set_option Elab.async false

open Sys2Proof Sys2Proof.Machine Sys2Proof.Safety Sys2Proof.Slice0

namespace Sys2Proof.Machine

/-- R201: where CARD_UNRESPONSIVE does not stand a request leaves the alarm unit to its own effect. -/
theorem Station.cardAlive_alarm_quiet {s : Station} (quiet : s.alarm.has cardUnresponsive = false) :
    s.cardAlive.alarm = s.alarm := by
  rw [s.cardAlive_alarm]
  unfold Station.clearInternal
  have still : s.renewWatchdog.alarm.has cardUnresponsive = false := quiet
  rw [still]
  rfl

/-- R199, R200: a view changed since the last sight of it asks for attention. -/
theorem served_attn {u : Station} (req : Instr) (r : Result) (b : Body) (running : u.hold = false)
    (changed : u.alarm.viewChanged = true) : (served u req r b).outs.attn = true := by
  let v : Station := { u with port := replied u req r b }
  have outs : (served u req r b).outs = v.outputs := by
    show v.outputsNow = _
    exact if_neg (by rw [show v.hold = false from running]; exact Bool.false_ne_true)
  rw [outs]
  exact v.attn_iff.2 (.inl changed)

/-- R171: the one entry of an identity, in a list that holds none twice. -/
theorem exists_oneEntry {l : List AlarmEntry} (ok : OwnOk l) {e : AlarmEntry} (he : e ∈ l) :
    ∃ before after, OneEntry l before e after e.code e.subject := by
  obtain ⟨before, after, rfl⟩ := List.append_of_mem he
  refine ⟨before, after, rfl, (e.is_iff _ _).2 ⟨rfl, rfl⟩, fun x hx => Bool.eq_false_iff.2 fun same => ?_⟩
  obtain ⟨code, subject⟩ := (x.is_iff _ _).1 same
  obtain ⟨-, behind, across⟩ := List.pairwise_append.1 ok.distinct
  rcases List.mem_append.1 hx with front | back
  · exact across x front e List.mem_cons_self (by rw [code, subject])
  · exact (List.pairwise_cons.1 behind).1 x back (by rw [code, subject])

end Sys2Proof.Machine

namespace Sys2Proof.Slice0

/-- R171, R176, R185: a RAISE or CLEAR that changes the own list to `l`, seen in the view. -/
theorem edit_shown {s : State} (serving : Serving s) {req : Instr} {f : Station → Answer} {l : List AlarmEntry}
    (edits : EditsTo s.cardAlive l (f s.cardAlive))
    (changed : (s.cardAlive.changeOwn l).alarm.viewChanged = true) :
    ∃ t : State, s.run (Station.serve req f) = .next t ∧ t.alarm = (s.cardAlive.changeOwn l).alarm ∧
      t.outs.attn = true := by
  have run := State.run_serve (req := req) serving edits.answer
  have offer := (s.cardAlive.changeOwn l).renewOffer_spec.1
  have running : (s.cardAlive.changeOwn l).renewOffer.hold = false :=
    offer.hold.trans ((s.cardAlive.changeOwn_frame l).hold.trans (s.toStation.cardAlive_frame.1.hold.trans serving.1))
  have alarm : (s.cardAlive.changeOwn l).renewOffer.alarm = (s.cardAlive.changeOwn l).alarm := offer.alarm
  generalize (s.cardAlive.changeOwn l).renewOffer = v at *
  exact ⟨_, run, alarm, served_attn _ _ _ running (alarm ▸ changed)⟩

/-- R179: what a JOIN leaves of the markers. -/
theorem join_unmarks {s : State} {key : Byte} {p : Slot} {f : RxFrame} (air : Bool) {generation cardType : Byte}
    {cls : Nat} {cardOk : Bool} {cause : ResetCause} {first : Bool}
    (h : Hears s key p f (.join generation cardType cls cardOk cause first)) :
    ∃ t, exec (.frameHandover f air) s = .next t ∧ t.alarm.markers.get p = .none ∧
      OtherMarkersKept s.toStation t.toStation p := by
  have slot := h.receiving.source
  subst slot
  have run := exec_frameHandover_heard air h (fun _ => nofun) (.inl rfl)
  obtain ⟨-, -, -, -, -, gone, others⟩ := ((marked s.toStation).settle (keySlot key)).closing_takeJoin (keySlot key)
    generation cardType cls cardOk cause first
  have heard := (marked s.toStation).settle_otherMarkers (keySlot key)
  generalize (marked s.toStation).settle (keySlot key) = v at *
  exact ⟨_, run, gone, fun q hq => (others q hq).trans (heard q hq)⟩

/-- R179: what a LEAVE leaves of the markers and, with room and nothing to follow, of the view. -/
theorem leave_marks {s : State} {key : Byte} {p : Slot} {f : RxFrame} (air : Bool) {generation : Byte}
    {handover : Bool} {reason : LeaveReason} (h : Hears s key p f (.leave generation handover reason))
    (there : (s.peer p).state ≠ .left) (new : ∀ since, s.alarm.markers.get p ≠ .removed since) :
    ∃ t, exec (.frameHandover f air) s = .next t ∧ t.alarm.markers.get p = .removed s.time.sec ∧
      OtherMarkersKept s.toStation t.toStation p ∧
      (Calm s.toStation → s.alarm.view.length < 128 → ∀ x, x ∈ t.alarm.view ↔
        x ∈ s.alarm.view ∧ x.source ≠ p ∧ Station.isSynthetic p s.toStation x = false ∨
          x = removedEntry s.toStation p) := by
  have other := h.receiving.other
  have slot := h.receiving.source
  subst slot
  have run := exec_frameHandover_heard air h (fun _ => nofun) (.inr there)
  have stays := Station.settle_removed (s := marked s.toStation) (p := keySlot key) new
  obtain ⟨-, -, -, time⟩ := (marked s.toStation).settle_spec (keySlot key)
  have heard := (marked s.toStation).settle_otherMarkers (keySlot key)
  have view (calm : Calm s.toStation) (room : s.alarm.view.length < 128) :=
    Station.settle_takeLeave_view (s := marked s.toStation) (p := keySlot key) handover
      ⟨calm.follow.congr rfl rfl, calm.quiet⟩ room other new
  obtain ⟨-, -, -, -, removed, others⟩ := ((marked s.toStation).settle (keySlot key)).closing_takeLeave (keySlot key)
    handover
  have sec : ((marked s.toStation).settle (keySlot key)).time.sec = s.time.sec := by rw [time]; rfl
  obtain ⟨-, -, -, -, alarm, -, -, -⟩ :=
    (((marked s.toStation).settle (keySlot key)).takeLeave (keySlot key) handover).closing_frame
  refine ⟨_, run, ?_, fun q hq => (others q hq).trans (heard q hq), fun calm room x => ?_⟩
  · rw [← sec]
    exact removed stays
  · have viewed := view calm room x
    rw [← alarm] at viewed
    exact viewed

/-- Settles O42: the two acts of a LEAVE commute in a view with room, and the own list's entries are in the view before
and after a RAISE and a CLEAR. -/
theorem markersAndOwnEntriesEnterTheView : Obligations.MarkersAndOwnEntriesEnterTheView := by
  refine ⟨fun s key p f air => ⟨fun generation handover reason h there new => ?_,
    fun generation cardType cls cardOk cause first h => join_unmarks air h, fun c h noJoin noLeave away => ?_⟩,
    fun s code sub subject serving card hsub alive quiet own view ordered cursor shown only => ?_⟩
  · obtain ⟨t, run, marker, others, seen⟩ := leave_marks air h there new
    refine ⟨t, run, marker, others, fun cands source external quiet room x => ?_⟩
    rw [seen ⟨⟨cands, .inl external, source⟩, quiet⟩ room x, ← Bool.not_eq_true, Station.isSynthetic_iff]
    rfl
  · obtain ⟨t, run, others, gone, stays⟩ := exec_frameHandover_unmissed air h noJoin noLeave away
    exact ⟨t, run, others, gone, stays⟩
  · have alarm := Station.cardAlive_alarm_quiet alive
    obtain ⟨seat, time⟩ : s.cardAlive.seat = s.seat ∧ s.cardAlive.time = s.time :=
      ⟨s.toStation.cardAlive_edited.seat, s.toStation.cardAlive_edited.time⟩
    have entry : ownShown s.cardAlive = ownShown s.toStation := by
      funext e
      unfold ownShown
      rw [seat]
    have inView : OwnShown s.cardAlive := ⟨by rw [alarm, entry]; exact shown, by rw [alarm, entry, seat]; exact only⟩
    have ok : OwnOk s.cardAlive.alarm.own := by
      rw [alarm]
      exact (ownListBounded_iff _).1 own
    refine ⟨fun sev severity hs absent few room => ?_, fun ⟨e, he, hcode, hsubject⟩ => ?_⟩
    · have none : (s.cardAlive.alarm.own.find? fun x => x.is code subject) = none := by
        rw [alarm]
        exact List.find?_eq_none.2 fun x hx => by simp [is_false_of_absent absent x hx]
      have raised : Station.raiseCard code sev sub s.cardAlive = s.cardAlive.takeRaise code severity subject := by
        unfold Station.raiseCard
        rw [raiseArgs_some card hs hsub]
      have edits := Station.takeRaise_adds (sev := severity) (card_ne_viewFull card) none (by rw [alarm]; exact few)
      rw [← raised] at edits
      have added : OwnOk (s.cardAlive.alarm.own ++ [⟨code, severity, subject, s.cardAlive.time.sec⟩]) :=
        ok.cardRaised _ (cardCode_of_le card)
          (show s.cardAlive.alarm.cardEntries < 22 by rw [alarm]; exact few)
          (by rw [alarm]; exact is_false_of_absent absent)
      obtain ⟨entries, changed, same⟩ := inView.adds (by rw [alarm]; exact cursor) (by rw [alarm]; exact quiet) added
        (by rw [alarm]; exact absent) (card_ne_viewFull card) (by rw [alarm]; exact room)
      obtain ⟨t, run, now, attn⟩ := edit_shown (req := .raise code sev sub) serving edits changed
      refine ⟨t, run, fun x => ?_, (congrArg AlarmUnit.viewChanged now).trans changed, ?_, attn⟩
      · rw [now, entries, alarm, entry, time]
        rfl
      · rw [now, same, alarm]
    · obtain ⟨before, after, one⟩ := exists_oneEntry ok (alarm ▸ he)
      rw [hcode, hsubject] at one
      have cleared : Station.clearCard code sub s.cardAlive = s.cardAlive.takeClear code subject := by
        unfold Station.clearCard
        rw [clearArgs_some card hsub]
      have edits := one.takeClear (card_ne_viewFull card)
      rw [← cleared] at edits
      obtain ⟨entries, changed, follows⟩ := inView.drops (by rw [alarm]; exact view.distinct)
        (by rw [alarm]; exact view.size) (by rw [alarm]; exact quiet) ok one
      obtain ⟨t, run, now, attn⟩ := edit_shown (req := .clear code sub) serving edits changed
      refine ⟨t, run, fun x => ?_, (congrArg AlarmUnit.viewChanged now).trans changed, ?_, attn⟩
      · rw [now, entries, alarm, seat]
      · obtain ⟨atEnd, onEntry⟩ := follows
        unfold CursorFollows
        rw [now]
        rw [alarm] at atEnd onEntry
        exact ⟨atEnd, onEntry⟩

end Sys2Proof.Slice0
end

section
/-! SUPPORT. RESET VIEW at the alarm unit (R176, R180, R181, R186). -/

-- One theorem after another: the check's data limit has no room for a thread for each.
set_option Elab.async false

open Sys2Proof Sys2Proof.Machine Sys2Proof.Safety Sys2Proof.Slice0

namespace Sys2Proof.Machine

/-! ### A view of own entries alone -/

/-- R186: the view holds entries of source `q`, the latched slot, alone; the cursor is at END, and the view-changed
cause stands. -/
structure OwnSightOnly (q : Slot) (s : Station) : Prop where
  view : ∀ x ∈ s.alarm.view, x.source = q
  cursor : s.alarm.cursor = none
  changed : s.alarm.viewChanged = true
  slot : s.seat.slot = q

theorem OwnSightOnly.setView {q : Slot} {s : Station} (h : OwnSightOnly q s) {l : List ViewEntry}
    (hl : ∀ x ∈ l, x.source = q) : OwnSightOnly q (s.setView l) where
  view := hl
  cursor := by
    show followCursor _ _ s.alarm.cursor = none
    rw [h.cursor]
    rfl
  changed := (s.setView_cause l).stands h.changed
  slot := h.slot

theorem OwnSightOnly.setOwn {q : Slot} {s : Station} (h : OwnSightOnly q s) (l : List AlarmEntry) :
    OwnSightOnly q (s.setOwn l) where
  view := by rw [(s.setOwn_viewKept l).view]; exact h.view
  cursor := by rw [(s.setOwn_viewKept l).cursor]; exact h.cursor
  changed := by rw [(s.setOwn_viewKept l).cause]; exact h.changed
  slot := by rw [(s.setOwn_frame l).seat]; exact h.slot

theorem OwnSightOnly.offerEach {q : Slot} {l : List ViewEntry} (hl : ∀ x ∈ l, x.source = q) {s : Station}
    (h : OwnSightOnly q s) : OwnSightOnly q (s.offerEach l) := by
  induction l generalizing s with
  | nil => exact h
  | cons e l ih =>
    refine ih (fun x hx => hl x (List.mem_cons_of_mem e hx)) (h.setView fun x hx => ?_)
    rcases mem_offerEntry hx with rfl | there
    · exact hl x List.mem_cons_self
    · exact h.view x there

/-- R176: the own entries and the synthetic ones have the latched slot as their source. -/
theorem Station.ownAndSynthetic_source (s : Station) {x : ViewEntry} (hx : x ∈ s.ownEntries ++ s.syntheticEntries) :
    x.source = s.seat.slot := by
  rcases List.mem_append.1 hx with own | synthetic
  · obtain ⟨e, -, rfl⟩ := Station.mem_ownEntries.1 own
    rfl
  · obtain ⟨p, -, marked⟩ := List.mem_filterMap.1 synthetic
    exact (markerEntry_subject marked).1

theorem OwnSightOnly.offer {q : Slot} {s : Station} (h : OwnSightOnly q s) :
    OwnSightOnly q (s.offer (s.ownEntries ++ s.syntheticEntries)) := by
  have offered : OwnSightOnly q (s.offerEach (missingFrom s.alarm.view (s.ownEntries ++ s.syntheticEntries))) :=
    h.offerEach fun x hx => (s.ownAndSynthetic_source (mem_missingFrom.1 hx).1).trans h.slot
  have raised {u : Station} (hu : OwnSightOnly q u) : OwnSightOnly q u.raiseViewFull := by
    unfold Station.raiseViewFull
    split
    · exact hu
    · have told := hu.setOwn (u.alarm.own ++ [⟨alarmViewFull, .warning, none, u.time.sec⟩])
      refine told.offerEach fun x hx => ?_
      exact (Station.ownAndSynthetic_source _ (List.mem_append_left _ (mem_missingFrom.1 hx).1)).trans told.slot
  unfold Station.offer
  dsimp only
  split
  · exact raised offered
  · exact offered

theorem OwnSightOnly.clearViewFull {q : Slot} {s : Station} (h : OwnSightOnly q s) : OwnSightOnly q s.clearViewFull := by
  refine OwnSightOnly.offer (OwnSightOnly.setView (h.setOwn _) fun x hx => ?_)
  rw [(s.setOwn_viewKept _).view] at hx
  exact h.view x (mem_removeFrom.1 hx).1

/-- R186: the peers' entries taken out, and the cursor at END. -/
def ownSight (s : Station) : Station :=
  let v := s.setView (s.alarm.view.filter fun e => e.source = s.seat.slot)
  { v with alarm := { v.alarm with cursor := none, viewChanged := true } }

theorem ownSight_only (s : Station) : OwnSightOnly s.seat.slot (ownSight s) :=
  ⟨fun _ hx => by simpa using (List.mem_filter.1 hx).2, rfl, rfl, rfl⟩

theorem Station.resetView_eq (s : Station) :
    s.resetView = let c := if (ownSight s).alarm.has alarmViewFull then (ownSight s).clearViewFull else ownSight s
      c.offer (c.ownEntries ++ c.syntheticEntries) := rfl

theorem Station.resetView_only (s : Station) : OwnSightOnly s.seat.slot s.resetView := by
  rw [s.resetView_eq]
  refine OwnSightOnly.offer ?_
  split
  · exact (ownSight_only s).clearViewFull
  · exact ownSight_only s

/-! ### Every own and synthetic entry in a view with room -/

/-- R176: every own entry and every synthetic one is in the view. -/
def AllInView (s : Station) : Prop :=
  ∀ e ∈ s.ownEntries ++ s.syntheticEntries, ∃ x ∈ s.alarm.view, x.ident = e.ident

theorem Station.syntheticEntries_length (s : Station) : s.syntheticEntries.length ≤ 16 :=
  (List.length_filterMap_le _ _).trans (by decide)

theorem Station.ownAndSynthetic_length (s : Station) :
    (s.ownEntries ++ s.syntheticEntries).length ≤ s.alarm.own.length + 16 := by
  rw [List.length_append]
  have own : s.ownEntries.length = s.alarm.own.length := List.length_map _
  have synthetic := s.syntheticEntries_length
  omega

theorem Station.ownAndSynthetic_congr {s t : Station} (own : t.alarm.own = s.alarm.own)
    (markers : t.alarm.markers = s.alarm.markers) (seat : t.seat = s.seat) :
    t.ownEntries ++ t.syntheticEntries = s.ownEntries ++ s.syntheticEntries := by
  unfold Station.ownEntries Station.syntheticEntries
  rw [own, markers, seat]

/-- R180: with room, an offer of every own and synthetic entry brings them all in and raises nothing. -/
theorem Station.offerAll_room {s : Station} (room : s.alarm.view.length + s.alarm.own.length + 16 ≤ 128) :
    let t := s.offer (s.ownEntries ++ s.syntheticEntries)
    AllInView t ∧ t.alarm.own = s.alarm.own ∧ t.alarm.view.length ≤ 128 := by
  have few := missingFrom_length_le s.alarm.view (s.ownEntries ++ s.syntheticEntries)
  have most := s.ownAndSynthetic_length
  have offered := s.offer_room (s.ownEntries ++ s.syntheticEntries) (by omega)
  refine ⟨fun e he => ?_, offered.own, by rw [offered.size]; omega⟩
  rw [Station.ownAndSynthetic_congr offered.own (s.offer_markers _) (s.offer_frame _).seat] at he
  exact offered.shown he

/-- R180: an offer of entries that are all in the view leaves it. -/
theorem AllInView.offer {s : Station} (h : AllInView s) (size : s.alarm.view.length ≤ 128) :
    let t := s.offer (s.ownEntries ++ s.syntheticEntries)
    AllInView t ∧ t.alarm.own = s.alarm.own := by
  have none : missingFrom s.alarm.view (s.ownEntries ++ s.syntheticEntries) = [] := by
    refine List.eq_nil_iff_forall_not_mem.2 fun e he => ?_
    obtain ⟨listed, missing⟩ := mem_missingFrom.1 he
    obtain ⟨x, hx, same⟩ := h e listed
    exact missing x hx same
  have offered := s.offer_room (s.ownEntries ++ s.syntheticEntries) (by rw [none]; exact size)
  refine ⟨fun e he => ?_, offered.own⟩
  rw [Station.ownAndSynthetic_congr offered.own (s.offer_markers _) (s.offer_frame _).seat] at he
  exact offered.shown he

/-- R181: ALARM_VIEW_FULL cleared in a view with room for every own and synthetic entry. -/
theorem Station.clearViewFull_room {s : Station} (room : s.alarm.view.length + s.alarm.own.length + 16 ≤ 128) :
    AllInView s.clearViewFull ∧ s.clearViewFull.alarm.has alarmViewFull = false ∧
      s.clearViewFull.alarm.view.length ≤ 128 := by
  let own := s.alarm.own.filter fun e => !(e.code = alarmViewFull)
  let v := s.setOwn own
  let w := v.setView (removeFrom v.isOwn v.ownEntries v.alarm.view)
  have fewer : w.alarm.view.length ≤ s.alarm.view.length := by
    have shorter := (removeFrom_sublist v.isOwn v.ownEntries v.alarm.view).length_le
    exact shorter.trans_eq (congrArg List.length (s.setOwn_viewKept own).view)
  have wown : w.alarm.own = own := s.setOwn_own own
  have less : w.alarm.own.length ≤ s.alarm.own.length := by
    rw [wown]
    exact List.length_filter_le _ _
  obtain ⟨all, kept, size⟩ := w.offerAll_room (by omega)
  refine ⟨all, ?_, size⟩
  refine (AlarmUnit.has_of_own (kept.trans wown) alarmViewFull (b := { w.alarm with own := own })).trans ?_
  refine List.any_eq_false.2 fun e he => ?_
  simpa using (List.mem_filter.1 he).2

/-- R186: RESET VIEW where the own entries there and those to come fit. -/
theorem Station.resetView_room {s : Station}
    (room : (s.alarm.view.filter fun x => decide (x.source = s.seat.slot)).length + s.alarm.own.length + 16 ≤ 128) :
    AllInView s.resetView ∧ s.resetView.alarm.has alarmViewFull = false := by
  have fits : (ownSight s).alarm.view.length + (ownSight s).alarm.own.length + 16 ≤ 128 := room
  rw [s.resetView_eq]
  dsimp only
  cases full : (ownSight s).alarm.has alarmViewFull with
  | true =>
    rw [if_pos rfl]
    obtain ⟨all, cleared, size⟩ := Station.clearViewFull_room fits
    obtain ⟨still, kept⟩ := all.offer size
    exact ⟨still, (AlarmUnit.has_of_own kept _).trans cleared⟩
  | false =>
    rw [if_neg Bool.false_ne_true]
    obtain ⟨all, kept, -⟩ := Station.offerAll_room fits
    exact ⟨all, (AlarmUnit.has_of_own kept _).trans full⟩

theorem Station.resetView_markers (s : Station) : s.resetView.alarm.markers = s.alarm.markers := by
  rw [s.resetView_eq]
  dsimp only
  rw [Station.offer_markers]
  split
  · rw [Station.clearViewFull_markers]
    rfl
  · rfl

/-- R176: the synthetic entry of a slot's marker. -/
theorem Station.mem_syntheticEntries {s : Station} {p : Slot} {x : ViewEntry}
    (h : markerEntry s.seat.slot p (s.alarm.markers.get p) = some x) : x ∈ s.ownEntries ++ s.syntheticEntries :=
  List.mem_append_right _ (List.mem_filterMap.2 ⟨p, mem_allSlots p, h⟩)

end Sys2Proof.Machine
end

section
/-! SUPPORT. The reset requests (R58, R64, R82, R115, R150, R167, R186, R198). -/

-- One theorem after another: the check's data limit has no room for a thread for each.
set_option Elab.async false

open Sys2Proof Sys2Proof.Machine Sys2Proof.Safety Sys2Proof.Slice0

namespace Sys2Proof.Machine

/-- R64, R150, R152: the selector, the servo and the time after the reviews of RESET TIMING, from the station `u`. -/
structure TimingReset (u w : Station) : Prop where
  servo : w.sel.source = u.sel.source → w.servo = servoReset u
  moved : w.sel.source ≠ u.sel.source →
    w.servo = { servoReset u with source := w.sel.source, state := if w.sel.source = .none then .free else .acquire }
  told : u.servo.state ≠ .free ∨ w.sel.source ≠ u.sel.source → TimingTold w
  time : w.time = { u.time with a := 0 }
  sel : w.sel =
    { u.sel with
      cands := w.sel.cands, source := w.sel.source, announced := u.sel.unlockedClass, standing := u.sel.unlockedClass
      lockedSource := none, lockRecord := none
      beaconing := w.sel.beaconing, claim := w.sel.claim, interval := w.sel.interval }
  cands : ∀ c, c ∈ w.sel.cands ↔
    CandidateNow u c.slot c.cls ∧ ∃ x ∈ u.sel.cands, x.slot = c.slot ∧ x.deadline = c.deadline
  external : u.time.external = true → u.sel.extPresent = true → w.sel.source = .external
  bus : u.time.external = false ∨ u.sel.extPresent = false →
    (w.sel.cands = [] → w.sel.source = .none) ∧ ∀ b rest, w.sel.cands = b :: rest →
      (Above b.cls b.slot u.sel.unlockedClass u.seat.slot → w.sel.source = .bus b.slot) ∧
        (¬ Above b.cls b.slot u.sel.unlockedClass u.seat.slot → w.sel.source = .none)
  on : u.sel.beaconing = .on → (w.sel.beaconing = .on ↔ MayBeacon u w.sel)

/-- R58, R136: the stamps made void change no candidate. -/
theorem candidateNow_voidStamp {u v : Station} (peers : ∀ p, v.peer p = (u.peer p).voidStamp) (p : Slot) (k : Nat) :
    CandidateNow v p k ↔ CandidateNow u p k := by
  unfold CandidateNow
  rw [peers]
  simp [Peer.voidStamp]

theorem TimingForgotten.timingReset {u v w : Station} (h : TimingForgotten u v) (reviewed : ResetReviewed v.review w) (frame : ReviewFrame v w) : TimingReset u w := by
  have f := v.review_frame
  have state : v.servo.state = .free := by rw [h.servo]; rfl
  obtain ⟨announced, standing, record⟩ := Station.review_unlocked (s := v) (.inl state)
  have sel := v.review_sel
  have external : v.time.external = u.time.external := by rw [h.time]
  have extPresent : v.sel.extPresent = u.sel.extPresent := by rw [h.sel]; rfl
  have source : v.sel.source = u.sel.source := by rw [h.sel]; rfl
  have class_ : v.sel.standing = u.sel.unlockedClass := congrArg Selector.standing h.sel
  have cls : v.sel.unlockedClass = u.sel.unlockedClass := by rw [h.sel]; rfl
  have norecord : v.sel.lockRecord = none := congrArg Selector.lockRecord h.sel
  have chosen : v.review.sel.source = v.chooseSource v.review.sel.cands := v.review_source_eq
  obtain ⟨wcands, wsource⟩ : w.sel.cands = v.review.sel.cands ∧ w.sel.source = v.review.sel.source :=
    ⟨by rw [reviewed.sel], by rw [reviewed.sel]⟩
  obtain ⟨kept, moves⟩ := v.review_beaconing.2.2.2.2
  have vtime : v.review.time = v.time := by
    by_cases same : v.review.sel.source = v.sel.source
    · exact (kept same).2.1
    · obtain ⟨-, acquires, settles⟩ := moves same
      by_cases none : v.review.sel.source = .none
      · exact ((settles none).1 (.inl state)).2
      · exact (acquires none).1
  refine ⟨fun same => ?_, fun other => ?_, ?_, (reviewed.time.trans vtime).trans h.time, ?_, fun c => ?_,
    fun yes present => ?_, fun no => ?_, fun on => ?_⟩
  · rw [reviewed.servo, (kept (wsource.symm.trans (same.trans source.symm))).1, h.servo]
  · have other' : v.review.sel.source ≠ v.sel.source := by rw [← wsource, source]; exact other
    obtain ⟨-, acquires, settles⟩ := moves other'
    rw [reviewed.servo, wsource]
    by_cases none : v.review.sel.source = .none
    · rw [((settles none).1 (.inl state)).1, if_pos none, none, h.servo]
      rfl
    · rw [(acquires none).2, if_neg none, unlockedFrom, if_neg (by rw [state]; nofun), h.servo]
      rfl
  · rintro (away | other)
    · exact reviewed.told (Station.review_timingTold (h.told away))
    · refine reviewed.told (moves ?_).1
      rw [← wsource, source]
      exact other
  · rw [reviewed.sel, sel, announced, standing, record, cls, norecord, h.sel]
    rfl
  · rw [wcands, v.mem_review_cands, candidateNow_voidStamp h.peers]
    rw [h.sel]
    rfl
  · rw [wsource, chosen, v.chooseSource_external, external, extPresent]
    exact ⟨yes, present⟩
  · obtain ⟨none, some_⟩ := v.chooseSource_bus v.review.sel.cands (by rw [external, extPresent]; exact no)
    rw [class_, h.seat] at some_
    rw [wsource, wcands, chosen]
    exact ⟨none, some_⟩
  · have von : v.sel.beaconing = .on := by rw [h.sel]; exact on
    have allowed := reviewed.on (OnWhereAllowed.review (.inl von))
    unfold OnWhereAllowed MayBeacon at allowed
    unfold MayBeacon
    rw [← frame.seat.trans h.seat]
    exact allowed

theorem ownBut_congr {s t : Station} (h : t.alarm.own = s.alarm.own) : ownBut t = ownBut s := by
  unfold ownBut
  rw [h]

/-- R162: reviews raise no alarm but HOLDOVER_EXPIRED. -/
theorem HoldoverRaised.not_has {s t : Station} (h : HoldoverRaised s t) {code : Word16} (full : code ≠ alarmViewFull)
    (expired : code ≠ holdoverExpired) (hs : s.alarm.has code = false) : t.alarm.has code = false := by
  rcases h with ⟨h1, -⟩ | ⟨-, -, -, x, hx, h4⟩
  · exact (AlarmUnit.has_of_own h1 code).trans hs
  · rw [s.alarm.has_eq_rest code full] at hs
    rw [t.alarm.has_eq_rest code full]
    have rest : t.alarm.ownRest = s.alarm.ownRest ++ [x] := h4
    rw [rest, List.any_append, hs]
    simp [hx, expired.symm]

end Sys2Proof.Machine

namespace Sys2Proof.Slice0

/-- Settles O53: RESET TIMING by the review that settles source, class and servo, which the reviews after it keep;
RESET VIEW by the offers that meet no full view. -/
theorem resetRequestsClearTheirBlock : Obligations.ResetRequestsClearTheirBlock := by
  intro s serving u k
  have edited := s.toStation.cardAlive_edited
  refine ⟨fun out => ?_, fun config => ?_, ?_, ?_⟩
  · obtain ⟨t, answer, rx, cleared, kept, periodic, onLane, records, timing, seat, lane, share, roster, time, servo⟩ :=
      Station.resetTraffic_spec (u := u) (by rw [edited.seat]; exact out)
    refine ⟨_, State.run_serve serving answer, rx, fun set => ?_, kept, periodic, onLane, records, timing,
      seat.trans edited.seat, lane.trans edited.lane, share.trans edited.share, roster.trans edited.roster,
      time.trans edited.time, servo.trans edited.servo⟩
    exact ⟨AlarmUnit.not_has_of_cleared (cleared set) (by decide), cleared set⟩
  · exact State.run_serve serving (if_pos (edited.seat ▸ config))
  · obtain ⟨v, w, answer, forgotten, settled, reviewed, frame, holdover, told⟩ := u.resetTiming_spec
    obtain ⟨same, moved, cause, clock, sel, cands, external, bus, on⟩ := forgotten.timingReset reviewed frame
    have offer := w.renewOffer_spec.1
    have offset : w.alarm.has timeOffsetHigh = false :=
      holdover.not_has (by decide) (by decide) forgotten.offset
    have servo : w.servo.i = 0 ∧ w.servo.a = 0 ∧ w.servo.inCount = 0 ∧ w.servo.outCount = 0 ∧ w.servo.lastSample = none := by
      by_cases kept : w.sel.source = u.sel.source
      · rw [same kept]
        exact ⟨rfl, rfl, rfl, rfl, rfl⟩
      · rw [moved kept]
        exact ⟨rfl, rfl, rfl, rfl, rfl⟩
    have peers (p : Slot) : w.peer p = (u.peer p).voidStamp :=
      (Station.peer_of_roster _ _ frame.roster p).trans (forgotten.peers p)
    obtain ⟨roster, now, seat, selector, servo₀⟩ : u.roster = s.roster ∧ u.time = s.time ∧ u.seat = s.seat ∧
        u.sel = s.sel ∧ servoReset u = servoReset s.toStation := by
      have f := s.toStation.cardAlive_frame
      refine ⟨edited.roster, edited.time, edited.seat, f.2.2.2.2.2.1, ?_⟩
      unfold servoReset unlockedFrom
      rw [edited.servo, f.1.localTime]
    have peer (p : Slot) : u.peer p = s.peer p := Station.peer_of_roster _ _ roster p
    have candidate (p : Slot) (c : Nat) : CandidateNow u p c ↔ CandidateNow s.toStation p c := candidateNow_congr roster
    have may (c : Selector) : MayBeacon u c ↔ MayBeacon s.toStation c := by
      unfold MayBeacon
      rw [seat]
    simp only [may, candidate, selector, now, seat, servo₀, peer] at same moved cause clock sel cands external bus on peers
    have run := State.run_serve (req := .resetTiming) serving answer
    obtain ⟨xroster, xalarm, xservo, xtime, xsel, xseat, xlane, xshare, xrx, xport⟩ := And.intro offer.roster <|
      And.intro offer.alarm <| And.intro offer.servo <| And.intro offer.time <| And.intro offer.sel <|
      And.intro offer.seat <| And.intro offer.lane <| And.intro offer.share <| And.intro offer.rx offer.port
    have lanes := And.intro (frame.seat.trans forgotten.seat) (And.intro (frame.lane.trans forgotten.lane)
      (And.intro (frame.share.trans forgotten.share) (frame.rx.trans forgotten.rx)))
    generalize w.renewOffer = x at *
    have kept : x.sel = w.sel := xsel
    rw [← xsel, ← xservo] at same moved
    rw [← xservo] at servo
    rw [← xsel] at sel cands external bus on
    rw [← xalarm] at offset
    have cause' : s.servo.state ≠ .free ∨ x.sel.source ≠ s.sel.source → x.port.timingCause = true := fun away => by
      have told' : w.port.timingCause = true := cause (by rw [edited.servo, ← kept]; exact away)
      rw [xport]
      exact told'
    obtain ⟨hi, ha, inCount, outCount, sample⟩ := servo
    obtain ⟨hseat, hlane, hshare, hrx⟩ := lanes
    have field {α : Type} (f : Selector → α) := congrArg f sel
    refine ⟨_, run, hi, ha, xtime.trans clock, inCount, outCount, sample, field Selector.lockedSource,
      field Selector.lockRecord, fun p => (Station.peer_of_roster _ _ xroster p).trans (peers p), offset,
      field Selector.announced, field Selector.standing, cands, external, bus, same, moved, cause', on,
      field Selector.previous, field Selector.current, field Selector.steppedPrevious, field Selector.steppedCurrent,
      field Selector.lastHandover, field Selector.extPresent, (xseat.trans hseat).trans seat,
      (xlane.trans hlane).trans edited.lane, (xshare.trans hshare).trans edited.share, (xrx.trans hrx).trans edited.rx⟩
  · let v := u.emptySets
    obtain ⟨emptied, sets⟩ := u.emptySets_spec
    have same {α : Type} (f : Station → α) (h : ∀ r, f { u with roster := r } = f u) : f v = f u :=
      (congrArg f emptied).trans (h _)
    have alarm : v.alarm = u.alarm := same Station.alarm fun _ => rfl
    have slot : v.seat.slot = s.seat.slot := congrArg Seat.slot ((same Station.seat fun _ => rfl).trans edited.seat)
    obtain ⟨view, cursor, changed, seated⟩ := v.resetView_only
    have rest : ownBut v.resetView = ownBut v := v.resetView_rest
    have markers : v.resetView.alarm.markers = s.alarm.markers :=
      v.resetView_markers.trans ((congrArg AlarmUnit.markers alarm).trans edited.markers)
    have frame := v.resetView_frame
    have room := Station.resetView_room (s := v)
    have offer := v.resetView.renewOffer_spec.1
    have run := State.run_serve (s := s) (req := .resetView) (f := Station.resetViewRequest) serving rfl
    have peers (p : Slot) : v.resetView.peer p = { s.peer p with alarms := ⟨none, [], false⟩ } := by
      rw [Station.peer_of_roster _ _ frame.roster, sets p, Station.peer_of_roster _ _ edited.roster]
    have rest' : ownBut v.resetView = ownBut u := rest.trans (ownBut_congr (congrArg AlarmUnit.own alarm))
    obtain ⟨seat, lane, share, rx, time, servo⟩ : v.resetView.seat = s.seat ∧ v.resetView.lane = s.lane ∧
        v.resetView.share = s.share ∧ v.resetView.rx = s.rx ∧ v.resetView.time = s.time ∧
        v.resetView.servo = s.servo :=
      ⟨frame.seat.trans ((same Station.seat fun _ => rfl).trans edited.seat),
        frame.lane.trans ((same Station.lane fun _ => rfl).trans edited.lane),
        frame.share.trans ((same Station.share fun _ => rfl).trans edited.share),
        frame.rx.trans ((same Station.rx fun _ => rfl).trans edited.rx),
        frame.time.trans ((same Station.time fun _ => rfl).trans edited.time),
        frame.servo.trans ((same Station.servo fun _ => rfl).trans edited.servo)⟩
    rw [alarm, slot] at room
    rw [slot] at view seated
    generalize v.resetView = w at *
    have xpeers (p : Slot) := (Station.peer_of_roster _ _ offer.roster p).trans (peers p)
    have xalarm : w.renewOffer.alarm = w.alarm := offer.alarm
    have xbut : ownBut w.renewOffer = ownBut u := (ownBut_congr (congrArg AlarmUnit.own xalarm)).trans rest'
    obtain ⟨xseat, xlane, xshare, xrx, xtime, xservo⟩ := And.intro (offer.seat.trans seat) <|
      And.intro (offer.lane.trans lane) <| And.intro (offer.share.trans share) <| And.intro (offer.rx.trans rx) <|
      And.intro (offer.time.trans time) (offer.servo.trans servo)
    generalize w.renewOffer = x at *
    rw [← xalarm] at view cursor changed markers
    refine ⟨_, run, xpeers, cursor, changed, view, xbut, fun fits => ?_, markers, xseat, xlane, xshare, xrx, xtime,
      xservo⟩
    obtain ⟨all, cleared⟩ := room fits
    have shown {e : ViewEntry} (he : e ∈ w.ownEntries ++ w.syntheticEntries) : ∃ y ∈ x.alarm.view, y.ident = e.ident := by
      rw [xalarm]
      exact all e he
    have standing {p : Slot} {m : Marker} {e : ViewEntry} (hm : s.alarm.markers.get p = m)
        (he : markerEntry s.seat.slot p m = some e) : ∃ y ∈ x.alarm.view, y.ident = e.ident :=
      shown (Station.mem_syntheticEntries (by rw [seated, ← xalarm, markers, hm]; exact he))
    refine ⟨(congrArg (AlarmUnit.has · _) xalarm).trans cleared, fun e he => ?_, fun p =>
      ⟨fun since missing => standing missing rfl, fun since removed => standing removed rfl⟩⟩
    have listed : e ∈ w.alarm.own := by rw [← xalarm]; exact he
    obtain ⟨y, hy, id⟩ := shown (List.mem_append_left _ (Station.mem_ownEntries.2 ⟨e, listed, rfl⟩))
    refine ⟨y, hy, id.trans ?_⟩
    rw [← seated]
    rfl

end Sys2Proof.Slice0
end

section
/-! SUPPORT. The bytes of a request and the command they spell (R188, R194, R195, R205, R206). -/

-- One theorem after another: the check's data limit has no room for a thread for each.
set_option Elab.async false

open Sys2Proof Sys2Proof.Machine Sys2Proof.Safety Sys2Proof.Slice0

namespace Sys2Proof.Machine

/-! ### Numbers and packed bytes (R205, R206) -/

theorem word16Of_bytes (w : Word16) : word16Of (w.extractLsb' 8 8) (w.extractLsb' 0 8) = w := by
  refine BitVec.eq_of_getLsbD_eq fun i hi => ?_
  unfold word16Of
  rw [BitVec.getLsbD_append, BitVec.getLsbD_extractLsb', BitVec.getLsbD_extractLsb']
  by_cases low : i < 8
  · simp [low]
  · have high : i - 8 < 8 := by omega
    have place : 8 + (i - 8) = i := by omega
    simp [low, high, place]

theorem word32Of_bytes (w : Word32) :
    word32Of (w.extractLsb' 24 8) (w.extractLsb' 16 8) (w.extractLsb' 8 8) (w.extractLsb' 0 8) = w := by
  refine BitVec.eq_of_getLsbD_eq fun i hi => ?_
  unfold word32Of
  simp only [BitVec.getLsbD_append, BitVec.getLsbD_extractLsb']
  by_cases h0 : i < 8
  · simp [h0]
  · by_cases h1 : i < 16
    · have place : 8 + (i - 8) = i := by omega
      simp [h0, show i - 8 < 8 by omega, place]
    · by_cases h2 : i < 24
      · have place : 16 + (i - 8 - 8) = i := by omega
        simp [h0, show ¬ i - 8 < 8 by omega, show i - 8 - 8 < 8 by omega, place]
      · have place : 24 + (i - 8 - 8 - 8) = i := by omega
        simp [h0, show ¬ i - 8 < 8 by omega, show ¬ i - 8 - 8 < 8 by omega, show i - 8 - 8 - 8 < 8 by omega, place]

theorem optionsByte_bits (c : ConfigArgs) :
    (optionsByte c).getLsbD 0 = c.eligible ∧ (optionsByte c).getLsbD 1 = c.external ∧
      (optionsByte c).getLsbD 2 = c.relayCapable := by
  unfold optionsByte
  cases c.eligible <;> cases c.external <;> cases c.relayCapable <;> decide

/-- R205: a severity and a subject that fit are read back from their byte. -/
theorem packSubject_read {severity : Byte} {subject : Option Byte} (h : packs severity subject = true) :
    packedSeverity (packSubject severity subject) = severity ∧ packedSubject (packSubject severity subject) = subject := by
  have small : ∀ (a : Fin 4) (b : Option (Fin 16)),
      packedSeverity (packSubject (BitVec.ofNat 8 a.val) (b.map fun x : Fin 16 => BitVec.ofNat 8 x.val)) =
          BitVec.ofNat 8 a.val ∧
        packedSubject (packSubject (BitVec.ofNat 8 a.val) (b.map fun x : Fin 16 => BitVec.ofNat 8 x.val)) =
          b.map fun x : Fin 16 => BitVec.ofNat 8 x.val := by decide
  unfold packs at h
  obtain ⟨low, fits⟩ := Bool.and_eq_true_iff.1 h
  have low : severity.toNat < 4 := of_decide_eq_true low
  have byte (b : Byte) : BitVec.ofNat 8 b.toNat = b := BitVec.ofNat_toNat 8 b ▸ by simp
  cases subject with
  | none =>
    have read := small ⟨severity.toNat, low⟩ none
    simp only [Option.map_none, byte] at read
    exact read
  | some b =>
    have fits : b.toNat < 16 := by simpa using fits
    have read := small ⟨severity.toNat, low⟩ (some ⟨b.toNat, fits⟩)
    simp only [Option.map_some, byte] at read
    exact read

/-! ### What each request's bytes spell (R206) -/

/-- A request spells itself in `code` and `args`, and its operands fit. -/
abbrev Spells (i : Instr) (code : Byte) (args : List Byte) : Prop :=
  isRequest i = true ∧ FitsItsBytes i ∧ decodeRequest code args = i

theorem configure_spells (c : ConfigArgs) : Spells (.configure c) 0x01 (configureArgs c) := by
  refine ⟨rfl, trivial, ?_⟩
  obtain ⟨eligible, external, relay⟩ := optionsByte_bits c
  have spelled : spelledRequest 0x01 (configureArgs c) = some (.configure c) := by
    show some (Instr.configure _) = _
    simp only [eligible, external, relay, word16Of_bytes, word32Of_bytes]
  unfold decodeRequest
  rw [spelled]
  rfl

theorem send_spells (tag : Word16) (cls tier dest : Byte) {payload : List Byte} (short : payload.length ≤ 256) :
    Spells (.send tag cls tier dest payload) 0x02 (bytes16 tag ++ [cls, tier, dest] ++ payload) := by
  refine ⟨rfl, short, ?_⟩
  have spelled : spelledRequest 0x02 (bytes16 tag ++ [cls, tier, dest] ++ payload) =
      some (.send tag cls tier dest payload) := by
    refine (if_pos short).trans ?_
    rw [word16Of_bytes]
    rfl
  unfold decodeRequest
  rw [spelled]
  rfl

theorem setPeriodic_spells (index skip phase dest tier : Byte) {payload : List Byte} (short : payload.length ≤ 256) :
    Spells (.setPeriodic index skip phase dest tier payload) 0x0D ([index, skip, phase, dest, tier] ++ payload) := by
  refine ⟨rfl, short, ?_⟩
  have spelled : spelledRequest 0x0D ([index, skip, phase, dest, tier] ++ payload) =
      some (.setPeriodic index skip phase dest tier payload) := if_pos short
  unfold decodeRequest
  rw [spelled]
  rfl

theorem packs_iff {severity : Byte} {subject : Option Byte} :
    packs severity subject = true ↔ severity.toNat < 4 ∧ ∀ b ∈ subject, b.toNat < 16 := by
  unfold packs
  cases subject <;> simp

theorem raise_spells (code : Word16) {severity : Byte} {subject : Option Byte} (h : packs severity subject = true) :
    Spells (.raise code severity subject) 0x08 (bytes16 code ++ [packSubject severity subject]) := by
  refine ⟨rfl, packs_iff.1 h, ?_⟩
  obtain ⟨sev, sub⟩ := packSubject_read h
  have spelled : spelledRequest 0x08 (bytes16 code ++ [packSubject severity subject]) =
      some (.raise code severity subject) := by
    show some (Instr.raise _ _ _) = _
    rw [sev, sub, word16Of_bytes]
  unfold decodeRequest
  rw [spelled]
  rfl

theorem clear_spells (code : Word16) {subject : Option Byte} (h : packs 0 subject = true) :
    Spells (.clear code subject) 0x09 (bytes16 code ++ [packSubject 0 subject]) := by
  refine ⟨rfl, (packs_iff.1 h).2, ?_⟩
  obtain ⟨-, sub⟩ := packSubject_read h
  have spelled : spelledRequest 0x09 (bytes16 code ++ [packSubject 0 subject]) = some (.clear code subject) := by
    show some (Instr.clear _ _) = _
    rw [sub, word16Of_bytes]
  unfold decodeRequest
  rw [spelled]
  rfl

theorem externalTime_spells (second : Word32) : Spells (.externalTime second) 0x0B (bytes32 second) := by
  refine ⟨rfl, trivial, ?_⟩
  have spelled : spelledRequest 0x0B (bytes32 second) = some (.externalTime second) := by
    show some (Instr.externalTime _) = _
    rw [word32Of_bytes]
  unfold decodeRequest
  rw [spelled]
  rfl

/-- R206: the bytes of a request spell it. -/
theorem spells_of_requestBytes {i : Instr} {code : Byte} {args : List Byte} (h : requestBytes i = some (code, args)) :
    Spells i code args := by
  cases i with
  | configure c => cases h; exact configure_spells c
  | send tag cls tier dest payload =>
    obtain ⟨short, h⟩ := Option.ite_none_right_eq_some.1 h
    cases h
    exact send_spells tag cls tier dest short
  | raise code severity subject =>
    obtain ⟨fits, h⟩ := Option.ite_none_right_eq_some.1 h
    cases h
    exact raise_spells code fits
  | clear code subject =>
    obtain ⟨fits, h⟩ := Option.ite_none_right_eq_some.1 h
    cases h
    exact clear_spells code fits
  | externalTime second => cases h; exact externalTime_spells second
  | setPeriodic index skip phase dest tier payload =>
    obtain ⟨short, h⟩ := Option.ite_none_right_eq_some.1 h
    cases h
    exact setPeriodic_spells index skip phase dest tier short
  | unknownRequest code args =>
    obtain ⟨unknown, h⟩ := Option.ite_none_left_eq_some.1 h
    cases h
    have unknown : requestKnown code args = false := by simpa using unknown
    exact ⟨rfl, unknown, decodeRequest_unknown code args unknown⟩
  | take | reap | viewStation | viewRoster | viewQueues | viewReference | viewAlarms | readHold | readNext | readPrev
  | readAdvance | readPeek | seekFirst | seekLast | time | release | resetTraffic | resetTiming | resetView | restart =>
    cases h
    exact ⟨rfl, trivial, rfl⟩
  | _ => cases h

/-- R206: every request whose operands fit has bytes. -/
theorem exists_requestBytes {i : Instr} (request : isRequest i = true) (fits : FitsItsBytes i) :
    ∃ x, requestBytes i = some x := by
  cases i with
  | send | setPeriodic => exact ⟨_, if_pos fits⟩
  | raise code severity subject => exact ⟨_, if_pos (packs_iff.2 fits)⟩
  | clear code subject => exact ⟨_, if_pos (packs_iff.2 ⟨by decide, fits⟩)⟩
  | unknownRequest code args =>
    have unknown : requestKnown code args = false := fits
    exact ⟨_, if_neg (by rw [unknown]; exact Bool.false_ne_true)⟩
  | configure | take | reap | viewStation | viewRoster | viewQueues | viewReference | viewAlarms | readHold | readNext
  | readPrev | readAdvance | readPeek | seekFirst | seekLast | time | externalTime | release | resetTraffic | resetTiming
  | resetView | restart => exact ⟨_, rfl⟩
  | _ => cases request

/-! ### Bytes that spell no request (R188, R194, R195, R206) -/

/-- What the table asks of the code and the arguments of a request. -/
structure InTable (code : Nat) (args : List Byte) : Prop where
  range : 1 ≤ code ∧ code ≤ 17
  fixed : ∀ n, fixedLength code = some n → args.length = n
  payload : code = 2 ∨ code = 13 → 5 ≤ args.length ∧ args.length ≤ 261
  view : code = 5 → (∃ b : Byte, args = [b] ∧ b.toNat ≤ 4 ∧ b.toNat ≠ 1) ∨ ∃ b c : Byte, args = [b, c] ∧ b.toNat = 1
  read : code = 6 → (∃ b : Byte, args = [b] ∧ b.toNat < 4) ∨ ∃ b c : Byte, args = [b, c] ∧ b.toNat = 4
  seek : code = 7 → ∃ b : Byte, args = [b] ∧ b.toNat ≤ 1

theorem viewOf_some {args : List Byte} {i : Instr} (h : viewOf args = some i) :
    (∃ b : Byte, args = [b] ∧ b.toNat ≤ 4 ∧ b.toNat ≠ 1) ∨ ∃ b c : Byte, args = [b, c] ∧ b.toNat = 1 := by
  unfold viewOf at h
  split at h
  next b =>
    split at h
    case h_5 => cases h
    all_goals exact .inl ⟨b, rfl, by omega, by omega⟩
  next b c => exact .inr ⟨b, c, rfl, (Option.ite_none_right_eq_some.1 h).1⟩
  · cases h

theorem readOf_some {args : List Byte} {i : Instr} (h : readOf args = some i) :
    (∃ b : Byte, args = [b] ∧ b.toNat < 4) ∨ ∃ b c : Byte, args = [b, c] ∧ b.toNat = 4 := by
  unfold readOf at h
  split at h
  next b =>
    split at h
    case h_5 => cases h
    all_goals exact .inl ⟨b, rfl, by omega⟩
  next b c => exact .inr ⟨b, c, rfl, (Option.ite_none_right_eq_some.1 h).1⟩
  · cases h

theorem seekOf_some {args : List Byte} {i : Instr} (h : seekOf args = some i) :
    ∃ b : Byte, args = [b] ∧ b.toNat ≤ 1 := by
  unfold seekOf at h
  split at h
  next b =>
    split at h
    case h_3 => cases h
    all_goals exact ⟨b, rfl, by omega⟩
  · cases h

theorem bareOf_some {i j : Instr} {args : List Byte} (h : bareOf i args = some j) : args.length = 0 := by
  cases args with
  | nil => rfl
  | cons => cases h

theorem sendOf_some {args : List Byte} {i : Instr} (h : sendOf args = some i) : 5 ≤ args.length ∧ args.length ≤ 261 := by
  unfold sendOf at h
  split at h
  · obtain ⟨short, -⟩ := Option.ite_none_right_eq_some.1 h
    simp only [List.length_cons]
    omega
  · cases h

theorem setPeriodicOf_some {args : List Byte} {i : Instr} (h : setPeriodicOf args = some i) :
    5 ≤ args.length ∧ args.length ≤ 261 := by
  unfold setPeriodicOf at h
  split at h
  · obtain ⟨short, -⟩ := Option.ite_none_right_eq_some.1 h
    simp only [List.length_cons]
    omega
  · cases h

/-- A code whose number of arguments is fixed, but for the one place of SEEK. -/
theorem InTable.of_fixed {code n : Nat} {args : List Byte} (fixed : fixedLength code = some n) (other : code ≠ 7)
    (length : args.length = n) : InTable code args := by
  have bound : 1 ≤ code ∧ code ≤ 17 ∧ code ≠ 2 ∧ code ≠ 13 ∧ code ≠ 5 ∧ code ≠ 6 := by
    unfold fixedLength at fixed
    split at fixed
    case h_14 => cases fixed
    all_goals decide
  obtain ⟨low, high, two, thirteen, five, six⟩ := bound
  exact
    { range := ⟨low, high⟩
      fixed := fun m hm => length.trans (Option.some.inj (fixed.symm.trans hm))
      payload := fun h => absurd h (by omega)
      view := fun h => absurd h five
      read := fun h => absurd h six
      seek := fun h => absurd h other }

/-- A code with a payload. -/
theorem InTable.of_payload {code : Nat} {args : List Byte} (h : code = 2 ∨ code = 13)
    (length : 5 ≤ args.length ∧ args.length ≤ 261) : InTable code args where
  range := by omega
  fixed := by rcases h with rfl | rfl <;> exact nofun
  payload _ := length
  view := by omega
  read := by omega
  seek := by omega

/-- R206: a request that bytes spell is in the table. -/
theorem spelledRequest_inTable {code : Byte} {args : List Byte} {i : Instr} (h : spelledRequest code args = some i) :
    InTable code.toNat args := by
  unfold spelledRequest at h
  split at h
  case h_1 k =>
    unfold configureOf at h
    split at h
    · rw [k]; exact .of_fixed rfl (by decide) rfl
    · cases h
  case h_2 k => rw [k]; exact .of_payload (.inl rfl) (sendOf_some h)
  case h_13 k => rw [k]; exact .of_payload (.inr rfl) (setPeriodicOf_some h)
  case h_5 k =>
    rw [k]
    exact ⟨by decide, nofun, by omega, fun _ => viewOf_some h, nofun, nofun⟩
  case h_6 k =>
    rw [k]
    exact ⟨by decide, nofun, by omega, nofun, fun _ => readOf_some h, nofun⟩
  case h_7 k =>
    obtain ⟨b, args_, low⟩ := seekOf_some h
    rw [k]
    refine ⟨by decide, fun n hn => ?_, by omega, nofun, nofun, fun _ => ⟨b, args_, low⟩⟩
    rw [args_, ← Option.some.inj hn]
    rfl
  case h_3 k =>
    unfold takeOf at h
    split at h
    · rw [k]; exact .of_fixed rfl (by decide) rfl
    · cases h
  case h_8 k =>
    unfold raiseOf at h
    split at h
    · rw [k]; exact .of_fixed rfl (by decide) rfl
    · cases h
  case h_9 k =>
    unfold clearOf at h
    split at h
    · rw [k]; exact .of_fixed rfl (by decide) rfl
    · cases h
  case h_11 k =>
    unfold externalTimeOf at h
    split at h
    · rw [k]; exact .of_fixed rfl (by decide) rfl
    · cases h
  case h_18 => cases h
  all_goals
    next k =>
    rw [k]
    exact .of_fixed rfl (by decide) (bareOf_some h)

/-- R206: bytes that the table does not have spell no request. -/
theorem requestKnown_eq_false {code : Byte} {args : List Byte} (h : ¬ InTable code.toNat args) :
    requestKnown code args = false := by
  unfold requestKnown
  cases spelled : spelledRequest code args with
  | none => rfl
  | some i => exact absurd (spelledRequest_inTable spelled) h

/-! ### The bytes of the transaction (R188) -/

theorem requestPhase_length (code : Byte) (args : List Byte) : (requestPhase code args).length = 3 + args.length := by
  unfold requestPhase
  rw [List.length_append]
  rfl

/-- R188: what the part returns behind the request phase. -/
theorem Port.returned_eq {p : Port} {i : Instr} {code : Byte} {args : List Byte} {r : Reply} (waits k : Nat)
    (request : p.request = some i) (bytes : requestBytes i = some (code, args)) (reply : p.reply = some r) :
    p.returned waits k = returnedByte (3 + args.length) waits r.wire k := by
  have length : p.requestLength = 3 + args.length := by
    unfold Port.requestLength
    rw [request, Option.bind_some, bytes]
    exact requestPhase_length code args
  unfold Port.returned
  rw [reply]
  exact congrArg (returnedByte · waits r.wire k) length

theorem returnedByte_behind (n waits k : Nat) (reply : List Byte) :
    returnedByte n waits reply (n + waits + k) = reply.getD k 0xFF := by
  unfold returnedByte
  rw [if_neg (by omega), if_neg (by omega), Nat.add_sub_cancel_left]

end Sys2Proof.Machine

namespace Sys2Proof.Slice0

/-- Settles O44: each request by its own bytes, and the rest by what the table asks of a code and its arguments. -/
theorem requestBytesSpellTheirCommand : Obligations.RequestBytesSpellTheirCommand := by
  refine ⟨fun i code args h => spells_of_requestBytes h, fun i request fits => exists_requestBytes request fits,
    fun code args => ⟨fun out => ?_, fun n fixed other => ?_, fun has out => ?_, fun has out => ?_,
      fun b more split => ⟨fun five bad => ?_, fun six bad => ?_, fun five bad => ?_, fun six bad => ?_,
        fun seven bad => ?_⟩, decodeRequest_unknown code args⟩,
    fun p waits => ⟨fun k none => ?_, fun i code args r request bytes reply => ?_⟩⟩
  · refine requestKnown_eq_false fun h => ?_
    have := h.range
    omega
  · exact requestKnown_eq_false fun h => other (h.fixed n fixed)
  · refine requestKnown_eq_false fun h => ?_
    have := h.payload has
    omega
  · refine requestKnown_eq_false fun h => ?_
    have length : args.length = 1 ∨ args.length = 2 := by
      rcases has with five | six
      · rcases h.view five with ⟨b, rfl, -⟩ | ⟨b, c, rfl, -⟩
        · exact .inl rfl
        · exact .inr rfl
      · rcases h.read six with ⟨b, rfl, -⟩ | ⟨b, c, rfl, -⟩
        · exact .inl rfl
        · exact .inr rfl
    omega
  · refine requestKnown_eq_false fun h => ?_
    subst split
    rcases h.view five with ⟨c, eq, -, other⟩ | ⟨c, d, eq, one⟩ <;> cases eq
    · exact absurd (bad.2 other) (by simp)
    · exact bad.1 rfl one
  · refine requestKnown_eq_false fun h => ?_
    subst split
    rcases h.read six with ⟨c, eq, low⟩ | ⟨c, d, eq, four⟩ <;> cases eq
    · exact absurd (bad.2 (by omega)) (by simp)
    · exact bad.1 rfl four
  · refine requestKnown_eq_false fun h => ?_
    subst split
    rcases h.view five with ⟨c, eq, low, -⟩ | ⟨c, d, eq, one⟩ <;> cases eq <;> omega
  · refine requestKnown_eq_false fun h => ?_
    subst split
    rcases h.read six with ⟨c, eq, low⟩ | ⟨c, d, eq, four⟩ <;> cases eq <;> omega
  · refine requestKnown_eq_false fun h => ?_
    subst split
    obtain ⟨c, eq, low⟩ := h.seek seven
    cases eq
    omega
  · unfold Port.returned
    rw [none]
  · refine ⟨fun k before => ?_, fun k wait => ?_, fun k b byte => ?_, fun k past => ?_⟩
    all_goals rw [Port.returned_eq waits _ request bytes reply]
    · exact if_pos before
    · exact (if_neg (by omega)).trans (if_pos (by omega))
    · rw [returnedByte_behind, List.getD_eq_getElem?_getD, byte]
      rfl
    · rw [returnedByte_behind, List.getD_eq_getElem?_getD, List.getElem?_eq_none past]
      rfl

end Sys2Proof.Slice0
end

section
/-! SUPPORT. A sample at the servo (R155, R157 to R161, R164): what it makes of the servo and the time, and what it
leaves of the rest. -/

-- One theorem after another: the check's data limit has no room for a thread for each.
set_option Elab.async false

open Sys2Proof Sys2Proof.Machine Sys2Proof.Safety Sys2Proof.Slice0

namespace Sys2Proof.Machine

/-! ### What a sample leaves -/

/-- What a sample leaves, whatever it asks for. -/
structure SampleFrame (s t : Station) : Prop where
  share : t.share = s.share := by rfl
  seat : t.seat = s.seat := by rfl
  present : t.pins.seatPresent = s.pins.seatPresent := by rfl
  hold : t.hold = s.hold := by rfl
  localTime : t.localTime = s.localTime := by rfl
  lane : t.lane = { s.lane with rxStamp := t.lane.rxStamp } := by rfl
  rx : t.rx = s.rx := by rfl
  external : t.time.external = s.time.external := by rfl
  announcement : t.servo.announcement = s.servo.announcement := by rfl
  extLoss : t.servo.extLoss = s.servo.extLoss := by rfl
  source : t.servo.source = s.servo.source := by rfl
  sel : t.sel = { s.sel with
    lockedSource := t.sel.lockedSource, steppedPrevious := t.sel.steppedPrevious
    steppedCurrent := t.sel.steppedCurrent } := by rfl

theorem SampleFrame.refl (s : Station) : SampleFrame s s := {}

theorem SampleFrame.trans {s t u : Station} (h : SampleFrame s t) (g : SampleFrame t u) : SampleFrame s u where
  share := g.share.trans h.share
  seat := g.seat.trans h.seat
  present := g.present.trans h.present
  hold := g.hold.trans h.hold
  localTime := g.localTime.trans h.localTime
  lane := by rw [g.lane, h.lane]
  rx := g.rx.trans h.rx
  external := g.external.trans h.external
  announcement := g.announcement.trans h.announcement
  extLoss := g.extLoss.trans h.extLoss
  source := g.source.trans h.source
  sel := by rw [g.sel, h.sel]

theorem AlarmFrame.sample {s t : Station} (h : AlarmFrame s t) : SampleFrame s t where
  share := h.share
  seat := h.seat
  present := congrArg Pins.seatPresent h.pins
  hold := h.hold
  localTime := h.localTime
  lane := by rw [h.lane]
  rx := h.rx
  external := congrArg TimeBase.external h.time
  announcement := congrArg Servo.announcement h.servo
  extLoss := congrArg Servo.extLoss h.servo
  source := congrArg Servo.source h.servo
  sel := by rw [h.sel]

theorem Station.setServoState_sample (s : Station) (state : ServoState) : SampleFrame s (s.setServoState state) := by
  unfold Station.setServoState
  split
  · exact .refl s
  · exact {}

theorem Station.setServoState_told (s : Station) (state : ServoState) :
    TimingTold s ∨ (s.setServoState state).servo.state ≠ s.servo.state → TimingTold (s.setServoState state) := by
  unfold Station.setServoState
  split
  · exact fun told => told.resolve_right fun moved => moved rfl
  · exact fun _ => rfl

/-! ### Codes that an alarm's clear leaves -/

theorem AlarmUnit.not_has_of_cleared_other {s t : Station} {code other : Word16} (h : Cleared s t code)
    (full : other ≠ alarmViewFull) (quiet : s.alarm.has other = false) : t.alarm.has other = false := by
  rw [s.alarm.has_eq_rest other full] at quiet
  rw [t.alarm.has_eq_rest other full]
  have rest : t.alarm.ownRest = s.alarm.ownRest.filter fun e => e.code != code := h
  rw [rest, List.any_eq_false]
  exact fun e he => List.any_eq_false.1 quiet e (List.mem_filter.1 he).1

/-! ### The lock decision (R161) -/

/-- R161: a counted sample moves the servo's state, its counts and the unlocked timer alone. -/
structure Counted (s t : Station) (e : Int) : Prop where
  lock : s.sel.source = s.servo.source → LockDecided s t e
  frame : SampleFrame s t
  time : t.time = s.time
  roster : t.roster = s.roster
  servo : t.servo = { s.servo with
    state := t.servo.state, inCount := t.servo.inCount, outCount := t.servo.outCount, unlocked := t.servo.unlocked }
  told : TimingTold s ∨ t.servo.state ≠ s.servo.state → TimingTold t

/-- R138, R161: entering LOCKED. -/
theorem Station.enterLocked_spec (s : Station) :
    let t := s.enterLocked
    t.servo = { s.servo with state := .locked, inCount := 0, outCount := 0, unlocked := .stopped } ∧
      t.sel.lockedSource = some s.sel.source ∧ t.alarm.has referenceLost = false ∧
      t.alarm.has holdoverExpired = false ∧ SampleFrame s t ∧ t.time = s.time ∧ t.roster = s.roster ∧
      (s.servo.state ≠ .locked → TimingTold t) := by
  let u : Station := { s with
    servo := { s.servo with inCount := 0, outCount := 0, unlocked := .stopped }
    sel := { s.sel with lockedSource := some s.sel.source } }
  let v := u.setServoState .locked
  let w := v.clearInternal referenceLost
  have vw := v.clearInternal_frame referenceLost
  have wt := w.clearInternal_frame holdoverExpired
  have lost : w.alarm.has referenceLost = false :=
    AlarmUnit.not_has_of_cleared (v.clearInternal_cleared referenceLost) (by decide)
  have uv : SampleFrame s v := SampleFrame.trans {} (u.setServoState_sample .locked)
  have sel : v.sel = u.sel := by
    show (u.setServoState .locked).sel = _
    unfold Station.setServoState
    split <;> rfl
  have cleared := w.clearInternal_cleared holdoverExpired
  dsimp only
  rw [show s.enterLocked = w.clearInternal holdoverExpired from rfl]
  generalize w.clearInternal holdoverExpired = t at *
  refine ⟨wt.servo.trans (vw.servo.trans (u.setServoState_servo .locked)), ?_,
    AlarmUnit.not_has_of_cleared_other cleared (by decide) lost, AlarmUnit.not_has_of_cleared cleared (by decide),
    (uv.trans vw.sample).trans wt.sample, wt.time.trans (vw.time.trans (u.setServoState_time .locked)),
    wt.roster.trans (vw.roster.trans (u.setServoState_frame .locked).roster), fun moved => ?_⟩
  · rw [wt.sel, vw.sel, sel]
  · have told : v.port.timingCause = true := u.setServoState_told .locked (.inr (by
      rw [u.setServoState_servo]
      exact fun same => moved same.symm))
    show t.port.timingCause = true
    rw [wt.port, vw.port]
    exact told

/-- R161: a sample counted in ACQUIRE. -/
theorem Station.countSample_acquire {s : Station} (state : s.servo.state = .acquire) (e : Int) : Counted s (s.countSample e) e := by
  have unlocked : s.servo.state ≠ .locked := by rw [state]; nofun
  have count : s.countSample e =
      if e.natAbs ≤ 100 then
        if 4 ≤ s.servo.inCount + 1 then
          ({ s with servo := { s.servo with inCount := s.servo.inCount + 1 } } : Station).enterLocked
        else { s with servo := { s.servo with inCount := s.servo.inCount + 1 } }
      else { s with servo := { s.servo with inCount := 0 } } := by
    unfold Station.countSample
    dsimp only
    rw [if_neg (by rw [state]; nofun)]
    split
    · rfl
    all_goals next other => rw [state] at other; cases other
  have decided {t : Station}
      (near : e.natAbs ≤ 100 →
        (s.servo.inCount + 1 < 4 → t.servo.state = .acquire ∧ t.servo.inCount = s.servo.inCount + 1) ∧
        (4 ≤ s.servo.inCount + 1 →
          t.servo.state = .locked ∧ t.servo.inCount = 0 ∧ t.servo.outCount = 0 ∧ t.servo.unlocked = .stopped ∧
            t.sel.lockedSource = some s.servo.source ∧ t.alarm.has referenceLost = false ∧
            t.alarm.has holdoverExpired = false))
      (far : ¬ e.natAbs ≤ 100 → t.servo.state = .acquire ∧ t.servo.inCount = 0) : LockDecided s t e :=
    ⟨fun _ low high => near (by omega), fun _ out => far (by omega), fun locked => absurd locked unlocked,
      fun locked => absurd locked unlocked⟩
  rw [count]
  split
  next near =>
    split
    next four =>
      let u : Station := { s with servo := { s.servo with inCount := s.servo.inCount + 1 } }
      obtain ⟨servo, locked, lost, expired, frame, time, roster, told⟩ := u.enterLocked_spec
      show Counted s u.enterLocked e
      generalize u.enterLocked = t at *
      refine ⟨fun same => decided (fun _ => ⟨fun few => absurd four (by omega), fun _ => ?_⟩) fun far => absurd near far,
        SampleFrame.trans {} frame, time, roster, ?_, fun _ => told unlocked⟩
      · rw [servo, ← same]
        exact ⟨rfl, rfl, rfl, rfl, locked, lost, expired⟩
      · rw [servo]
    next few =>
      exact ⟨fun _ => decided (fun _ => ⟨fun _ => ⟨state, rfl⟩, fun four => absurd four few⟩) fun far => absurd near far,
        {}, rfl, rfl, rfl, fun told => told.resolve_right fun moved => moved rfl⟩
  next far =>
    exact ⟨fun _ => decided (fun near => absurd near far) fun _ => ⟨state, rfl⟩, {}, rfl, rfl, rfl, fun told => told.resolve_right fun moved => moved rfl⟩

/-- R161: a sample counted in LOCKED. -/
theorem Station.countSample_locked {s : Station} (state : s.servo.state = .locked) (e : Int) :
    Counted s (s.countSample e) e := by
  let u : Station := { s with servo := { s.servo with outCount := s.servo.outCount + 1 } }
  let v : Station := ({ u with servo := { u.servo with inCount := 0 } } : Station).startUnlocked
  have count : s.countSample e =
      if e.natAbs ≤ 500 then { s with servo := { s.servo with outCount := 0 } }
      else if 2 ≤ s.servo.outCount + 1 then v.setServoState .acquire else u := by
    unfold Station.countSample
    dsimp only
    rw [if_neg (by rw [state]; nofun)]
    split
    next other => rw [state] at other; cases other
    · rfl
    all_goals next other => rw [state] at other; cases other
  have decided {t : Station}
      (near : e.natAbs ≤ 500 → t.servo.state = .locked ∧ t.servo.outCount = 0)
      (far : ¬ e.natAbs ≤ 500 →
        (s.servo.outCount + 1 < 2 → t.servo.state = .locked ∧ t.servo.outCount = s.servo.outCount + 1) ∧
        (2 ≤ s.servo.outCount + 1 → t.servo.state = .acquire ∧ t.servo.inCount = 0 ∧
          t.servo.unlocked = .running (s.localTime + 1000000000))) : LockDecided s t e :=
    ⟨fun away => absurd state away, fun away => absurd state away, fun _ low high => near (by omega),
      fun _ out => far (by omega)⟩
  rw [count]
  split
  next near =>
    exact ⟨fun _ => decided (fun _ => ⟨state, rfl⟩) fun far => absurd near far, {}, rfl, rfl, rfl, fun told => told.resolve_right fun moved => moved rfl⟩
  next far =>
    split
    next two =>
      have servo := v.setServoState_servo .acquire
      have frame : SampleFrame s (v.setServoState .acquire) := SampleFrame.trans {} (v.setServoState_sample .acquire)
      have told := v.setServoState_told .acquire
      have time := v.setServoState_time .acquire
      have roster := (v.setServoState_frame .acquire).roster
      generalize v.setServoState .acquire = t at *
      refine ⟨fun _ => decided (fun near => absurd near far) fun _ => ⟨fun few => absurd two (by omega), fun _ => ?_⟩, frame,
        time, roster, ?_, told⟩
      · rw [servo]
        exact ⟨rfl, rfl, rfl⟩
      · rw [servo]
        rfl
    next few =>
      exact ⟨fun _ => decided (fun near => absurd near far) fun _ => ⟨fun _ => ⟨state, rfl⟩, fun two => absurd two few⟩, {}, rfl,
        rfl, rfl, fun told => told.resolve_right fun moved => moved rfl⟩

/-- R161: a sample counted in FREE first makes the state ACQUIRE. -/
theorem Station.countSample_free {s : Station} (state : s.servo.state = .free) (e : Int) : Counted s (s.countSample e) e := by
  let u := s.setServoState .acquire
  have servo : u.servo = { s.servo with state := .acquire } := s.setServoState_servo .acquire
  have acquired : u.servo.state = .acquire := by rw [servo]
  have frame := s.setServoState_sample .acquire
  have told : TimingTold u := s.setServoState_told .acquire (.inr (by rw [servo, state]; nofun))
  have count : s.countSample e = u.countSample e := by
    unfold Station.countSample
    dsimp only
    rw [if_pos state, if_neg (show ¬ u.servo.state = .free by rw [acquired]; nofun)]
  have source (same : s.sel.source = s.servo.source) : u.sel.source = u.servo.source := by
    rw [frame.sel, servo]
    exact same
  obtain ⟨lock, frame', time, roster, servo', told'⟩ := u.countSample_acquire acquired e
  rw [count]
  generalize u.countSample e = t at *
  have away : u.servo.state ≠ .locked := by rw [acquired]; nofun
  have unlocked : s.servo.state ≠ .locked := by rw [state]; nofun
  refine ⟨fun same => ⟨fun _ low high => ?_, fun _ => (lock (source same)).2.1 away,
    fun locked => absurd locked unlocked, fun locked => absurd locked unlocked⟩, frame.trans frame', time.trans (s.setServoState_time .acquire),
    roster.trans (s.setServoState_frame .acquire).roster, ?_, fun _ => told' (.inl told)⟩
  · have decided := (lock (source same)).1 away low high
    rw [servo] at decided
    exact decided
  · rw [servo', servo]

theorem Station.countSample_counted {s : Station} (away : s.servo.state ≠ .holdover) (e : Int) : Counted s (s.countSample e) e := by
  cases state : s.servo.state with
  | free => exact Station.countSample_free state e
  | acquire => exact Station.countSample_acquire state e
  | locked => exact Station.countSample_locked state e
  | holdover => exact absurd state away

end Sys2Proof.Machine
end

section
/-! SUPPORT. A sample judged (R125, R158 to R161, R164): slewed, deferred or stepped. -/

-- One theorem after another: the check's data limit has no room for a thread for each.
set_option Elab.async false

open Sys2Proof Sys2Proof.Machine Sys2Proof.Safety Sys2Proof.Slice0

namespace Sys2Proof.Machine

/-! ### Numbers (R117, R155, R160) -/

theorem clampInt_eq_within {m : Int} (h : 0 ≤ m) (x : Int) : clampInt m x = within m x := by
  unfold clampInt within
  omega

/-- R155: the model's signed difference is the statements'. -/
theorem signedDiff_eq (x y : Nat) : signedDiff x y = asSigned ((x : Int) - y) := by
  unfold signedDiff asSigned
  simp only [Config.timeRange, Nat.reduceDiv]
  omega

theorem Stamp.total_ofTotal (n : Nat) : (Stamp.ofTotal n).total = n % 4294967296000000000 := by
  show n % Config.timeRange / Config.nsPerSec * Config.nsPerSec + n % Config.timeRange % Config.nsPerSec = _
  rw [Nat.mul_comm, Nat.div_add_mod]
  rfl

/-- R160: the error limit of a sample. -/
def errorLimit (s : Station) (d : Int) : Int :=
  if s.servo.state = .locked ∧ (d < -1000 ∨ 1000 < d) then 1000 else 1000000

theorem clampOf_eq (s : Station) (d : Int) : clampOf s.servo.state d = errorLimit s d := by
  unfold clampOf errorLimit
  have size : 1000 < d.natAbs ↔ d < -1000 ∨ 1000 < d := by omega
  simp only [Bool.and_eq_true, decide_eq_true_eq, size]

theorem errorLimit_nonneg (s : Station) (d : Int) : 0 ≤ errorLimit s d := by
  unfold errorLimit
  split <;> decide

/-! ### A slewed sample (R160, R161, R164) -/

/-- R160, R161: I, A and the lock decision of a slewed sample of error `e`. -/
structure Slewed (s t : Station) (f d e : Int) (deferred : Bool) : Prop where
  i : t.servo.i = if e = d then within 100000 (s.servo.i + (f * e).tdiv 64) else s.servo.i
  a : t.servo.a = within 100000 (t.servo.i + (f * e).tdiv 4)
  time : t.time = { s.time with a := t.servo.a }
  lock : s.sel.source = s.servo.source → LockDecided s t e
  sample : t.servo.lastSample = some ⟨d, some e, if deferred then .deferred else .slewed⟩
  offset : -500 ≤ e → e ≤ 500 → t.alarm.has timeOffsetHigh = false
  told : t.servo.state ≠ s.servo.state → TimingTold t
  frame : SampleFrame s t
  roster : t.roster = s.roster

theorem lockDecided_congr {s t t' : Station} {e : Int} (h : LockDecided s t e) (servo : t'.servo = t.servo)
    (sel : t'.sel.lockedSource = t.sel.lockedSource)
    (quiet : ∀ code, code = referenceLost ∨ code = holdoverExpired → t.alarm.has code = false → t'.alarm.has code = false) :
    LockDecided s t' e := by
  obtain ⟨near, far, inside, out⟩ := h
  unfold LockDecided
  rw [servo, sel]
  refine ⟨fun away low high => ⟨(near away low high).1, fun four => ?_⟩, far, inside, out⟩
  obtain ⟨state, inCount, outCount, unlocked, locked, lost, expired⟩ := (near away low high).2 four
  exact ⟨state, inCount, outCount, unlocked, locked, quiet _ (.inl rfl) lost, quiet _ (.inr rfl) expired⟩

theorem TimingTold.congr {s t : Station} (h : TimingTold s) (port : t.port = s.port) : TimingTold t := by
  unfold TimingTold
  rw [port]
  exact h

theorem Station.slewSample_slewed {s : Station} (away : s.servo.state ≠ .holdover) (f d : Int) (deferred : Bool) :
    Slewed s (s.slewSample f d deferred) f d (within (errorLimit s d) d) deferred := by
  let e := within (errorLimit s d) d
  let i := if e = d then within 100000 (s.servo.i + (f * e).tdiv 64) else s.servo.i
  let a := within 100000 (i + (f * e).tdiv 4)
  let w : Station := ({ s with servo := { s.servo with
    i := i, lastSample := some ⟨d, some e, if deferred then .deferred else .slewed⟩ } } : Station).handRate a
  have rates : slew s.servo.i d (clampOf s.servo.state d) f = (i, a) := by
    unfold slew
    simp only [clampOf_eq, clampInt_eq_within (errorLimit_nonneg s d)]
    simp only [clampInt_eq_within (show (0 : Int) ≤ Config.rateLimit by decide)]
    rfl
  have error : clampInt (clampOf s.servo.state d) d = e := by
    rw [clampOf_eq, clampInt_eq_within (errorLimit_nonneg s d)]
  have taken : s.slewSample f d deferred = (w.countSample e).clearOffsetHigh e := by
    unfold Station.slewSample
    dsimp only
    rw [rates, error]
  obtain ⟨lock, frame, time, roster, servo, told⟩ := Station.countSample_counted (s := w) away e
  rw [taken]
  generalize w.countSample e = c at *
  have start : SampleFrame s w := {}
  have lock' : s.sel.source = s.servo.source → LockDecided s c e := lock
  unfold Station.clearOffsetHigh
  split
  next small =>
    have cf := c.clearInternal_frame timeOffsetHigh
    have cleared := c.clearInternal_cleared timeOffsetHigh
    generalize c.clearInternal timeOffsetHigh = t at *
    refine ⟨by rw [cf.servo, servo]; rfl, by rw [cf.servo, servo]; rfl, by rw [cf.time, cf.servo, time, servo]; rfl,
      fun same => lockDecided_congr (lock' same) cf.servo (by rw [cf.sel]) fun code hc =>
        AlarmUnit.not_has_of_cleared_other cleared (by rcases hc with rfl | rfl <;> decide),
      by rw [cf.servo, servo]; rfl, fun _ _ => AlarmUnit.not_has_of_cleared cleared (by decide), fun moved => ?_,
      (start.trans frame).trans cf.sample, cf.roster.trans roster⟩
    rw [cf.servo] at moved
    exact (told (.inr moved)).congr cf.port
  next large =>
    exact ⟨by rw [servo]; rfl, by rw [servo]; rfl, by rw [time, servo]; rfl, lock', by rw [servo]; rfl,
      fun low high => absurd (show e.natAbs ≤ 500 by omega) large, fun moved => told (.inr moved), start.trans frame,
      roster⟩

/-! ### A step (R58, R125, R158) -/

theorem Station.stepTime_spec (s : Station) (d : Int) :
    let t := s.stepTime d
    t.time = s.time.step d ∧ t.servo = s.servo ∧ t.port.timingCause = true ∧ t.sel.steppedPrevious = true ∧
      t.sel.steppedCurrent = true ∧ SampleFrame s t ∧ ∀ p, t.peer p = (s.peer p).voidStamp := by
  obtain ⟨stamps, peers⟩ := s.voidStamps_spec
  unfold Station.stepTime
  dsimp only
  generalize s.voidStamps = v at *
  have roster : v = { s with roster := v.roster } := stamps.trans (by rw [stamps])
  refine ⟨?_, ?_, rfl, rfl, rfl, ?_, peers⟩
  · rw [roster]
    rfl
  · rw [roster]
    rfl
  · rw [roster]
    exact {}

/-- R125: T + D, modulo the range of T. -/
theorem TimeBase.step_total (t : TimeBase) (d : Int) :
    ((t.step d).total : Int) = (t.total + d) % 4294967296000000000 := by
  have total : (t.step d).total = (Stamp.ofTotal (((t.total : Int) + d) % (Config.timeRange : Int)).toNat).total := rfl
  rw [total, Stamp.total_ofTotal]
  simp only [Config.timeRange]
  omega

/-- R58, R125: the stamps of the beacon records stand, or a step has made each void. -/
def StampsFollow (air : Bool) (s t : Station) : Prop :=
  t.time.stepCount = s.time.stepCount ∧ (∀ p, t.peer p = s.peer p) ∨
    t.time.stepCount ≠ s.time.stepCount ∧ air = false ∧ ∀ p, t.peer p = (s.peer p).voidStamp

theorem Station.takeStep_stepped (s : Station) (d : Int) :
    let t := s.takeStep d
    SteppedBy s t d ∧ SampleFrame s t ∧ StampsFollow false s t := by
  obtain ⟨time, servo, told, previous, current, frame, peers⟩ := s.stepTime_spec d
  have taken : s.takeStep d = (({ s.stepTime d with servo := { (s.stepTime d).servo with
    inCount := 0, lastSample := some ⟨d, none, .stepped⟩ } } : Station).handRate (s.stepTime d).servo.i).setServoState
      .acquire := rfl
  dsimp only
  rw [taken]
  generalize s.stepTime d = v at *
  let w : Station := ({ v with servo := { v.servo with
    inCount := 0, lastSample := some ⟨d, none, .stepped⟩ } } : Station).handRate v.servo.i
  have vw : SampleFrame v w := {}
  have wt := w.setServoState_sample .acquire
  have tservo := w.setServoState_servo .acquire
  have ttime := w.setServoState_time .acquire
  have troster := (w.setServoState_frame .acquire).roster
  have ttold := Station.setServoState_timingTold (s := w) told .acquire
  have tsel : (w.setServoState .acquire).sel = w.sel := by
    unfold Station.setServoState
    split <;> rfl
  show SteppedBy s (w.setServoState .acquire) d ∧ SampleFrame s (w.setServoState .acquire) ∧
    StampsFollow false s (w.setServoState .acquire)
  generalize w.setServoState .acquire = t at *
  have voided (p : Slot) : t.peer p = (s.peer p).voidStamp := (Station.peer_of_roster v t troster p).trans (peers p)
  have clock : t.time = { s.time.step d with a := s.servo.i } := by
    rw [ttime, ← time, ← servo]
    rfl
  have held : t.servo = { s.servo with
      state := .acquire, a := s.servo.i, inCount := 0, lastSample := some ⟨d, none, .stepped⟩ } := by
    rw [tservo, ← servo]
    rfl
  have turns : (s.time.stepCount + 1) % 65536 ≠ s.time.stepCount := by omega
  have hidden : ∀ (q : Slot) (b : BeaconRec), (t.peer q).beacon = some b → b.void = true := fun q b hb => by
    rw [voided q] at hb
    obtain ⟨r, -, rfl⟩ := Option.map_eq_some_iff.1 hb
    rfl
  refine ⟨?_, (frame.trans vw).trans wt, .inr ⟨by rw [clock]; exact turns, rfl, voided⟩⟩
  unfold SteppedBy
  rw [clock, held, tsel]
  exact ⟨s.time.step_total d, (s.time.step_inRange d).2.1, rfl, rfl, rfl, rfl, rfl, rfl, rfl, rfl, rfl, rfl, rfl, rfl,
    ttold, previous, current, hidden⟩

end Sys2Proof.Machine
end

section
/-! SUPPORT. A sample judged, and the reviews that keep the source afterwards (R142, R153, R158 to R161). -/

-- One theorem after another: the check's data limit has no room for a thread for each.
set_option Elab.async false

open Sys2Proof Sys2Proof.Machine Sys2Proof.Safety Sys2Proof.Slice0

namespace Sys2Proof.Machine

/-! ### The judgement (R158, R159) -/

/-- R158 to R161: the sample of difference `d` and rate factor `f` is judged, with what it leaves. -/
structure SampleTaken (s t : Station) (f d : Int) (air : Bool) : Prop where
  judged : s.sel.source = s.servo.source → Judged s t f d air
  frame : SampleFrame s t
  stamps : StampsFollow air s t

/-- R158: a step is asked for. -/
theorem wantsStep_iff (s : Station) (d : Int) :
    ((s.servo.state = .free || s.servo.state = .acquire) && decide (1000 < d.natAbs)) = true ↔ WantsStep s d := by
  unfold WantsStep
  have size : 1000 < d.natAbs ↔ d < -1000 ∨ 1000 < d := by omega
  simp [size]

theorem stampsFollow_of_slewed {s t : Station} {f d e : Int} {deferred : Bool} (air : Bool)
    (h : Slewed s t f d e deferred) : StampsFollow air s t :=
  .inl ⟨by rw [h.time], fun p => Station.peer_of_roster _ _ h.roster p⟩

/-- R160: a sample slewed because no step is asked for. -/
theorem Slewed.taken {s t : Station} {f d : Int} (h : Slewed s t f d (within (errorLimit s d) d) false)
    (no : ¬ WantsStep s d) (air : Bool) : SampleTaken s t f d air where
  judged := by
    refine fun same => ⟨fun wants => absurd wants no, fun _ => ?_, h.told, h.frame.source⟩
    have a := h.a
    have time := h.time
    rw [h.a, h.i] at time
    rw [h.i] at a
    exact ⟨h.i, a, time, h.lock same, fun _ => h.sample, fun wants => absurd wants no, fun wants => absurd wants no, h.offset⟩
  frame := h.frame
  stamps := stampsFollow_of_slewed air h

/-- R159, R164: a step deferred. -/
theorem Station.deferStep_taken {s : Station} (away : s.servo.state ≠ .holdover) (f : Int) {d : Int} (wants : WantsStep s d) : SampleTaken s (s.deferStep f d) f d true := by
  have h := s.slewSample_slewed away f d true
  have large : (d < -1000 ∨ 1000 < d) := wants.2
  have unlocked : errorLimit s d = 1000000 := by
    unfold errorLimit
    rw [if_neg]
    rintro ⟨locked, -⟩
    rcases wants.1 with free | acquire
    · cases free.symm.trans locked
    · cases acquire.symm.trans locked
  have error : within (errorLimit s d) d < -500 ∨ 500 < within (errorLimit s d) d := by
    rw [unlocked]
    unfold within
    omega
  have high : ¬ (d ≤ -1500 ∨ 1500 ≤ d) ∧ s.deferStep f d = s.slewSample f d true ∨
      s.deferStep f d = (s.slewSample f d true).raiseInternal timeOffsetHigh := by
    by_cases size : 1500 ≤ d.natAbs
    · exact .inr (if_pos size)
    · exact .inl ⟨by omega, if_neg size⟩
  generalize s.slewSample f d true = c at *
  have a := h.a
  have time := h.time
  rw [h.a, h.i] at time
  rw [h.i] at a
  rcases high with ⟨low, eq⟩ | eq
  · rw [eq]
    exact ⟨fun same => ⟨fun _ air => (by cases air), fun _ => ⟨h.i, a, time, h.lock same, fun no => absurd wants no, fun _ => h.sample,
      fun _ far => absurd far low, h.offset⟩, h.told, h.frame.source⟩, h.frame, stampsFollow_of_slewed true h⟩
  · have cf := c.raiseInternal_frame timeOffsetHigh
    have raised := c.raiseInternal_raised timeOffsetHigh (by decide)
    rw [eq]
    generalize c.raiseInternal timeOffsetHigh = t at *
    have has : t.alarm.has timeOffsetHigh = true := AlarmUnit.has_of_raised raised (by decide)
    have quiet (code : Word16) (hc : code = referenceLost ∨ code = holdoverExpired)
        (no : c.alarm.has code = false) : t.alarm.has code = false := by
      have full : code ≠ alarmViewFull := by rcases hc with rfl | rfl <;> decide
      have other : timeOffsetHigh ≠ code := by rcases hc with rfl | rfl <;> decide
      rw [c.alarm.has_eq_rest code full] at no
      rw [t.alarm.has_eq_rest code full]
      have rest : t.alarm.ownRest = if c.alarm.has timeOffsetHigh then c.alarm.ownRest else
        c.alarm.ownRest ++ [⟨timeOffsetHigh, internalSeverity timeOffsetHigh, none, c.time.sec⟩] := raised
      rw [rest]
      split
      · exact no
      · rw [List.any_append, no]
        simp [other]
    have outside : -500 ≤ within (errorLimit s d) d → within (errorLimit s d) d ≤ 500 →
        t.alarm.has timeOffsetHigh = false := fun low high => absurd error (by omega)
    have lock (same : s.sel.source = s.servo.source) :=
      lockDecided_congr (h.lock same) (t' := t) cf.servo (by rw [cf.sel]) quiet
    refine ⟨fun same => ⟨fun _ air => (by cases air), fun _ => ?_, fun moved => ?_, (congrArg Servo.source cf.servo).trans h.frame.source⟩,
      h.frame.trans cf.sample, .inl ⟨?_, fun p => ?_⟩⟩
    · exact ⟨(congrArg Servo.i cf.servo).trans h.i, (congrArg Servo.a cf.servo).trans a, cf.time.trans time, lock same,
        fun no => absurd wants no, fun _ => (congrArg Servo.lastSample cf.servo).trans h.sample, fun _ _ => has,
        outside⟩
    · rw [cf.servo] at moved
      exact (h.told moved).congr cf.port
    · rw [cf.time, h.time]
    · exact Station.peer_of_roster _ _ (cf.roster.trans h.roster) p

/-- R158 to R161: a sample in FREE, ACQUIRE or LOCKED. -/
theorem Station.judgeSample_taken {s : Station} (away : s.servo.state ≠ .holdover) (f d : Int) (air : Bool) :
    SampleTaken s (s.judgeSample f d air) f d air := by
  let u : Station := { s with pins := { s.pins with airActive := air } }
  have su : SampleFrame s u := {}
  have of_pins {t : Station} (h : SampleTaken u t f d air) : SampleTaken s t f d air :=
    ⟨h.judged, su.trans h.frame, h.stamps⟩
  unfold Station.judgeSample
  dsimp only
  split
  next yes =>
    have wants : WantsStep s d := (wantsStep_iff s d).1 yes
    cases air with
    | true =>
      rw [if_pos rfl]
      exact of_pins (Station.deferStep_taken (s := u) away f wants)
    | false =>
      rw [if_neg Bool.false_ne_true]
      obtain ⟨stepped, frame, stamps⟩ := u.takeStep_stepped d
      refine of_pins ⟨fun _ => ⟨fun _ _ => stepped, fun no => (no.resolve_right Bool.false_ne_true wants).elim, fun _ => ?_, frame.source⟩,
        frame, stamps⟩
      obtain ⟨-, -, -, -, -, -, -, -, -, -, -, -, -, -, told, -⟩ := stepped
      exact told
  next no =>
    have no' : ¬ WantsStep s d := fun wants => no ((wantsStep_iff s d).2 wants)
    exact (s.slewSample_slewed away f d false).taken no' air

/-! ### Reviews that keep the source (R142) -/

/-- R142: what reviews that keep the source leave as it was. -/
structure Steady (s t : Station) : Prop where
  servo : t.servo = s.servo
  time : t.time = s.time
  alarm : t.alarm = s.alarm
  cause : t.port.timingCause = s.port.timingCause
  roster : t.roster = s.roster
  seat : t.seat = s.seat
  localTime : t.localTime = s.localTime
  sel : t.sel = { s.sel with
    cands := t.sel.cands, announced := t.sel.announced, standing := t.sel.standing, lockRecord := t.sel.lockRecord
    beaconing := t.sel.beaconing, claim := t.sel.claim, interval := t.sel.interval }

theorem Steady.refl (s : Station) : Steady s s := ⟨rfl, rfl, rfl, rfl, rfl, rfl, rfl, rfl⟩

theorem Steady.trans {s t u : Station} (h : Steady s t) (g : Steady t u) : Steady s u where
  servo := g.servo.trans h.servo
  time := g.time.trans h.time
  alarm := g.alarm.trans h.alarm
  cause := g.cause.trans h.cause
  roster := g.roster.trans h.roster
  seat := g.seat.trans h.seat
  localTime := g.localTime.trans h.localTime
  sel := by rw [g.sel, h.sel]

theorem Station.review_steady {s : Station} (same : s.review.sel.source = s.sel.source) : Steady s s.review := by
  have f := s.review_frame
  obtain ⟨servo, time, port⟩ := s.review_beaconing.2.2.2.2.1 same
  have alarm : s.review.alarm = s.alarm := by
    have chosen : s.chosen.source = s.sel.source := s.review_source.1.symm.trans same
    rw [Station.review_of_same chosen, Station.decideBeaconing_alarm]
  have sel := s.review_sel
  rw [same] at sel
  exact ⟨servo, time, alarm, congrArg Port.timingCause port, f.roster, f.seat, f.localTime, sel⟩

/-- R142: reviews of a station of which `K` tells that they keep the source. -/
theorem Station.reviews_steady {K : Station → Prop}
    (keeps : ∀ u, K u → u.review.sel.source = u.sel.source ∧ K u.review) {s : Station} (h : K s) (n : Nat) :
    Steady s (s.reviews n) ∧ K (s.reviews n) :=
  reviews_keep (fun u => Steady s u ∧ K u)
    (fun u ⟨steady, k⟩ => ⟨steady.trans (Station.review_steady (keeps u k).1), (keeps u k).2⟩) s n ⟨.refl s, h⟩

theorem steppedBy_congr {s t t' : Station} {d : Int} (h : SteppedBy s t d) (g : Steady t t') : SteppedBy s t' d := by
  unfold SteppedBy at h ⊢
  have previous : t'.sel.steppedPrevious = t.sel.steppedPrevious := by rw [g.sel]
  have current : t'.sel.steppedCurrent = t.sel.steppedCurrent := by rw [g.sel]
  simp only [g.time, g.servo, g.cause, previous, current, Station.peer_of_roster t t' g.roster]
  exact h

/-- R142, R158: reviews that keep the source leave what the sample has made. -/
theorem judged_congr {s t t' : Station} {f d : Int} {air : Bool} (h : Judged s t f d air) (g : Steady t t') :
    Judged s t' f d air := by
  obtain ⟨steps, slews, told, source⟩ := h
  have locked : t'.sel.lockedSource = t.sel.lockedSource := by rw [g.sel]
  refine ⟨fun wants quiet => steppedBy_congr (steps wants quiet) g, fun no => ?_, ?_, ?_⟩
  · obtain ⟨i, a, time, lock, slewed, deferred, high, low⟩ := slews no
    dsimp only
    rw [g.servo, g.time, g.alarm]
    exact ⟨i, a, time, lockDecided_congr lock g.servo locked (fun code _ => by rw [g.alarm]; exact id), slewed, deferred,
      high, low⟩
  · rw [g.servo, g.cause]
    exact told
  · rw [g.servo]
    exact source

end Sys2Proof.Machine
end

section
/-! SUPPORT. Samples of the source that is followed (R134, R136, R141, R142, R153, R154, R157). -/

-- One theorem after another: the check's data limit has no room for a thread for each.
set_option Elab.async false

open Sys2Proof Sys2Proof.Machine Sys2Proof.Safety Sys2Proof.Slice0

namespace Sys2Proof.Machine

/-! ### The best candidate (R134, R136, R141) -/

/-- R134, R136: slot `q` with class `k` is a candidate, and every other candidate ranks below it. -/
structure Best (q : Slot) (k : Nat) (w : Station) : Prop where
  there : ∃ c ∈ w.sel.cands, c.slot = q
  now : CandidateNow w q k
  others : ∀ c ∈ w.sel.cands, c.slot ≠ q → ∀ j, CandidateNow w c.slot j → Above k q j c.slot
  noExternal : w.time.external = false ∨ w.sel.extPresent = false

theorem Best.mem_review {q : Slot} {k : Nat} {w : Station} (h : Best q k w) :
    ∃ x ∈ w.review.sel.cands, x.slot = q ∧ x.cls = k := by
  obtain ⟨c, hc, slot⟩ := h.there
  exact ⟨⟨q, k, c.deadline⟩, (w.mem_review_cands _).2 ⟨h.now, c, hc, slot, rfl⟩, rfl, rfl⟩

/-- R141: the best candidate is the source where it ranks above the standing class. -/
theorem Best.review_source {q : Slot} {k : Nat} {w : Station} (h : Best q k w)
    (above : Above k q w.sel.standing w.seat.slot) : w.review.sel.source = .bus q := by
  obtain ⟨x, hx, slot, cls⟩ := h.mem_review
  obtain ⟨b, rest, split⟩ := List.exists_cons_of_ne_nil (List.ne_nil_of_mem hx)
  have sorted := w.review_cands_sorted
  have hb : b ∈ w.review.sel.cands := split ▸ List.mem_cons_self
  obtain ⟨bnow, y, hy, yslot, -⟩ := (w.mem_review_cands b).1 hb
  have first : b.slot = q := by
    by_contra other
    have below : Above k q b.cls b.slot := by
      have := h.others y hy (fun same => other (yslot.symm.trans same)) b.cls (yslot.symm ▸ bnow)
      rwa [yslot] at this
    rw [split] at hx sorted
    rcases List.mem_cons.1 hx with rfl | behind
    · exact other slot
    · have notBelow : NotBelow b x := (List.pairwise_cons.1 sorted).1 x behind
      simp only [NotBelow, slot, cls, Fin.le_def] at notBelow
      simp only [Above, Fin.lt_def] at below
      have differ : b.slot.val ≠ q.val := fun same => other (Fin.ext same)
      omega
  have same : b.cls = k := by
    obtain ⟨-, -, -, cls₁, -⟩ := bnow
    obtain ⟨-, -, -, cls₂, -⟩ := h.now
    rw [first, cls₂] at cls₁
    exact (Option.some.inj cls₁).symm
  have chosen := ((w.chooseSource_bus w.review.sel.cands h.noExternal).2 b rest split).1
  rw [first, same] at chosen
  exact w.review_source_eq.trans (chosen above)

/-- R141: slot `q` is followed, with a class that ranks above every standing class of a follower. -/
structure Follows (q : Slot) (k : Nat) (w : Station) : Prop where
  best : Best q k w
  source : w.sel.source = .bus q
  low : k ≤ 12
  standing : 13 ≤ w.sel.standing

theorem Follows.review {q : Slot} {k : Nat} {w : Station} (h : Follows q k w) :
    w.review.sel.source = w.sel.source ∧ Follows q k w.review := by
  have source := h.best.review_source (.inl (by have := h.low; have := h.standing; omega))
  have same := source.trans h.source.symm
  have steady := Station.review_steady same
  have f := w.review_frame
  have standing := Station.review_standing_bus source
  obtain ⟨⟨there, now, others, noExternal⟩, -, low, -⟩ := h
  obtain ⟨x, hx, slot, -⟩ := Best.mem_review ⟨there, now, others, noExternal⟩
  refine ⟨same, ⟨⟨x, hx, slot⟩, (candidateNow_congr f.roster).2 now, fun c hc other j hj => ?_, ?_⟩, source, low, ?_⟩
  · obtain ⟨-, y, hy, yslot, -⟩ := (w.mem_review_cands c).1 hc
    rw [← yslot] at other hj ⊢
    exact others y hy other j ((candidateNow_congr f.roster).1 hj)
  · rw [steady.time, f.selExt]
    exact noExternal
  · rw [standing]
    split <;> decide

/-- R141, R157: external time is followed. -/
structure FollowsExternal (w : Station) : Prop where
  used : w.time.external = true
  signal : w.sel.extPresent = true
  source : w.sel.source = .external

theorem FollowsExternal.review {w : Station} (h : FollowsExternal w) :
    w.review.sel.source = w.sel.source ∧ FollowsExternal w.review := by
  have source : w.review.sel.source = .external :=
    w.review_source_eq.trans ((w.chooseSource_external _).2 ⟨h.used, h.signal⟩)
  have same := source.trans h.source.symm
  have steady := Station.review_steady same
  exact ⟨same, ⟨by rw [steady.time]; exact h.used, w.review_frame.selExt.trans h.signal, source⟩⟩

/-! ### A sample keeps what is followed -/

theorem candidateNow_of_stamps {air : Bool} {s t : Station} (h : StampsFollow air s t) (p : Slot) (k : Nat) :
    CandidateNow t p k ↔ CandidateNow s p k := by
  rcases h with ⟨-, peers⟩ | ⟨-, -, peers⟩
  · unfold CandidateNow
    rw [peers]
  · exact candidateNow_voidStamp peers p k

theorem Follows.sample {q : Slot} {k : Nat} {s t : Station} {f d : Int} {air : Bool} (h : Follows q k s)
    (taken : SampleTaken s t f d air) : Follows q k t := by
  obtain ⟨⟨there, now, others, noExternal⟩, source, low, standing⟩ := h
  have sel := taken.frame.sel
  have stamps := candidateNow_of_stamps taken.stamps
  refine ⟨⟨?_, (stamps q k).2 now, fun c hc other j hj => ?_, ?_⟩, ?_, low, ?_⟩
  · rw [sel]; exact there
  · rw [sel] at hc
    exact others c hc other j ((stamps _ _).1 hj)
  · rw [taken.frame.external, sel]; exact noExternal
  · rw [sel]; exact source
  · rw [sel]; exact standing

theorem FollowsExternal.sample {s t : Station} {f d : Int} {air : Bool} (h : FollowsExternal s)
    (taken : SampleTaken s t f d air) : FollowsExternal t := by
  have sel := taken.frame.sel
  refine ⟨taken.frame.external.trans h.used, ?_, ?_⟩ <;> rw [sel]
  · exact h.signal
  · exact h.source

/-! ### The beacon of a source that a review keeps (R57, R153, R154) -/

/-- R57, R136: the station with the record of a BEACON, and the candidate set that follows it. -/
def beaconHeard (s : Station) (p : Slot) (seq : Byte) (cls : Nat) (stamp : RxStamp) : Station :=
  (s.setPeer p { s.peer p with
    beacon := some ⟨seq, stamp.stamp, stamp.void, cls, s.localTime⟩, cls := some cls }).renewCandidate p

theorem Station.reviews_one_of_kept {w : Station} (kept : w.review.sel.source = w.sel.source) :
    w.reviews 1 = w.review := by
  have servo : w.review.servo = w.servo := (Station.review_steady kept).servo
  rw [w.reviews_one, servo]
  have none : servoEvents w.servo w.servo = 0 := by
    unfold servoEvents
    cases w.servo.expired <;> simp
  rw [none]
  rfl

/-- R142: where the servo stays no review follows. -/
theorem Station.thenReviews_of_same {s : Station} {f : Station → Station} (h : f s = s) : s.thenReviews f = s := by
  have none : servoEvents s.servo s.servo = 0 := by
    unfold servoEvents
    cases s.servo.expired <;> simp
  unfold Station.thenReviews
  dsimp only
  rw [h, none]
  rfl

/-- R153, log 26: a review that keeps the source comes before the servo's sample. -/
theorem Station.takeBeacon_kept {s : Station} {p : Slot} {seq : Byte} {cls : Nat} {stamp : RxStamp}
    (kept : (beaconHeard s p seq cls stamp).review.sel.source = (beaconHeard s p seq cls stamp).sel.source)
    (previous : Option Stamp) (stepped air : Bool) :
    s.takeBeacon p seq cls previous stepped stamp air =
      (beaconHeard s p seq cls stamp).review.thenReviews fun u =>
        u.busSample p previous stepped seq (s.peer p).beacon air := by
  have stays : (beaconHeard s p seq cls stamp).reviewMovesSource = false := by
    have chosen : (beaconHeard s p seq cls stamp).chosen.source = (beaconHeard s p seq cls stamp).sel.source :=
      (beaconHeard s p seq cls stamp).review_source.1.symm.trans kept
    unfold Station.reviewMovesSource
    simp [chosen]
  rw [← Station.reviews_one_of_kept kept]
  exact if_neg (Bool.eq_false_iff.1 stays)

/-- R57, R136: what a BEACON's record brings of the candidates. -/
theorem candidateNow_beaconHeard {s : Station} {p q : Slot} (seq : Byte) (cls : Nat) (stamp : RxStamp) (other : q ≠ p)
    (k : Nat) : CandidateNow (beaconHeard s p seq cls stamp) q k ↔ CandidateNow s q k := by
  have record : (beaconHeard s p seq cls stamp).peer q = s.peer q := s.peer_setPeer_other _ p q other
  unfold CandidateNow
  rw [record]

theorem beaconHeard_peer (s : Station) (p : Slot) (seq : Byte) (cls : Nat) (stamp : RxStamp) :
    (beaconHeard s p seq cls stamp).peer p = { s.peer p with
      beacon := some ⟨seq, stamp.stamp, stamp.void, cls, s.localTime⟩, cls := some cls } :=
  s.peer_setPeer_same p _

/-- R136: of the other slots the candidates are as before. -/
theorem mem_beaconHeard_other {s : Station} {p : Slot} {seq : Byte} {cls : Nat} {stamp : RxStamp} {c : Candidate}
    (h : c ∈ (beaconHeard s p seq cls stamp).sel.cands) (other : c.slot ≠ p) : c ∈ s.sel.cands := by
  rcases Station.renewCandidate_mem h with ⟨slot, -⟩ | ⟨-, mem⟩
  · exact absurd slot other
  · exact mem

theorem mem_beaconHeard_of_other {s : Station} {p : Slot} (seq : Byte) (cls : Nat) (stamp : RxStamp) {c : Candidate}
    (h : c ∈ s.sel.cands) (other : c.slot ≠ p) : c ∈ (beaconHeard s p seq cls stamp).sel.cands := by
  have stays : c ∈ dropCandidate s.sel.cands p := List.mem_filter.2 ⟨h, by simp [other]⟩
  let u : Station := s.setPeer p { s.peer p with
    beacon := some ⟨seq, stamp.stamp, stamp.void, cls, s.localTime⟩, cls := some cls }
  show c ∈ (u.renewCandidate p).sel.cands
  unfold Station.renewCandidate
  cases u.candidateOf p with
  | none => exact stays
  | some x => exact mem_insertCandidate.2 (.inr stays)

/-- R136, R137: the slot whose beacon is heard enters the set. -/
theorem beaconHeard_candidate {s : Station} {p : Slot} {seq : Byte} {cls : Nat} {stamp : RxStamp}
    (present : (s.peer p).state = .present) (unbarred : (s.peer p).barredUntil = none) (low : cls ≤ 13) :
    CandidateNow (beaconHeard s p seq cls stamp) p cls ∧
      ∃ c ∈ (beaconHeard s p seq cls stamp).sel.cands, c.slot = p := by
  have now : CandidateNow (beaconHeard s p seq cls stamp) p cls := by
    unfold CandidateNow
    rw [beaconHeard_peer]
    exact ⟨present, unbarred, rfl, rfl, low⟩
  refine ⟨now, ?_⟩
  let u : Station := s.setPeer p { s.peer p with
    beacon := some ⟨seq, stamp.stamp, stamp.void, cls, s.localTime⟩, cls := some cls }
  have cls_ : u.candidateClass p = some cls := (u.candidateClass_iff p cls).2 now
  have beacon : (u.peer p).beacon = some ⟨seq, stamp.stamp, stamp.void, cls, s.localTime⟩ :=
    congrArg Peer.beacon (s.peer_setPeer_same p _)
  have new : u.candidateOf p = some ⟨p, cls, s.localTime + Config.fresh⟩ := by
    unfold Station.candidateOf
    rw [cls_, beacon]
    exact if_pos (Nat.lt_add_of_pos_right (by decide))
  refine ⟨⟨p, cls, s.localTime + Config.fresh⟩, ?_, rfl⟩
  show _ ∈ (u.renewCandidate p).sel.cands
  unfold Station.renewCandidate
  dsimp only
  rw [new]
  exact mem_insertCandidate.2 (.inl rfl)

/-- R134, R136: the beacon heard is that of the best candidate. -/
theorem best_beaconHeard {s : Station} {p : Slot} {seq : Byte} {cls : Nat} {stamp : RxStamp}
    (present : (s.peer p).state = .present) (unbarred : (s.peer p).barredUntil = none) (low : cls ≤ 13)
    (below : OthersBelow s cls p) (noExternal : s.time.external = false ∨ s.sel.extPresent = false) :
    Best p cls (beaconHeard s p seq cls stamp) := by
  obtain ⟨now, there⟩ := beaconHeard_candidate (seq := seq) (stamp := stamp) present unbarred low
  refine ⟨there, now, fun c hc other j hj => ?_, noExternal⟩
  exact below c (mem_beaconHeard_other hc other) other j ((candidateNow_beaconHeard seq cls stamp other j).1 hj)

end Sys2Proof.Machine
end

section
/-! SUPPORT. The samples and the pairs that form none (R154, R155, R157 to R161). -/

-- One theorem after another: the check's data limit has no room for a thread for each.
set_option Elab.async false

open Sys2Proof Sys2Proof.Machine Sys2Proof.Safety Sys2Proof.Slice0

namespace Sys2Proof.Machine

/-! ### The whole of a sample, from the event to its closing -/

/-- The sample is judged on the servo, the time and the local time of its station. -/
theorem judged_congr_left {s s' t : Station} {f d : Int} {air : Bool} (h : Judged s' t f d air)
    (servo : s'.servo = s.servo) (time : s'.time = s.time) (now : s'.localTime = s.localTime) : Judged s t f d air := by
  unfold Judged WantsStep SteppedBy LockDecided at *
  simp only [servo, time, now] at h
  exact h

/-- R70, R122: the close of an event leaves what the sample has made. -/
theorem closing_steady (s : Station) : Steady s (closing s) := by
  have f := s.renewOffer_spec.1
  have cause : s.renewOffer.port.timingCause = s.port.timingCause := by rw [f.port]
  have sel : s.renewOffer.sel = s.sel := f.sel
  obtain ⟨servo, time, alarm, roster, seat, now⟩ := And.intro f.servo <| And.intro f.time <| And.intro f.alarm <|
    And.intro f.roster <| And.intro f.seat f.localTime
  unfold closing
  generalize s.renewOffer = u at *
  refine ⟨servo, time, alarm, cause, roster, seat, now, ?_⟩
  have driven : u.drive.sel = s.sel := sel
  rw [driven]

/-- R142, R153: a sample with its reviews, where they keep the source. -/
theorem Station.thenReviews_judged {K : Station → Prop}
    (keeps : ∀ u, K u → u.review.sel.source = u.sel.source ∧ K u.review) {s : Station} {f d : Int} {air : Bool}
    (k : ∀ t, SampleTaken s t f d air → K t) (away : s.servo.state ≠ .holdover) (same : s.sel.source = s.servo.source)
    {g : Station → Station} (sample : g s = s.judgeSample f d air) :
    Judged s (closing (s.thenReviews g)) f d air ∧
      (closing (s.thenReviews g)).servo.announcement = s.servo.announcement ∧
      (closing (s.thenReviews g)).servo.extLoss = s.servo.extLoss := by
  have taken := Station.judgeSample_taken away f d air
  have reviewed : s.thenReviews g = (g s).reviews (servoEvents s.servo (g s).servo) := rfl
  rw [reviewed, sample]
  generalize s.judgeSample f d air = t at *
  have steady := (Station.reviews_steady keeps (k t taken) (servoEvents s.servo t.servo)).1.trans (closing_steady _)
  generalize closing (t.reviews (servoEvents s.servo t.servo)) = u at *
  refine ⟨judged_congr (taken.judged same) steady, ?_, ?_⟩ <;> rw [steady.servo]
  · exact taken.frame.announcement
  · exact taken.frame.extLoss

/-! ### The event of a BEACON whose source a review keeps (R57, R153) -/

/-- R57: the record that a BEACON of slot `p` renews. -/
def afterBeacon (s : State) (p : Slot) (f : RxFrame) (cls : Nat) : Station :=
  beaconHeard ((marked s.toStation).settle p) p f.seq cls s.startStamp

theorem settle_present {s : Station} {p : Slot} (present : (s.peer p).state = .present) :
    s.settle p = s.setPeer p { s.peer p with lastHeard := some s.localTime } := by
  unfold Station.settle
  dsimp only
  rw [present]

/-- R47, R57, R153: the event of a BEACON from a PRESENT slot, where the review keeps the source. -/
theorem exec_beacon_kept {s : State} {key : Byte} {p : Slot} {f : RxFrame} {cls : Nat} {previous : Option Stamp}
    {stepped : Bool} (air : Bool) (h : Hears s key p f (.beacon cls previous stepped))
    (present : (s.peer p).state = .present)
    (kept : (afterBeacon s p f cls).review.sel.source = (afterBeacon s p f cls).sel.source) :
    exec (.frameHandover f air) s = .next { s with
      toStation := closing ((afterBeacon s p f cls).review.thenReviews fun u =>
        u.busSample p previous stepped f.seq (s.peer p).beacon air) } := by
  have slot := h.receiving.source
  subst slot
  have there : (s.peer (keySlot key)).state ≠ .left := by rw [present]; nofun
  have run := exec_frameHandover_heard air h (fun _ => nofun) (.inr there)
  have record : ((marked s.toStation).settle (keySlot key)).peer (keySlot key) =
      { s.peer (keySlot key) with lastHeard := some s.localTime } := by
    rw [settle_present (s := marked s.toStation) present]
    exact Station.peer_setPeer_same _ _ _
  have taken := Station.takeBeacon_kept kept previous stepped air
  rw [record] at taken
  exact run.trans (congrArg (fun u => Host.Outcome.next { s with toStation := closing u }) taken)

/-- R57: what the servo and the selector have of the station when the beacon's record stands. -/
theorem afterBeacon_spec {s : State} {p : Slot} (present : (s.peer p).state = .present) (f : RxFrame) (cls : Nat) :
    let w := afterBeacon s p f cls
    w.servo = s.servo ∧ w.time = s.time ∧ w.localTime = s.localTime ∧ w.seat = s.seat ∧
      w.sel = { s.sel with cands := w.sel.cands } := by
  have settled := settle_present (s := marked s.toStation) present
  dsimp only
  unfold afterBeacon
  rw [settled]
  exact ⟨rfl, rfl, rfl, rfl, rfl⟩

/-- R134, R136: the candidates as the settled record leaves them. -/
theorem settled_candidates {s : State} {p : Slot} (present : (s.peer p).state = .present)
    (unbarred : (s.peer p).barredUntil = none) :
    let v := (marked s.toStation).settle p
    (v.peer p).state = .present ∧ (v.peer p).barredUntil = none ∧ v.sel = s.sel ∧ v.time = s.time ∧
      ∀ q k, CandidateNow v q k ↔ CandidateNow s.toStation q k := by
  have settled := settle_present (s := marked s.toStation) present
  have record : ((marked s.toStation).settle p).peer p = { s.peer p with lastHeard := some s.localTime } := by
    rw [settled]
    exact Station.peer_setPeer_same _ _ _
  have others (q : Slot) (h : q ≠ p) : ((marked s.toStation).settle p).peer q = s.peer q := by
    rw [settled]
    exact Station.peer_setPeer_other _ _ _ _ h
  refine ⟨by rw [record]; exact present, by rw [record]; exact unbarred, by rw [settled]; rfl, by rw [settled]; rfl,
    fun q k => ?_⟩
  unfold CandidateNow
  by_cases same : q = p
  · rw [same, record]
  · rw [others q same]

/-- R134, R136: the slot whose beacon is heard is followed on. -/
theorem follows_afterBeacon {s : State} {p : Slot} {f : RxFrame} {cls : Nat} (present : (s.peer p).state = .present)
    (unbarred : (s.peer p).barredUntil = none) (low : cls ≤ 12) (source : s.sel.source = .bus p)
    (below : OthersBelow s.toStation cls p) (standing : 13 ≤ s.sel.standing)
    (noExternal : s.time.external = false ∨ s.sel.extPresent = false) : Follows p cls (afterBeacon s p f cls) := by
  obtain ⟨present', unbarred', sel, time, now⟩ := settled_candidates present unbarred
  obtain ⟨-, -, -, -, wsel⟩ := afterBeacon_spec present f cls
  refine ⟨best_beaconHeard present' unbarred' (low.trans (by decide)) ?_ (by rw [sel, time]; exact noExternal), ?_, low, ?_⟩
  · intro c hc other k hk
    rw [sel] at hc
    exact below c hc other k ((now _ _).1 hk)
  · rw [wsel]; exact source
  · rw [wsel]; exact standing

/-- R134, R136: another slot that is followed ranks above the slot whose beacon is heard. -/
theorem best_afterBeacon {s : State} {p q : Slot} {f : RxFrame} {cls k : Nat} (present : (s.peer p).state = .present)
    (unbarred : (s.peer p).barredUntil = none) (other : q ≠ p)
    (noExternal : s.time.external = false ∨ s.sel.extPresent = false)
    (below : ∀ c ∈ s.sel.cands, c.slot ≠ q → c.slot ≠ p → ∀ j, CandidateNow s.toStation c.slot j → Above k q j c.slot)
    (there : ∃ c ∈ s.sel.cands, c.slot = q) (now : CandidateNow s.toStation q k) (above : Above k q cls p) :
    Best q k (afterBeacon s p f cls) := by
  obtain ⟨present', unbarred', sel, time, same⟩ := settled_candidates present unbarred
  let v := (marked s.toStation).settle p
  have others (c : Candidate) (hc : c ∈ (beaconHeard v p f.seq cls s.startStamp).sel.cands) (h : c.slot ≠ p) :
      c ∈ s.sel.cands := sel ▸ mem_beaconHeard_other hc h
  refine ⟨?_, (candidateNow_beaconHeard f.seq cls s.startStamp other k).2 ((same q k).2 now),
    fun c hc away j hj => ?_, ?_⟩
  · obtain ⟨c, hc, slot⟩ := there
    exact ⟨c, mem_beaconHeard_of_other _ _ _ (sel.symm ▸ hc) (by rw [slot]; exact other), slot⟩
  · by_cases own : c.slot = p
    · have cls_ : j = cls := by
        obtain ⟨-, -, -, j_, -⟩ := hj
        unfold afterBeacon at j_
        rw [own, beaconHeard_peer] at j_
        exact (Option.some.inj j_).symm
      rw [cls_, own]
      exact above
    · exact below c (others c hc own) away own j ((same _ _).1 ((candidateNow_beaconHeard f.seq cls s.startStamp own j).1 hj))
  · show v.time.external = false ∨ v.sel.extPresent = false
    rw [sel, time]
    exact noExternal

/-- R153, R154: a pair that forms no sample leaves the servo and the time, where the review keeps the source. -/
theorem no_sample {s : State} {key : Byte} {p : Slot} {f : RxFrame} {cls : Nat} {previous : Option Stamp}
    {stepped : Bool} (air : Bool) (h : Hears s key p f (.beacon cls previous stepped))
    (present : (s.peer p).state = .present)
    (kept : (afterBeacon s p f cls).review.sel.source = (afterBeacon s p f cls).sel.source)
    (none : ∀ u : Station, u.servo = s.servo → u.busDifference p previous stepped f.seq (s.peer p).beacon = none) :
    ∃ t, exec (.frameHandover f air) s = .next t ∧ t.servo = s.servo ∧ t.time = s.time := by
  have run := exec_beacon_kept air h present kept
  obtain ⟨servo, time, -⟩ := afterBeacon_spec present f cls
  have steady := Station.review_steady kept
  have quiet := none _ (steady.servo.trans servo)
  have stays : (afterBeacon s p f cls).review.thenReviews (fun u =>
      u.busSample p previous stepped f.seq (s.peer p).beacon air) = (afterBeacon s p f cls).review := by
    refine Station.thenReviews_of_same ?_
    unfold Station.busSample
    rw [quiet]
  rw [stays] at run
  have closed := closing_steady (afterBeacon s p f cls).review
  generalize closing (afterBeacon s p f cls).review = u at *
  exact ⟨_, run, closed.servo.trans (steady.servo.trans servo), closed.time.trans (steady.time.trans time)⟩

end Sys2Proof.Machine
end

section
/-! SUPPORT. Samples of external time and of the slot that is followed (R154, R155, R157 to R161). -/

-- One theorem after another: the check's data limit has no room for a thread for each.
set_option Elab.async false

open Sys2Proof Sys2Proof.Machine Sys2Proof.Safety Sys2Proof.Slice0

namespace Sys2Proof.Machine

theorem Servo.samples_of {v : Servo} (away : v.state ≠ .holdover) : v.samples = true := by
  unfold Servo.samples
  simp [away]

/-- R155: the path delay between two slots. -/
theorem pathDelay_eq (r own : Slot) (pitch : Nat) :
    pathDelay r own pitch = ((r.val : Int) - own.val).natAbs * pitch / 16 := by
  unfold pathDelay
  have apart : max r.val own.val - min r.val own.val = ((r.val : Int) - own.val).natAbs := by omega
  rw [apart]

/-- R154, R155: the difference that a pair measures. -/
theorem Station.busDifference_some {s : Station} {p : Slot} {tp : Stamp} {seq : Byte} {r : BeaconRec}
    (source : s.servo.source = .bus p) (away : s.servo.state ≠ .holdover) (clear : r.void = false)
    (next : seq = r.seq + 1) :
    s.busDifference p (some tp) false seq (some r) =
      some (asSigned ((tp.total : Int) + ((p.val : Int) - s.seat.slot.val).natAbs * s.servo.pitch / 16 - r.sp.total)) := by
  unfold Station.busDifference
  dsimp only
  rw [if_pos (by simp [source, Servo.samples_of away, clear, next]), signedDiff_eq, pathDelay_eq]
  push_cast
  rfl

/-- R154: a pair of another source, or that lacks one of the conditions, measures none. -/
theorem Station.busDifference_none {s : Station} {p : Slot} {previous : Option Stamp} {stepped : Bool} {seq : Byte}
    {record : Option BeaconRec}
    (h : s.servo.source ≠ .bus p ∨ s.servo.state = .holdover ∨ previous = none ∨ stepped = true ∨
      ∀ r, record = some r → r.void = true ∨ seq ≠ r.seq + 1) :
    s.busDifference p previous stepped seq record = none := by
  unfold Station.busDifference
  split
  next r tp =>
    refine if_neg fun all => ?_
    simp only [Bool.and_eq_true, decide_eq_true_eq, Bool.not_eq_true'] at all
    obtain ⟨⟨⟨⟨source, samples⟩, clear⟩, next⟩, unstepped⟩ := all
    rcases h with other | held | none | step | unfit
    · exact other source
    · unfold Servo.samples at samples
      simp [held] at samples
    · cases none
    · rw [step] at unstepped; cases unstepped
    · rcases unfit r rfl with void | gap
      · rw [void] at clear; cases clear
      · exact gap next
  · rfl

/-- R157: the sample of a valid pair of external time. -/
theorem Station.externalSample_judged {s : Station} (source : s.servo.source = .external)
    (away : s.servo.state ≠ .holdover) (second : Nat) (air : Bool) :
    s.externalSample second air =
      s.judgeSample 1 (asSigned ((second : Int) * 1000000000 - s.time.total)) air := by
  unfold Station.externalSample
  rw [if_pos (by simp [source, Servo.samples_of away]), signedDiff_eq]
  push_cast
  rfl

/-- R157: without a servo that follows external time and samples, a valid pair forms none. -/
theorem Station.externalSample_none {s : Station} (h : s.servo.source ≠ .external ∨ s.servo.state = .holdover)
    (second : Nat) (air : Bool) : s.externalSample second air = s := by
  unfold Station.externalSample
  refine if_neg fun both => ?_
  simp only [Bool.and_eq_true, decide_eq_true_eq] at both
  obtain ⟨source, samples⟩ := both
  rcases h with other | held
  · exact other source
  · unfold Servo.samples at samples
    simp [held] at samples

end Sys2Proof.Machine

namespace Sys2Proof.Slice0

/-- R129, R156, R157: a valid edge with the signal present. -/
theorem exec_edge_present {s : State} {x : Announcement} (air : Bool) (running : s.hold = false)
    (external : s.time.external = true) (present : s.servo.extPresent = true)
    (announced : s.servo.announcement = some x) (valid : s.localTime < x.arrival + 110000000) :
    exec (.extPpsEdge air) s = .next { s with
      toStation := closing (s.toStation.pairEdge.thenReviews fun t => t.externalSample x.second air) } := by
  have pairs : s.toStation.ppsEdge air =
      s.toStation.pairEdge.thenReviews fun t => t.externalSample x.second air := by
    rw [Station.ppsEdge_valid announced valid]
    exact if_pos present
  have run : exec (.extPpsEdge air) s = .next { s with toStation := closing (s.toStation.ppsEdge air) } :=
    State.run_offerEvent_due _ running external
  rw [run, pairs]

/-- Settles O38: a sample is judged between two reviews that keep the source, external time or the best candidate. -/
theorem samplesStepOrSlewTheTime : Obligations.SamplesStepOrSlewTheTime := by
  refine fun s air running => ⟨fun x away external signal present source followed announced valid => ?_,
    fun x external present announced valid unfit => ?_,
    fun key p f cls tp r away heard present low record clear next source followed below standing noExternal => ?_,
    fun key p f cls previous stepped heard present => ⟨fun source _ low below standing noExternal unfit => ?_,
      fun other => ⟨fun external signal source => ?_,
        fun q k apart source noExternal below there now above higher => ?_⟩⟩⟩
  · have run := exec_edge_present air running external present announced valid
    let u := s.toStation.pairEdge
    have follows : FollowsExternal u := ⟨external, signal, source⟩
    obtain ⟨judged, announcement, loss⟩ := Station.thenReviews_judged (s := u) (K := FollowsExternal)
      (fun _ h => h.review) (fun _ taken => follows.sample taken) away (source.trans followed.symm)
      (g := fun t => t.externalSample x.second air)
      (Station.externalSample_judged (s := u) followed away x.second air)
    generalize closing (u.thenReviews fun t => t.externalSample x.second air) = v at *
    exact ⟨_, run, announcement, loss, judged⟩
  · have run := exec_edge_present air running external present announced valid
    have none := Station.externalSample_none (s := s.toStation.pairEdge) unfit x.second air
    rw [Station.thenReviews_of_same (f := fun t => t.externalSample x.second air) none] at run
    have pair : s.toStation.pairEdge = { s.toStation with
        servo := { s.servo with announcement := .none, extLoss := some (s.localTime + 300000000) } } := by
      unfold Station.pairEdge
      rw [← present]
      rfl
    rw [pair] at run
    exact run
  · have unbarred := heard.unbarred
    have follows := follows_afterBeacon (f := f) present unbarred low source below standing noExternal
    obtain ⟨kept, follows'⟩ := follows.review
    have run := exec_beacon_kept air heard present kept
    obtain ⟨servo, time, now, seat, sel⟩ := afterBeacon_spec present f cls
    have steady := Station.review_steady kept
    rw [record] at run
    generalize afterBeacon s p f cls = w at *
    have wservo := steady.servo.trans servo
    have wseat := steady.seat.trans seat
    have wtime := steady.time.trans time
    have wnow := steady.localTime.trans now
    generalize w.review = v at *
    have away' : v.servo.state ≠ .holdover := by rw [wservo]; exact away
    have followed' : v.servo.source = .bus p := by rw [wservo]; exact followed
    have sample : v.busSample p (some tp) false f.seq (some r) air = v.judgeSample 16
        (asSigned ((tp.total : Int) + ((p.val : Int) - s.seat.slot.val).natAbs * s.servo.pitch / 16 - r.sp.total)) air := by
      unfold Station.busSample
      rw [Station.busDifference_some followed' away' clear next, wseat, wservo]
    obtain ⟨judged, -, -⟩ := Station.thenReviews_judged (K := Follows p cls) (fun _ h => h.review)
      (fun _ taken => follows'.sample taken) away' (follows'.source.trans followed'.symm)
      (g := fun u => u.busSample p (some tp) false f.seq (some r) air) sample
    generalize closing (v.thenReviews _) = t at *
    exact ⟨_, run, judged_congr_left judged wservo wtime wnow⟩
  · obtain ⟨kept, -⟩ := (follows_afterBeacon (f := f) present heard.unbarred low source below standing noExternal).review
    exact no_sample air heard present kept fun u servo => Station.busDifference_none (.inr (by rw [servo]; exact unfit))
  · obtain ⟨-, time, -, -, sel⟩ := afterBeacon_spec present f cls
    have follows : FollowsExternal (afterBeacon s p f cls) :=
      ⟨by rw [time]; exact external, by rw [sel]; exact signal, by rw [sel]; exact source⟩
    exact no_sample air heard present follows.review.1 fun u servo =>
      Station.busDifference_none (.inl (by rw [servo]; exact other))
  · obtain ⟨-, -, -, seat, sel⟩ := afterBeacon_spec present f cls
    have best := best_afterBeacon (f := f) present heard.unbarred apart noExternal below there now higher
    have kept : (afterBeacon s p f cls).review.sel.source = (afterBeacon s p f cls).sel.source := by
      rw [best.review_source (by rw [sel, seat]; exact above), sel]
      exact source.symm
    exact no_sample air heard present kept fun u servo =>
      Station.busDifference_none (.inl (by rw [servo]; exact other))

end Sys2Proof.Slice0
end

section
/-! SUPPORT. The record of a BEACON, its candidate, and a step that its sample asks for (R57, R58, R111, R136, R137,
R153). -/

-- One theorem after another: the check's data limit has no room for a thread for each.
set_option Elab.async false

open Sys2Proof Sys2Proof.Machine Sys2Proof.Safety Sys2Proof.Slice0

namespace Sys2Proof.Machine

/-! ### What a BEACON leaves (R57, R58) -/

/-- What the selector and the servo leave of the station when a BEACON is taken; at most one step is taken. -/
structure BeaconKept (air : Bool) (s t : Station) : Prop where
  share : t.share = s.share
  seat : t.seat = s.seat
  present : t.pins.seatPresent = s.pins.seatPresent
  hold : t.hold = s.hold
  localTime : t.localTime = s.localTime
  lane : t.lane = { s.lane with rxStamp := t.lane.rxStamp }
  rx : t.rx = s.rx
  stamps : StampsFollow air s t

theorem ReviewFrame.beaconKept {s t : Station} (h : ReviewFrame s t) (air : Bool) : BeaconKept air s t :=
  ⟨h.share, h.seat, congrArg Pins.seatPresent h.pins, h.hold, h.localTime, by rw [h.lane], h.rx,
    .inl ⟨by rw [h.time], fun p => Station.peer_of_roster _ _ h.roster p⟩⟩

theorem SampleTaken.beaconKept {s t : Station} {f d : Int} {air : Bool} (h : SampleTaken s t f d air) :
    BeaconKept air s t :=
  ⟨h.frame.share, h.frame.seat, h.frame.present, h.frame.hold, h.frame.localTime, h.frame.lane, h.frame.rx, h.stamps⟩

/-- A review before. -/
theorem BeaconKept.after {air : Bool} {s t u : Station} (h : ReviewFrame s t) (g : BeaconKept air t u) :
    BeaconKept air s u := by
  have count : t.time.stepCount = s.time.stepCount := by rw [h.time]
  refine ⟨g.share.trans h.share, g.seat.trans h.seat, g.present.trans (congrArg Pins.seatPresent h.pins),
    g.hold.trans h.hold, g.localTime.trans h.localTime, by rw [g.lane, h.lane], g.rx.trans h.rx, ?_⟩
  rcases g.stamps with ⟨same, peers⟩ | ⟨moved, quiet, peers⟩
  · exact .inl ⟨same.trans count, fun p => (peers p).trans (Station.peer_of_roster _ _ h.roster p)⟩
  · exact .inr ⟨count ▸ moved, quiet, fun p => (peers p).trans (congrArg _ (Station.peer_of_roster _ _ h.roster p))⟩

/-- A review behind. -/
theorem BeaconKept.before {air : Bool} {s t u : Station} (h : BeaconKept air s t) (g : ReviewFrame t u) :
    BeaconKept air s u := by
  have count : u.time.stepCount = t.time.stepCount := by rw [g.time]
  refine ⟨g.share.trans h.share, g.seat.trans h.seat, (congrArg Pins.seatPresent g.pins).trans h.present,
    g.hold.trans h.hold, g.localTime.trans h.localTime, by rw [g.lane, h.lane], g.rx.trans h.rx, ?_⟩
  rcases h.stamps with ⟨same, peers⟩ | ⟨moved, quiet, peers⟩
  · exact .inl ⟨count.trans same, fun p => (Station.peer_of_roster _ _ g.roster p).trans (peers p)⟩
  · exact .inr ⟨count.symm ▸ moved, quiet, fun p => (Station.peer_of_roster _ _ g.roster p).trans (peers p)⟩

/-! ### The candidate of the slot (R136, R137) -/

/-- R136, R137: any candidate of slot `p` has the class of its record, 13 at most, and this deadline. -/
structure OwnCandidate (p : Slot) (cls deadline : Nat) (t : Station) : Prop where
  record : (t.peer p).cls = some cls
  cands : ∀ c ∈ t.sel.cands, c.slot = p → c.cls = cls ∧ c.deadline = deadline ∧ cls ≤ 13

theorem OwnCandidate.review {p : Slot} {cls deadline : Nat} {t : Station} (h : OwnCandidate p cls deadline t) :
    OwnCandidate p cls deadline t.review := by
  refine ⟨(congrArg Peer.cls (Station.peer_of_roster _ _ t.review_frame.roster p)).trans h.record, fun c hc slot => ?_⟩
  obtain ⟨⟨-, -, -, now, low⟩, x, hx, xslot, same⟩ := (t.mem_review_cands c).1 hc
  obtain ⟨-, deadline_, -⟩ := h.cands x hx (xslot.trans slot)
  rw [slot, h.record] at now
  have cls_ := Option.some.inj now
  exact ⟨cls_.symm, same.symm.trans deadline_, cls_ ▸ low⟩

theorem OwnCandidate.reviews {p : Slot} {cls deadline : Nat} {t : Station} (h : OwnCandidate p cls deadline t) (n : Nat) :
    OwnCandidate p cls deadline (t.reviews n) :=
  reviews_keep (OwnCandidate p cls deadline) (fun _ g => g.review) t n h

/-- R58: whether the stamps stand or are void, a record keeps its class and the arrival of its beacon. -/
theorem stamps_record {air : Bool} {s t : Station} (h : StampsFollow air s t) (p : Slot) :
    (t.peer p).cls = (s.peer p).cls ∧
      (t.peer p).beacon.map BeaconRec.arrival = (s.peer p).beacon.map BeaconRec.arrival := by
  rcases h with ⟨-, peers⟩ | ⟨-, -, peers⟩ <;> rw [peers p]
  · exact ⟨rfl, rfl⟩
  · refine ⟨rfl, ?_⟩
    unfold Peer.voidStamp
    cases (s.peer p).beacon <;> rfl

theorem OwnCandidate.sample {p : Slot} {cls deadline : Nat} {s t : Station} {f d : Int} {air : Bool}
    (h : OwnCandidate p cls deadline s) (taken : SampleTaken s t f d air) : OwnCandidate p cls deadline t := by
  refine ⟨(stamps_record taken.stamps p).1.trans h.record, ?_⟩
  rw [taken.frame.sel]
  exact h.cands

/-- R137: after its beacon's arrival the slot is a candidate by its new record, or none. -/
theorem ownCandidate_renewed {p : Slot} {cls arrival : Nat} {s : Station} (record : (s.peer p).cls = some cls)
    (beacon : (s.peer p).beacon.map BeaconRec.arrival = some arrival) :
    OwnCandidate p cls (arrival + 25000000) (s.renewCandidate p) := by
  refine ⟨record, fun c hc slot => ?_⟩
  rcases Station.renewCandidate_mem hc with ⟨-, new⟩ | ⟨other, -⟩
  · obtain ⟨b, hb, at_⟩ := Option.map_eq_some_iff.1 beacon
    have cls_ := Station.candidateOf_class new
    obtain ⟨-, -, -, same, low⟩ := (s.candidateClass_iff p c.cls).1 cls_
    rw [record] at same
    have same := Option.some.inj same
    refine ⟨same.symm, ?_, same ▸ low⟩
    unfold Station.candidateOf at new
    rw [cls_, hb] at new
    obtain ⟨-, eq⟩ := Option.ite_none_right_eq_some.1 new
    rw [← Option.some.inj eq, ← at_]
    rfl
  · exact absurd slot other

/-! ### The servo's part of a BEACON (R153, R154) -/

/-- R153, R154: the sample of a pair, or none. -/
theorem Station.busSample_cases (s : Station) (p : Slot) (previous : Option Stamp) (stepped : Bool) (seq : Byte)
    (record : Option BeaconRec) (air : Bool) :
    s.busSample p previous stepped seq record air = s ∨
      ∃ d, SampleTaken s (s.busSample p previous stepped seq record air) 16 d air := by
  unfold Station.busSample
  cases h : s.busDifference p previous stepped seq record with
  | none => exact .inl rfl
  | some d =>
    have away : s.servo.state ≠ .holdover := fun held => by
      rw [Station.busDifference_none (.inr (.inl held))] at h
      cases h
    exact .inr ⟨d, Station.judgeSample_taken away 16 d air⟩

/-- R142, R153: the servo's act on a BEACON, with its reviews. -/
theorem Station.servoActs_kept (s : Station) (p : Slot) (previous : Option Stamp) (stepped : Bool) (seq : Byte)
    (record : Option BeaconRec) (air : Bool) :
    let t := s.thenReviews fun u => u.busSample p previous stepped seq record air
    BeaconKept air s t ∧ ∀ cls deadline, OwnCandidate p cls deadline s → OwnCandidate p cls deadline t := by
  have cases_ := s.busSample_cases p previous stepped seq record air
  have acts : s.thenReviews (fun u => u.busSample p previous stepped seq record air) =
      (s.busSample p previous stepped seq record air).reviews
        (servoEvents s.servo (s.busSample p previous stepped seq record air).servo) := rfl
  dsimp only
  rw [acts]
  generalize s.busSample p previous stepped seq record air = v at *
  generalize servoEvents s.servo v.servo = n
  have f := v.reviews_frame n
  rcases cases_ with rfl | ⟨d, taken⟩
  · exact ⟨f.beaconKept air, fun _ _ h => h.reviews n⟩
  · exact ⟨taken.beaconKept.before f, fun _ _ h => (h.sample taken).reviews n⟩

/-- R57, R58, R136, R137: a BEACON taken, in either order of the selector and the servo (log 9). -/
theorem Station.takeBeacon_kept_record (s : Station) (p : Slot) (seq : Byte) (cls : Nat) (previous : Option Stamp)
    (stepped : Bool) (stamp : RxStamp) (air : Bool) :
    let t := s.takeBeacon p seq cls previous stepped stamp air
    BeaconKept air (s.setPeer p { s.peer p with
        beacon := some ⟨seq, stamp.stamp, stamp.void, cls, s.localTime⟩, cls := some cls }) t ∧
      OwnCandidate p cls (s.localTime + 25000000) t := by
  let w := s.setPeer p { s.peer p with
    beacon := some ⟨seq, stamp.stamp, stamp.void, cls, s.localTime⟩, cls := some cls }
  let selector := fun t : Station => (t.renewCandidate p).reviews 1
  let servo := fun t : Station => t.thenReviews fun u => u.busSample p previous stepped seq (s.peer p).beacon air
  have record : (w.peer p).cls = some cls ∧ (w.peer p).beacon.map BeaconRec.arrival = some s.localTime := by
    rw [s.peer_setPeer_same]
    exact ⟨rfl, rfl⟩
  have selects (u : Station) : ReviewFrame u (selector u) :=
    (u.renewCandidate_frame p).trans (Station.reviews_frame _ 1)
  have acts (u : Station) := u.servoActs_kept p previous stepped seq (s.peer p).beacon air
  have enters {u x : Station} (hu : u.roster = w.roster) (h : StampsFollow air u x) :
      OwnCandidate p cls (s.localTime + 25000000) (selector x) := by
    obtain ⟨cls_, arrival⟩ := stamps_record h p
    rw [Station.peer_of_roster w u hu] at cls_ arrival
    exact (ownCandidate_renewed (cls_.trans record.1) (arrival.trans record.2)).reviews 1
  have orders (u : Station) (hu : u.roster = w.roster) :
      (BeaconKept air u (servo (selector u)) ∧ OwnCandidate p cls (s.localTime + 25000000) (servo (selector u))) ∧
      (BeaconKept air u (selector (servo u)) ∧ OwnCandidate p cls (s.localTime + 25000000) (selector (servo u))) := by
    obtain ⟨first, keeps⟩ := acts (selector u)
    obtain ⟨kept, -⟩ := acts u
    have here := ((ReviewFrame.refl u).beaconKept air).stamps
    exact ⟨⟨BeaconKept.after (selects u) first, keeps _ _ (enters hu here)⟩, kept.before (selects _), enters hu kept.stamps⟩
  have drawn {t : Station} (h : BeaconKept air { w with freeIdx := w.freeIdx + 1 } t) : BeaconKept air w t :=
    ⟨h.share, h.seat, h.present, h.hold, h.localTime, h.lane, h.rx, h.stamps⟩
  have taken : s.takeBeacon p seq cls previous stepped stamp air =
      if (w.renewCandidate p).reviewMovesSource then eitherOrder selector servo w else servo (selector w) := rfl
  obtain ⟨⟨one, own⟩, two, own'⟩ := orders { w with freeIdx := w.freeIdx + 1 } rfl
  dsimp only
  rw [taken]
  split
  · rcases eitherOrder_cases selector servo w with h | h <;> rw [h]
    · exact ⟨drawn one, own⟩
    · exact ⟨drawn two, own'⟩
  · exact (orders w rfl).1

end Sys2Proof.Machine
end

section
/-! SUPPORT. BEACON frames and the beacon record (R57, R58, R111, R137, R153). -/

-- One theorem after another: the check's data limit has no room for a thread for each.
set_option Elab.async false

open Sys2Proof Sys2Proof.Machine Sys2Proof.Safety Sys2Proof.Slice0

namespace Sys2Proof.Slice0

/-- R15, R57, R111: the lane and the receive queues behind a BEACON. -/
theorem beacon_ends {air : Bool} {s v w : Station} (settled : HeardFrame (marked s) v) (taken : BeaconKept air v w) :
    w.rx = s.rx ∧ MarkedTaken s w ∧ RxEnds s w := by
  have lane : w.lane = { (marked s).lane with rxStamp := w.lane.rxStamp } := by
    rw [taken.lane, settled.lane]
  refine ⟨taken.rx.trans settled.rx, markedTaken_of_marks ?_, ⟨taken.share.trans settled.share,
    taken.seat.trans settled.seat, taken.present.trans settled.present, taken.hold.trans settled.hold,
    taken.localTime.trans settled.localTime, ?_⟩, ?_⟩
  · rw [lane]
    rfl
  · rw [lane]
    rfl
  · rw [lane]
    rfl

/-- Settles O30: of the selector's and the servo's acts, in either order, only a step moves a record, and each review
renews the candidate from the record. -/
theorem beaconsRefreshTheBeaconRecord : Obligations.BeaconsRefreshTheBeaconRecord := by
  intro s key p f air cls previous stepped heard there notSelf
  have slot := heard.receiving.source
  subst slot
  have run := exec_frameHandover_heard air heard (fun _ => nofun) (.inr there)
  obtain ⟨record, others, frame, now, -, -⟩ := marked_settle_spec s.toStation (keySlot key)
  obtain ⟨-, -, -, clock⟩ := (marked s.toStation).settle_spec (keySlot key)
  have count : ((marked s.toStation).settle (keySlot key)).time.stepCount = s.time.stepCount := by rw [clock]; rfl
  have taken := ((marked s.toStation).settle (keySlot key)).takeBeacon_kept_record (keySlot key) f.seq cls previous stepped
    s.startStamp air
  have run' : exec (.frameHandover f air) s = .next { s with
      toStation := closing (((marked s.toStation).settle (keySlot key)).takeBeacon (keySlot key) f.seq cls previous stepped
        s.startStamp air) } := run
  clear run
  generalize (marked s.toStation).settle (keySlot key) = v at *
  obtain ⟨kept, own⟩ := taken
  generalize v.takeBeacon (keySlot key) f.seq cls previous stepped s.startStamp air = w at *
  let new : BeaconRec := ⟨f.seq, s.startStamp.stamp, s.startStamp.void, cls, s.localTime⟩
  let u := v.setPeer (keySlot key) { v.peer (keySlot key) with
    beacon := some ⟨f.seq, s.startStamp.stamp, s.startStamp.void, cls, v.localTime⟩, cls := some cls }
  have upeer : u.peer (keySlot key) = { heardRecord s.toStation (keySlot key) with
      cls := some cls, beacon := some new } := by
    rw [v.peer_setPeer_same, record, now]
  have uothers (q : Slot) (hq : q ≠ keySlot key) : u.peer q = s.peer q :=
    (v.peer_setPeer_other _ _ q hq).trans (others q hq)
  obtain ⟨rx, marks, ends⟩ := beacon_ends (frame.trans (v.setPeer_heard _ _)) kept
  have stamps : StampsFollow air u w := kept.stamps
  have ucount : u.time.stepCount = s.time.stepCount := count
  have steady := closing_steady w
  have closed := w.closing_heard
  obtain ⟨-, -, -, -, -, roster, sel, -⟩ := w.closing_frame
  have deadline := own.cands
  rw [← sel, now] at deadline
  have peers (q : Slot) : (closing w).peer q = w.peer q := Station.peer_of_roster _ _ roster q
  have turns : (closing w).time.stepCount = w.time.stepCount := by rw [steady.time]
  have ends' : RxEnds s.toStation (closing w) := by
    obtain ⟨⟨share, seat, present, hold, time, lane⟩, left⟩ := ends
    refine ⟨⟨closed.share.trans share, closed.seat.trans seat, closed.present.trans present, closed.hold.trans hold,
      closed.localTime.trans time, ?_⟩, ?_⟩
    · rw [closed.lane]
      exact lane
    · rw [closed.lane]
      exact left
  have marks' : MarkedTaken s.toStation (closing w) := by
    unfold MarkedTaken
    rw [closed.lane]
    exact marks
  have rx' := closed.rx.trans rx
  generalize closing w = t at *
  have classes : ∀ c ∈ t.sel.cands, c.slot = keySlot key → c.cls = cls ∧ c.deadline = s.localTime + 25000000 :=
    fun c hc slot => ⟨(deadline c hc slot).1, (deadline c hc slot).2.1⟩
  have high : 14 ≤ cls → ∀ c ∈ t.sel.cands, c.slot ≠ keySlot key := fun high c hc slot => by
    have low := (deadline c hc slot).2.2
    omega
  rcases stamps with ⟨same, wpeers⟩ | ⟨moved, quiet, wpeers⟩
  · have still : t.time.stepCount = s.time.stepCount := turns.trans (same.trans ucount)
    exact ⟨_, new, run', (peers _).trans ((wpeers _).trans upeer), rfl, fun _ => rfl, fun stepped => absurd still stepped,
      fun _ q hq => (peers q).trans ((wpeers q).trans (uothers q hq)), classes, high, rx', marks', ends'⟩
  · have stepped_ : t.time.stepCount ≠ s.time.stepCount := by rw [turns, ← ucount]; exact moved
    refine ⟨_, { new with void := true }, run', ?_, rfl, fun still => absurd still stepped_, fun _ => ⟨rfl, quiet,
      fun q hq => ?_⟩, fun still => absurd still stepped_, classes, high, rx', marks', ends'⟩
    · refine (peers _).trans ((wpeers _).trans ?_)
      rw [upeer]
      rfl
    · refine (peers q).trans ((wpeers q).trans ?_)
      rw [uothers q hq]
      rfl

end Sys2Proof.Slice0
end
